-- ==== Sys2Proof/Word.lean ====
section
/-! DEFINITION. The plain words of the controller's commands: bytes, service times, and the encoded operand fields
that ch. 11 gives more than one number to (R188). A command carries the ENCODED value of each of its fields, because
"the receiving block judges a field by its encoded value" (R188): a value the field cannot hold is refused by the
meaning, not by the type. -/

namespace Sys2Proof

/-- One byte of a frame (ch. 11). -/
abbrev Byte := BitVec 8

/-- A service time or an elapsed count: seconds, 0 to 4,294,967,295, wrapping (R179, R180). -/
abbrev Time := BitVec 32

/-- The header of an incoming handset frame: site field, sending handset identity, request number (R145). -/
structure Handset where
  site : Nat
  identity : Nat
  req : Nat
  deriving DecidableEq, Repr

/-- The port a two-port command came in on: the desk with its request number (R157), or a handset (R145). -/
inductive Port where
  | desk (req : Nat)
  | handset (h : Handset)
  deriving DecidableEq, Repr

/-- An encoded plate field: its length byte and its ten character places (R188). -/
structure PlateField where
  len : Nat
  chars : List Nat
  deriving DecidableEq, Repr

/-- An encoded "1 + 4" field: presence byte, then a four-byte value (R188: optional time, folio). -/
structure OptWord where
  presence : Nat
  value : Nat
  deriving DecidableEq, Repr

/-- The optional field with nothing in it. -/
def OptWord.absent : OptWord := ⟨0, 0⟩

/-- The plate field of length zero, which means absent (R3). -/
def PlateField.absent : PlateField := ⟨0, List.replicate 10 0⟩

end Sys2Proof
end

