-- ==== Sys2Proof/Syntax.lean ====
section
/-! DEFINITION. The commands of the Faircourt 3400: one constructor per row of spec/opcode_table.json, in the table's
order, with the row's operands. Numbers are the encoded values of the fields of ch. 11 (R188); `req` is a desk
request number (R157). Optional coded bytes carry 255 when absent, optional two-byte fields 65535, `OptWord` its
presence byte. -/

namespace Sys2Proof

/-- A command or event the controller can take. -/
inductive Instr where
  -- desk commands, some of them handset messages too (chapter 9)
  | accept (port : Port) (grade need tier : Nat) (plate : PlateField) (folio : OptWord) (lane : Nat)
  | handover (port : Port) (ticket expected : Nat)
  | hold (req ticket expected : Nat)
  | resolveStored (req ticket expected : Nat)
  | resolveMoveTo (req ticket zone index expected : Nat)
  | resolveWaiting (req ticket expected : Nat)
  | retire (req ticket expected : Nat)
  | getRecord (req ticket expected : Nat)
  | amend (req ticket : Nat) (plate : Option PlateField) (folio : Option OptWord) (expected : Nat)
  | findPlate (req : Nat) (plate : PlateField) (start : Nat)
  | findFolio (req : Nat) (folio : OptWord) (start : Nat)
  | list (req start filter : Nat)
  | setParkLimit (req limit : Nat)
  | enableStall (req zone index : Nat)
  | disableStall (req zone index : Nat)
  | openZone (req zone : Nat)
  | closeZone (req zone : Nat)
  | setZoneFlags (req zone night spill : Nat)
  | setPreference (req tier count : Nat) (zones : List Nat)
  | setPair (req zone : Nat)
  | unpair (req zone : Nat)
  | setSlot (req slot grade : Nat)
  | setStallSlot (req zone index slot : Nat)
  | readZone (req zone : Nat)
  | readStall (req zone index : Nat)
  | readWaitList (req : Nat)
  | setSilenceTime (req seconds : Nat)
  | setWithdrawal (req zone on : Nat)
  | setWindowTime (req seconds : Nat)
  | setCustodyLimit (req seconds : Nat)
  | beginPanelService (req panel : Nat)
  | endPanelService (req panel : Nat)
  | readHook (req hook : Nat)
  | call (port : Port) (ticket tier : Nat) (due : OptWord) (expected : Nat)
  | cancelCall (port : Port) (ticket expected : Nat)
  | setLeadTime (req zone seconds : Nat)
  | readLeadTimes (req : Nat)
  | readQueue (req start : Nat)
  | setAckTime (req seconds : Nat)
  | readRoster (req : Nat)
  | enableBay (req bay : Nat)
  | disableBay (req bay : Nat)
  | setBayFlags (req bay night : Nat)
  | setDwellTime (req seconds : Nat)
  | clearLane (req lane : Nat)
  | readKerb (req : Nat)
  /-- CAPTURE SITE, with the levels the SITE0 and SITE1 inputs have when it is taken (R146). -/
  | captureSite (req : Nat) (site0 site1 : Bool)
  | readStatus (req : Nat)
  | readAttention (req : Nat)
  | clearAttention (req causes : Nat)
  | setAttentionEnables (req enables master : Nat)
  | defineZone (req zone count : Nat)
  | defineFixedStall (req zone index attr grade : Nat)
  | definePanel (req panel : Nat)
  | defineBays (req bays : Nat)
  | freezeLayout (req : Nat)
  | setServiceState (req state : Nat)
  | clearSite (req confirm : Nat)
  | setClock (req value : Nat)
  | setChainMask (req zones : Nat)
  | restart (req confirm : Nat)
  /-- A write transaction that fails the checks of R158, with every byte the host sent. -/
  | deskBadFrame (bytes : List Byte)
  | deskUnknownCommand (req code : Nat)
  /-- A desk transaction that is neither a write nor a read (R187), with its bytes. -/
  | deskIgnoredTransaction (bytes : List Byte)
  -- handset messages (chapter 8)
  | signOn (h : Handset) (roster : Nat)
  | signOff (h : Handset)
  | takeBreak (h : Handset)
  | ready (h : Handset)
  | parked (h : Handset) (ticket : Nat)
  | ack (h : Handset) (ticket : Nat)
  | decline (h : Handset) (ticket : Nat)
  | abandon (h : Handset) (ticket : Nat)
  | keyAgain (h : Handset) (ticket : Nat)
  | staged (h : Handset) (ticket bay : Nat)
  | repark (h : Handset) (ticket : Nat)
  | handsetFrameDropped (bytes : List Byte)
  | handsetUnknownKind (h : Handset) (kind : Nat)
  | handsetFrameSent
  -- the zone report line and the cabinet bus
  /-- A complete zone report frame: zone byte, the twelve occupancy bytes as one set of indices, check value. -/
  | zoneReport (zone : Nat) (occupied : BitVec 96) (check : Nat)
  | silenceTimerExpiry (zone : Nat)
  | hookLoaded (panel position tag : Nat)
  | hookEmptied (panel position latched : Nat)
  | latchDone (panel position latch : Nat)
  | cabinetMessageDropped (bytes : List Byte)
  -- timers, lines and power
  | latchRepeat (hook : Nat)
  | windowTimerExpiry (hook : Nat)
  | keyWarningPoint (hook : Nat)
  | custodyLimitReached (hook : Nat)
  | parkLimitReached (ticket : Nat)
  | ackTimerExpiry (attendant : Nat)
  | dwellTimerExpiry (bay : Nat)
  | driveOffTimerExpiry (bay : Nat)
  | recoveryTimerExpiry
  | elapsedSecond
  | laneLoopChange (lane : Nat) (level : Bool)
  | bayLoopChange (bay : Nat) (level : Bool)
  | chainLoad
  /-- The main supply applied after both supplies were lost, and whether the backup supply is there from now on. -/
  | powerOn (backup : Bool)
  | mainSupplyLost
  | mainSupplyReturn
  | resetNAsserted
  | resetNReleased
  | backupSupplyLost
  /-- A rising edge of CHAIN_CLK, with the level of CHAIN_IN at the edge (R181). -/
  | chainClkRisingEdge (chainIn : Bool)
  deriving DecidableEq, Repr

end Sys2Proof
end

