-- ==== Sys2Proof/Decode.lean ====
section
/-! DEFINITION. The command a table word spells. No row of spec/opcode_table.json gives bits (every row's "fields" is
empty and none has "fixed"), so no word spells a command. The frames of ch. 11, which do spell commands in bytes, are
read in Machine/Frames.lean. -/

namespace Sys2Proof

/-- The command spelled by a word of `nbits` bits numbered as the opcode table numbers them: none, for every word. -/
def decodeTableWord (_nbits _w : Nat) : Option Instr := none

end Sys2Proof
end

