-- ==== Sys2Proof/Config.lean ====
section
/-! DEFINITION. The numbers the reference fixes for every controller: table sizes, ranges and defaults, each with the
rule that gives it. The reference leaves no value to the implementation and no result undefined, so there is no free
value here (see notes/assumptions/1.md). -/

namespace Sys2Proof.Config

/-- Record slots of the Custody Table (R1). -/
def recordSlots : Nat := 1024
/-- The highest ticket (R2). -/
def maxTicket : Nat := 999999
/-- Zones of the controller (R30). -/
def zones : Nat := 12
/-- The most stalls one zone may hold (R30). -/
def maxZoneStalls : Nat := 96
/-- The most stalls of the whole layout (R30, R174). -/
def maxStalls : Nat := 960
/-- Places on the wait list (R49). -/
def waitPlaces : Nat := 24
/-- Key panels, and hooks on each (R69). -/
def panels : Nat := 4
def hooksPerPanel : Nat := 256
/-- Entries of the Job Queue, and the count at which an addition raises QUEUE_HIGH (R92, R95). -/
def queuePlaces : Nat := 64
def queueHigh : Nat := 56
/-- Roster entries (R111) and the keys an attendant may have out (R86, R117). -/
def attendants : Nat := 32
def keyLimit : Nat := 3
/-- Kerb bays (R133), arrival lanes and the captures one lane FIFO holds (R130). -/
def bays : Nat := 8
def lanes : Nat := 2
def laneCaptures : Nat := 4
/-- Frames the handset transmit buffer holds (R155). -/
def txPlaces : Nat := 64
/-- Reparks after which a staged car may not be taken back again (R18). -/
def maxReparks : Nat := 3
/-- Summaries a lookup or LIST page returns, and entries a READ QUEUE page returns (R28, R29, R109). -/
def pageSize : Nat := 8

/-- The confirm value of CLEAR SITE and RESTART (R178, R183). -/
def confirmValue : Nat := 0x5A3C

/-- The latch repeat interval in seconds (R71) and the drive-off time (R141); both are fixed. -/
def latchRepeat : Nat := 2
def driveOffTime : Nat := 20

/-- Default durations in seconds: R6, R57, R81, R85, R120, R140, R108. -/
def parkLimitDefault : Nat := 900
def silenceTimeDefault : Nat := 10
def windowTimeDefault : Nat := 90
def custodyLimitDefault : Nat := 900
def ackTimeDefault : Nat := 20
def dwellTimeDefault : Nat := 600
def leadTimeDefault : Nat := 240

/-- The grade slots A to D at power-on (R34). -/
def gradeSlotDefaults : List Nat := [15, 9, 5, 2]

/-- A tier's preference list at power-on (R45). -/
def preferenceDefault : List Nat := List.range 12

end Sys2Proof.Config
end

