-- ==== Sys2Proof/Machine/State.lean ====
section
/-! DEFINITION. The state of the controller as plain data: nine blocks, each with the state its chapter gives it, the
supplies and pins, the trigger marks of the event under way, and the queue of waiting commands. A record is named by
its ticket wherever another block refers to it (R1: no two live records carry the same ticket). -/

namespace Sys2Proof.Machine

/-! ### Named values (ch. 11.2) -/

/-- Where a car is in its visit (R3), in code order. -/
inductive RecordState where
  | inbound | waiting | granted | stored | called | fetching | staged | suspended
  deriving DecidableEq, Repr

/-- The kind of stall a car needs (R3), which is also the attribute of a stall (R32). -/
inductive Need where
  | none | charger | secure
  deriving DecidableEq, Repr

/-- Why a record is SUSPENDED (R3). -/
inductive SuspendReason where
  | keyForced | stallEmpty | restart | deskHold
  deriving DecidableEq, Repr

/-- The port a call came by (R3, R98). -/
inductive Source where
  | desk | handset
  deriving DecidableEq, Repr

/-- The service states (R171), in code order. -/
inductive ServiceState where
  | commissioning | closed | opened | night | recovery
  deriving DecidableEq, Repr

/-- Zone link states (R56). -/
inductive LinkState where
  | never | live | silent
  deriving DecidableEq, Repr

/-- Sensed occupancy of a stall (R32). -/
inductive Sensed where
  | vacant | occupied | unknown
  deriving DecidableEq, Repr

/-- Where a stall's grade comes from: a grade slot 0 to 3 (A to D), or a fixed grade, which makes the stall a fixed
stall (R32). -/
inductive GradeSource where
  | slot (n : Nat)
  | fixed (grade : Nat)
  deriving DecidableEq, Repr

/-- Hook states of a panel in the layout (R70). A hook of another panel is ABSENT: it has no entry. -/
inductive HookState where
  | free | await | held | opened | out
  deriving DecidableEq, Repr

/-- The progress of a release window (R70). -/
inductive WindowPhase where
  | none | running | closing | ending
  deriving DecidableEq, Repr

/-- A latch position, coded 0 open and 1 closed (R188). -/
inductive Latch where
  | opened | closed
  deriving DecidableEq, Repr

/-- The two kinds of job (R92). -/
inductive JobKind where
  | fetch | move
  deriving DecidableEq, Repr

/-- Entry statuses (R92, R93). -/
inductive EntryStatus where
  | queued | offered | taken
  deriving DecidableEq, Repr

/-- Attendant states (R111, R112), in code order. -/
inductive AttendantState where
  | off | idle | parking | offered | fetching | moving | away
  deriving DecidableEq, Repr

/-- Why a QUEUED entry is not ready (R103, R106), in code order. -/
inductive Unmet where
  | notCalled | notGranted | notDue | keyNotHome | keyAway | ramp | panel | kerb
  deriving DecidableEq, Repr

/-- The fourteen attention causes, in order of priority (ch. 9.5). -/
inductive Cause where
  | keyForced | restarted | zoneSilent | keyOverdue | stallAnomaly | keyMishung | ackTimeout | driveOff
  | dwellExpired | inboundLate | misfit | waitlisted | queueHigh | keyWarning
  deriving DecidableEq, Repr

/-- Outcome codes, in the order of the introduction's list, which is their code order (ch. 11.2). -/
inductive Answer where
  | done | already | notFound | wrongState | notAsExpected | tooLate | withdrawn | notYours | busy | notSignedOn
  | keyLimit | noHook | tableFull | waitlistFull | queueFull | badBay | zoneOpen | fixed | panelBusy | closed
  | layoutFixed | badField | badFrame
  deriving DecidableEq, Repr

/-! ### Small records -/

/-- A stall by its zone and index (R32). -/
structure StallId where
  zone : Nat
  index : Nat
  deriving DecidableEq, Repr

/-- A running duration timer: elapsed seconds since its start and the length it started with (R180). -/
structure Timer where
  elapsed : Nat
  length : Nat
  deriving DecidableEq, Repr

/-- The park timer of an INBOUND record, with the mark that its limit has been reached, after which it runs on without
effect (R6). -/
structure ParkTimer where
  elapsed : Nat
  length : Nat
  reached : Bool
  deriving DecidableEq, Repr

/-- One encoded field of a frame the controller sends: the rows of R188's table. -/
inductive Value where
  | byte (n : Nat)
  | optByte (n : Option Nat)
  | flag (b : Bool)
  | half (n : Nat)
  | optHalf (n : Option Nat)
  | ticket (n : Nat)
  | optTicket (n : Option Nat)
  | word (t : Time)
  | optWord (t : Option Time)
  | stall (s : Option StallId)
  | plate (cs : List Nat)
  /-- a presence byte, then a three-byte tag (log entry 10) -/
  | optTag (n : Option Nat)
  /-- a presence byte, then a two-byte count (log entry 10) -/
  | optCount (n : Option Nat)
  deriving DecidableEq, Repr

/-- The seven record flags (R5). -/
structure RecordFlags where
  misfit : Bool := false
  chargeUnmet : Bool := false
  inboundLate : Bool := false
  departureUnconfirmed : Bool := false
  dwellExpired : Bool := false
  keyOverdue : Bool := false
  keyAway : Bool := false
  deriving DecidableEq, Repr

/-- The call field of a record (R3). -/
structure CallField where
  tier : Nat
  due : Option Time
  time : Time
  source : Source
  deriving DecidableEq, Repr

/-- A custody record with its slot and its park timer (R1, R3, R6). -/
structure Record where
  slot : Nat
  ticket : Nat
  state : RecordState
  grade : Nat
  need : Need
  tier : Nat
  plate : List Nat
  folio : Option Nat
  stall : Option StallId
  hook : Nat
  bay : Option Nat
  attendant : Option Nat
  arrival : Option Time
  accepted : Time
  call : Option CallField
  flags : RecordFlags
  reason : Option SuspendReason
  reparks : Nat
  parkMark : Bool
  keyMark : Bool
  park : Option ParkTimer
  deriving DecidableEq, Repr

/-- A stall of a zone in the layout (R32). -/
structure Stall where
  source : GradeSource
  attr : Need
  enabled : Bool
  sensed : Sensed
  vacantRun : Nat
  occupiedRun : Nat
  holder : Option Nat
  stray : Bool
  deriving DecidableEq, Repr

/-- A zone record (R30); its stall count is the length of its stall list. -/
structure Zone where
  inLayout : Bool
  isOpen : Bool
  night : Bool
  spill : Bool
  paired : Bool
  withdrawal : Bool
  stalls : List Stall
  deriving DecidableEq, Repr

/-- The link state and silence timer of a zone (R56, R57). -/
structure ZoneLink where
  link : LinkState
  silence : Option Timer
  deriving DecidableEq, Repr

/-- A hook's entry (R70) with the timer that repeats an unconfirmed latch command (R71). -/
structure Hook where
  state : HookState
  bound : Option Nat
  attendant : Option Nat
  strayTag : Option Nat
  forced : Bool
  warned : Bool
  overdue : Bool
  phase : WindowPhase
  count : Nat
  latch : Option Latch
  repeatTimer : Option Timer
  window : Option Timer
  custody : Option Timer
  deriving DecidableEq, Repr

/-- A key panel (R69, R87): its hooks are there exactly when DEFINE PANEL has named it. -/
structure Panel where
  inLayout : Bool
  inService : Bool
  hooks : List Hook
  deriving DecidableEq, Repr

/-- A set latch message on the cabinet bus (R69). -/
structure SetLatch where
  hook : Nat
  latch : Latch
  deriving DecidableEq, Repr

/-- An entry of the Job Queue (R92); `slot` is the slot of its record, which R94 orders by last. -/
structure Entry where
  kind : JobKind
  ticket : Nat
  slot : Nat
  status : EntryStatus
  attendant : Option Nat
  tier : Nat
  time : Time
  due : Option Time
  deriving DecidableEq, Repr

/-- A roster entry (R111). `keptSince` is the idle-since of the attendant's last entry into the idle list, which a
withdrawn offer restores (R113). -/
structure Attendant where
  state : AttendantState
  handset : Option Nat
  idleSince : Option Time
  keptSince : Time
  ack : Option Timer
  deriving DecidableEq, Repr

/-- An arrival lane (R130). -/
structure Lane where
  loop : Bool
  fifo : List Time
  deriving DecidableEq, Repr

/-- A staging bay (R133). -/
structure Bay where
  inLayout : Bool
  enabled : Bool
  night : Bool
  loop : Bool
  holder : Option Nat
  dwell : Option Timer
  driveOff : Option Timer
  deriving DecidableEq, Repr

/-- The latch, enable and first subject of one attention cause (R161). -/
structure CauseCell where
  latch : Bool
  enable : Bool
  subject : Option Nat
  deriving DecidableEq, Repr

/-- The recovery timer and the zones not yet heard since the restart (R186). -/
structure Recovery where
  timer : Timer
  unheard : List Nat
  deriving DecidableEq, Repr

/-- A frame the controller gives the modem (ch. 11.4): header and fields. -/
structure HandsetFrame where
  site : Nat
  identity : Nat
  kind : Nat
  req : Nat
  body : List Value
  deriving DecidableEq, Repr

/-- A desk response frame (ch. 11.3); `answered` is absent for BAD_FRAME (R157). -/
structure Response where
  answered : Option (Nat × Nat)
  answer : Answer
  service : ServiceState
  line : Bool
  body : List Value
  deriving DecidableEq, Repr

/-! ### Creation values -/

/-- The zone number that no DEFINE ZONE has named (R30). -/
def Zone.absent : Zone :=
  { inLayout := false, isOpen := false, night := false, spill := false, paired := false, withdrawal := true, stalls := [] }

/-- A stall as DEFINE ZONE creates it (R32): slot B. -/
def Stall.created : Stall :=
  { source := .slot 1, attr := .none, enabled := true, sensed := .unknown, vacantRun := 0, occupiedRun := 0,
    holder := none, stray := false }

/-- A zone as DEFINE ZONE creates it (R30, R174). -/
def Zone.created (count : Nat) : Zone :=
  { Zone.absent with inLayout := true, stalls := List.replicate count Stall.created }

/-- The link of a zone that has not been heard (R56). -/
def ZoneLink.never : ZoneLink := { link := .never, silence := none }

/-- A hook's entry after DEFINE PANEL (R70). -/
def Hook.created : Hook :=
  { state := .free, bound := none, attendant := none, strayTag := none, forced := false, warned := false,
    overdue := false, phase := .none, count := 0, latch := none, repeatTimer := none, window := none, custody := none }

/-- A panel not in the layout: its hooks are ABSENT (R69). -/
def Panel.absent : Panel := { inLayout := false, inService := false, hooks := [] }

/-- A panel as DEFINE PANEL adds it (R176). -/
def Panel.created : Panel := { inLayout := true, inService := false, hooks := List.replicate 256 Hook.created }

/-- An attendant not signed on (R111). -/
def Attendant.off : Attendant :=
  { state := .off, handset := none, idleSince := none, keptSince := 0, ack := none }

/-- A bay not in the layout, over a loop of the given level (R133). -/
def Bay.absent (loop : Bool) : Bay :=
  { inLayout := false, enabled := false, night := false, loop := loop, holder := none, dwell := none, driveOff := none }

/-- A bay as it joins the layout (R133, R176). -/
def Bay.created (loop : Bool) : Bay := { Bay.absent loop with inLayout := true, enabled := true }

/-- A cause at power-on (R161). -/
def CauseCell.powerOn : CauseCell := { latch := false, enable := true, subject := none }

/-! ### The blocks -/

/-- Custody Table (chapter 1): live records in slot order, the ticket counter, the LIST cursor, the park limit. -/
structure Custody where
  records : List Record
  counter : Nat
  cursor : Nat
  parkLimit : Nat
  deriving DecidableEq, Repr

/-- Stall Map (chapter 2). -/
structure StallMap where
  zones : List Zone
  gradeSlots : List Nat
  prefs : List (List Nat)
  waitList : List Nat
  deriving DecidableEq, Repr

/-- Zone Link Monitor (chapter 3). -/
structure ZoneLinks where
  links : List ZoneLink
  silenceTime : Nat
  deriving DecidableEq, Repr

/-- Key Cabinet Controller (chapter 4); `sent` holds the set latch messages of the last event, oldest first. -/
structure Cabinet where
  panels : List Panel
  windowTime : Nat
  custodyLimit : Nat
  sent : List SetLatch
  deriving DecidableEq, Repr

/-- Job Queue (chapter 5): entries in queue order, the lead table. -/
structure JobQueue where
  entries : List Entry
  leads : List Nat
  deriving DecidableEq, Repr

/-- Dispatcher and Roster (chapter 6). -/
structure Roster where
  attendants : List Attendant
  idle : List Nat
  ackTime : Nat
  deriving DecidableEq, Repr

/-- Kerb Monitor (chapter 7). -/
structure Kerb where
  lanes : List Lane
  bays : List Bay
  dwellTime : Nat
  deriving DecidableEq, Repr

/-- Link Controllers (chapters 8, 9, 10): site filter, transmit buffer, response slot, ramp chain register. -/
structure Links where
  siteId : Nat
  siteFixed : Bool
  tx : List HandsetFrame
  response : Option Response
  shift : BitVec 12
  permits : BitVec 12
  mask : BitVec 12
  chainOut : Bool
  deriving DecidableEq, Repr

/-- Service and Attention Unit (chapters 9, 10). -/
structure Service where
  state : ServiceState
  clock : Time
  elapsed : Time
  causes : List CauseCell
  first : Option Cause
  master : Bool
  recovery : Option Recovery
  deriving DecidableEq, Repr

/-- Supplies, RESET_N and the levels of the input pins (R183, 00_scope.md "Ways in"). -/
structure Power where
  main : Bool
  backup : Bool
  resetAsserted : Bool
  lost : Bool
  lanes : List Bool
  bays : List Bool
  site0 : Bool
  site1 : Bool
  chainIn : Bool
  deriving DecidableEq, Repr

/-- What the event under way has called for at its end: a serving pass (R50), a look of the arbiter (R118). -/
structure Due where
  serve : Bool
  look : Bool
  deriving DecidableEq, Repr

/-- The controller, and the commands that wait to be taken, the next one first. -/
structure State where
  ct : Custody
  sm : StallMap
  zl : ZoneLinks
  kc : Cabinet
  jq : JobQueue
  dr : Roster
  km : Kerb
  lk : Links
  sa : Service
  pw : Power
  due : Due
  pending : List Instr
  deriving DecidableEq, Repr

/-- The spec names no condition on which the controller stops, so no command faults and the type has no constructor. -/
inductive Fault
  deriving DecidableEq, Repr

/-- Why a command has no next state. -/
inductive Refusal where
  /-- A command with no meaning yet, raised by an arm of exec alone; safe. No arm raises it now. -/
  | notModelled (mnemonic : String)
  deriving DecidableEq, Repr

/-! ### Power-on -/

/-- Power-on values of each block (R183 and the reset tables of the chapters). -/
def Custody.powerOn : Custody :=
  { records := [], counter := 0, cursor := 0, parkLimit := Config.parkLimitDefault }

def StallMap.powerOn : StallMap :=
  { zones := List.replicate 12 Zone.absent, gradeSlots := Config.gradeSlotDefaults,
    prefs := List.replicate 4 Config.preferenceDefault, waitList := [] }

def ZoneLinks.powerOn : ZoneLinks :=
  { links := List.replicate 12 ZoneLink.never, silenceTime := Config.silenceTimeDefault }

def Cabinet.powerOn : Cabinet :=
  { panels := List.replicate 4 Panel.absent, windowTime := Config.windowTimeDefault,
    custodyLimit := Config.custodyLimitDefault, sent := [] }

def JobQueue.powerOn : JobQueue :=
  { entries := [], leads := List.replicate 12 Config.leadTimeDefault }

def Roster.powerOn : Roster :=
  { attendants := List.replicate 32 Attendant.off, idle := [], ackTime := Config.ackTimeDefault }

/-- The kerb with its loop levels read from the inputs (R144). -/
def Kerb.powerOn (lanes bays : List Bool) : Kerb :=
  { lanes := lanes.map fun l => { loop := l, fifo := [] }, bays := bays.map Bay.absent,
    dwellTime := Config.dwellTimeDefault }

def Links.powerOn : Links :=
  { siteId := 0, siteFixed := false, tx := [], response := none, shift := 0, permits := 0, mask := 0,
    chainOut := false }

def Service.powerOn : Service :=
  { state := .commissioning, clock := 0, elapsed := 0, causes := List.replicate 14 CauseCell.powerOn, first := none,
    master := true, recovery := none }

/-- Powered, out of reset, every input low (log entries 2 and 4). -/
def Power.reset : Power :=
  { main := true, backup := true, resetAsserted := false, lost := false, lanes := List.replicate 2 false,
    bays := List.replicate 8 false, site0 := false, site1 := false, chainIn := false }

/-- Nothing is due between events. -/
def Due.clear : Due := { serve := false, look := false }

/-- Every block at its power-on values, over the given pins and waiting commands. -/
def State.poweredOn (pw : Power) (pending : List Instr) : State :=
  { ct := .powerOn, sm := .powerOn, zl := .powerOn, kc := .powerOn, jq := .powerOn, dr := .powerOn,
    km := .powerOn pw.lanes pw.bays, lk := .powerOn, sa := .powerOn, pw := pw, due := .clear, pending := pending }

/-- The controller right after power-on. -/
def State.reset : State := State.poweredOn Power.reset []

end Sys2Proof.Machine
end

