-- ==== Sys2Proof/Machine/Operands.lean ====
section
/-! DEFINITION. The encoded operand fields of the commands, read by R188: each function gives the field's value, or
nothing where the encoding holds no value of the field, which its command answers with BAD_FIELD. Then the codes of
ch. 11.2 in the other direction, for the frames the controller sends. -/

namespace Sys2Proof.Machine

/-! ### Reading fields -/

/-- A ticket field: 1 to 999,999 (R188). -/
def ticketOk (n : Nat) : Bool := 1 ≤ n && n ≤ Config.maxTicket

/-- An optional coded byte: 255 is absent (R188). -/
def optByte (n : Nat) : Option Nat := if n = 255 then none else some n

/-- A byte that says on or off, yes or no (R188); and set or clear, which R188 does not code: 1 is set and 0 clear (DESIGN CHOICE,
log entry 34). -/
def boolOf (n : Nat) : Option Bool := if n = 0 then some false else if n = 1 then some true else none

/-- A record state code (ch. 11.2). -/
def recordStateOf : Nat → Option RecordState
  | 0 => some .inbound | 1 => some .waiting | 2 => some .granted | 3 => some .stored
  | 4 => some .called | 5 => some .fetching | 6 => some .staged | 7 => some .suspended
  | _ => none

/-- An optional record state: 255 for none (R188); used for expected states and state filters. -/
def optStateOf (n : Nat) : Option (Option RecordState) :=
  if n = 255 then some none else (recordStateOf n).map some

/-- A need or attribute code (ch. 11.2). -/
def needOf : Nat → Option Need
  | 0 => some .none | 1 => some .charger | 2 => some .secure
  | _ => none

/-- ACCEPT's need: NONE unless given (R3, R8). -/
def acceptNeedOf (n : Nat) : Option Need := if n = 255 then some .none else needOf n

/-- A tier 0 to 3 (R3). -/
def tierOf (n : Nat) : Option Nat := if n ≤ 3 then some n else none

/-- ACCEPT's tier: 2 unless given (R3, R8). -/
def acceptTierOf (n : Nat) : Option Nat := if n = 255 then some 2 else tierOf n

/-- An optional tier (R98). -/
def optTierOf (n : Nat) : Option (Option Nat) := if n = 255 then some none else (tierOf n).map some

/-- A character of the plate set: A to Z, 0 to 9, space and hyphen (R3). -/
def plateChar (c : Nat) : Bool := (65 ≤ c && c ≤ 90) || (48 ≤ c && c ≤ 57) || c == 32 || c == 45

/-- A plate of 0 to 10 characters of the plate set; the unused places are ignored (R188). -/
def plateOf (p : PlateField) : Option (List Nat) :=
  let cs := p.chars.take p.len
  if p.len ≤ 10 ∧ cs.length = p.len ∧ cs.all plateChar = true then some cs else none

/-- A "1 + 4" field: presence 0 is absent, its value ignored; presence 1 is the value (R188). -/
def optWordOf (w : OptWord) : Option (Option Nat) :=
  if w.presence = 0 then some none
  else if w.presence = 1 ∧ w.value < 4294967296 then some (some w.value)
  else none

/-- A folio, 1 to 4,294,967,295, or absent (R3). -/
def folioOf (w : OptWord) : Option (Option Nat) :=
  match optWordOf w with
  | some (some 0) => none
  | r => r

/-- An optional due time: every time is accepted (R98). -/
def dueOf (w : OptWord) : Option (Option Time) := (optWordOf w).map (Option.map (BitVec.ofNat 32))

/-- An optional lane: LANE0 or LANE1 (R7). -/
def optLaneOf (n : Nat) : Option (Option Nat) :=
  if n = 255 then some none else if n < Config.lanes then some (some n) else none

/-- An optional start slot, 0 to 1023; 65535 is absent (R188). -/
def optSlotOf (n : Nat) : Option (Option Nat) :=
  if n = 65535 then some none else if n < Config.recordSlots then some (some n) else none

/-- A start position, 0 to 63, which defaults to 0; 255 is absent (R109, R188). -/
def startPositionOf (n : Nat) : Option Nat := if n = 255 then some 0 else if n ≤ 63 then some n else none

/-- The stall field's own limits: zone 0 to 11 and index 0 to 95 (R3). -/
def stallFieldOk (zone index : Nat) : Bool := zone < Config.zones && index < Config.maxZoneStalls

/-- A preference list field: its count, then that many distinct zones; the unused places are ignored (R45, R188). -/
def preferenceOf (count : Nat) (zones : List Nat) : Option (List Nat) :=
  let zs := zones.take count
  if count ≤ 12 ∧ zs.length = count ∧ zs.all (fun z => z < Config.zones) = true ∧ zs.Nodup then some zs else none

/-! ### Codes of what is sent -/

def RecordState.code : RecordState → Nat
  | .inbound => 0 | .waiting => 1 | .granted => 2 | .stored => 3
  | .called => 4 | .fetching => 5 | .staged => 6 | .suspended => 7

def ServiceState.code : ServiceState → Nat
  | .commissioning => 0 | .closed => 1 | .opened => 2 | .night => 3 | .recovery => 4

def Need.code : Need → Nat
  | .none => 0 | .charger => 1 | .secure => 2

/-- Absent is code 0 (ch. 11.2). -/
def suspendReasonCode : Option SuspendReason → Nat
  | none => 0 | some .keyForced => 1 | some .stallEmpty => 2 | some .restart => 3 | some .deskHold => 4

def Source.code : Source → Nat
  | .desk => 0 | .handset => 1

def Sensed.code : Sensed → Nat
  | .vacant => 0 | .occupied => 1 | .unknown => 2

def LinkState.code : LinkState → Nat
  | .never => 0 | .live => 1 | .silent => 2

def HookState.code : HookState → Nat
  | .free => 0 | .await => 1 | .held => 2 | .opened => 3 | .out => 4

def WindowPhase.code : WindowPhase → Nat
  | .none => 0 | .running => 1 | .closing => 2 | .ending => 3

def Latch.code : Latch → Nat
  | .opened => 0 | .closed => 1

def JobKind.code : JobKind → Nat
  | .fetch => 0 | .move => 1

def EntryStatus.code : EntryStatus → Nat
  | .queued => 0 | .offered => 1 | .taken => 2

def AttendantState.code : AttendantState → Nat
  | .off => 0 | .idle => 1 | .parking => 2 | .offered => 3 | .fetching => 4 | .moving => 5 | .away => 6

def Unmet.code : Unmet → Nat
  | .notCalled => 0 | .notGranted => 1 | .notDue => 2 | .keyNotHome => 3 | .keyAway => 4 | .ramp => 5 | .panel => 6
  | .kerb => 7

def Answer.code : Answer → Nat
  | .done => 0 | .already => 1 | .notFound => 2 | .wrongState => 3 | .notAsExpected => 4 | .tooLate => 5
  | .withdrawn => 6 | .notYours => 7 | .busy => 8 | .notSignedOn => 9 | .keyLimit => 10 | .noHook => 11
  | .tableFull => 12 | .waitlistFull => 13 | .queueFull => 14 | .badBay => 15 | .zoneOpen => 16 | .fixed => 17
  | .panelBusy => 18 | .closed => 19 | .layoutFixed => 20 | .badField => 21 | .badFrame => 22

/-- The flags byte of a record (R188). -/
def RecordFlags.code (f : RecordFlags) : Nat :=
  f.misfit.toNat + 2 * f.chargeUnmet.toNat + 4 * f.inboundLate.toNat + 8 * f.departureUnconfirmed.toNat +
    16 * f.dwellExpired.toNat + 32 * f.keyOverdue.toNat + 64 * f.keyAway.toNat

end Sys2Proof.Machine
end

