-- ==== Sys2Proof/Machine/Flags.lean ====
section
/-! DEFINITION. The flags the controller keeps: the attention causes with their latches, first subjects and first cause,
the attention line (R161 to R169), and the changes the spec gives the record flags (R5). -/

namespace Sys2Proof.Machine

/-! ### Attention causes -/

/-- The causes in order of priority (ch. 9.5). -/
def Cause.all : List Cause :=
  [.keyForced, .restarted, .zoneSilent, .keyOverdue, .stallAnomaly, .keyMishung, .ackTimeout, .driveOff,
   .dwellExpired, .inboundLate, .misfit, .waitlisted, .queueHigh, .keyWarning]

/-- The cause's place in a set of causes: priority n is bit n - 1 (R188). -/
def Cause.index : Cause → Nat
  | .keyForced => 0 | .restarted => 1 | .zoneSilent => 2 | .keyOverdue => 3 | .stallAnomaly => 4 | .keyMishung => 5
  | .ackTimeout => 6 | .driveOff => 7 | .dwellExpired => 8 | .inboundLate => 9 | .misfit => 10 | .waitlisted => 11
  | .queueHigh => 12 | .keyWarning => 13

/-- The cell of a cause. -/
def Service.cell (sa : Service) (c : Cause) : CauseCell := sa.causes.getD c.index CauseCell.powerOn

/-- A raising (R162): a clear latch sets and takes the subject, and becomes the first cause if that is empty; on a set
latch nothing changes. -/
def Service.raise (sa : Service) (c : Cause) (subject : Option Nat) : Service :=
  if (sa.cell c).latch then sa
  else { sa with
    causes := sa.causes.modify c.index fun k => { k with latch := true, subject := subject }
    first := match sa.first with
      | none => some c
      | some f => some f }

/-- A raising taken at SA. -/
def State.raise (s : State) (c : Cause) (subject : Option Nat) : State := { s with sa := s.sa.raise c subject }

/-- The latch is clear and its first subject absent; the enable stays. -/
def CauseCell.cleared (k : CauseCell) : CauseCell := { k with latch := false, subject := none }

/-- Clear the latches whose bit is set in `mask`; the first cause becomes empty if it names one of them (R167). -/
def Service.clearCauses (sa : Service) (mask : Nat) : Service :=
  { sa with
    causes := sa.causes.mapIdx fun i k => if mask.testBit i then k.cleared else k
    first := match sa.first with
      | none => none
      | some f => if mask.testBit f.index then none else some f }

/-- Every latch, first subject and the first cause cleared (R169). -/
def Service.clearAll (sa : Service) : Service :=
  { sa with causes := sa.causes.map CauseCell.cleared, first := none }

/-- The attention line (R164): the master enable is on and an enabled latch is set. -/
def Service.line (sa : Service) : Bool := sa.master && sa.causes.any fun k => k.latch && k.enable

/-- The reported cause: the set and enabled cause of highest priority (R166). -/
def Service.reported (sa : Service) : Option Cause :=
  Cause.all.find? fun c => (sa.cell c).latch && (sa.cell c).enable

/-- The layout freeze (R171). -/
def Service.frozen (sa : Service) : Bool := sa.state != .commissioning

/-! ### Record flags -/

/-- What the flags of a record become when its stall field becomes absent or names another stall (R5). -/
def RecordFlags.stallChanged (f : RecordFlags) : RecordFlags := { f with misfit := false, chargeUnmet := false }

/-- What the flags become at KEY_HOME (R5, R10). -/
def RecordFlags.keyHome (f : RecordFlags) : RecordFlags := { f with keyOverdue := false, keyAway := false }

/-- What the flags become when the record goes from one state to another: INBOUND_LATE clears as it leaves INBOUND,
DWELL_EXPIRED as it leaves STAGED (R5). -/
def RecordFlags.leave (f : RecordFlags) (before : RecordState) : RecordFlags :=
  { f with
    inboundLate := if before = .inbound then false else f.inboundLate
    dwellExpired := if before = .staged then false else f.dwellExpired }

end Sys2Proof.Machine
end

