-- ==== Sys2Proof/Machine/Ops.lean ====
section
/-! DEFINITION. The operations every meaning is built from: reading and changing one record, zone, stall, hook, roster
entry, lane or bay; the trigger marks of the event under way; frames to handsets; the idle list and the wait list. Each
changes one block. -/

namespace Sys2Proof.Machine

/-! ### The event under way -/

/-- The controller takes events only while the main supply is present and RESET_N is released (R183). -/
def State.running (s : State) : Bool := s.pw.main && !s.pw.resetAsserted && !s.pw.lost

/-- A trigger for serving the wait list (R50). -/
def State.serveDue (s : State) : State := { s with due := { s.due with serve := true } }

/-- An event after which the arbiter looks (R118). -/
def State.lookDue (s : State) : State := { s with due := { s.due with look := true } }

/-- A trigger, where the condition holds. -/
def State.serveIf (s : State) (b : Bool) : State := if b then s.serveDue else s

/-- An event for the arbiter, where the condition holds. -/
def State.lookIf (s : State) (b : Bool) : State := if b then s.lookDue else s

/-- A new event: nothing is due and nothing has been sent on the cabinet bus. -/
def State.begin (s : State) : State := { s with due := .clear, kc := { s.kc with sent := [] } }

/-! ### Records (chapter 1) -/

/-- The ticket lookup (R1). -/
def State.record? (s : State) (t : Nat) : Option Record := s.ct.records.find? fun r => r.ticket == t

/-- Change the record with the ticket. -/
def State.modRecord (s : State) (t : Nat) (f : Record → Record) : State :=
  { s with ct := { s.ct with records := s.ct.records.map fun r => if r.ticket = t then f r else r } }

/-- The lowest number from `n` on that no record of a slot-ordered list has. -/
def lowestFree (n : Nat) : List Record → Nat
  | [] => n
  | r :: rs => if r.slot = n then lowestFree (n + 1) rs else n

/-- Put a record at the place of its slot in a slot-ordered list. -/
def insertRecord (r : Record) : List Record → List Record
  | [] => [r]
  | q :: qs => if r.slot < q.slot then r :: q :: qs else q :: insertRecord r qs

/-- A live record joins the table. -/
def State.addRecord (s : State) (r : Record) : State :=
  { s with ct := { s.ct with records := insertRecord r s.ct.records } }

/-- The record's slot becomes free and its ticket leaves the lookup (R17). -/
def State.dropRecord (s : State) (t : Nat) : State :=
  { s with ct := { s.ct with records := s.ct.records.filter fun r => r.ticket != t } }

/-- Issuing a ticket (R2): the candidates from the counter on, wrapping from 999,999 to 1, up to the first that no live
record carries. `fuel` is one more than the number of live records, which is enough to pass them all. -/
def issueTicket (live : List Record) : Nat → Nat → Nat
  | 0, counter => counter
  | fuel + 1, counter =>
    let candidate := if Config.maxTicket ≤ counter then 1 else counter + 1
    if live.any (fun r => r.ticket == candidate) then issueTicket live fuel candidate else candidate

/-! ### Zones and stalls (chapter 2) -/

/-- The zone record of a zone number. -/
def State.zone (s : State) (z : Nat) : Zone := s.sm.zones.getD z Zone.absent

/-- Change a zone record. -/
def State.modZone (s : State) (z : Nat) (f : Zone → Zone) : State :=
  { s with sm := { s.sm with zones := s.sm.zones.modify z f } }

/-- A stall of the layout, or nothing (R32). -/
def State.stall? (s : State) (z i : Nat) : Option Stall := (s.zone z).stalls[i]?

/-- Change one stall. -/
def State.modStall (s : State) (z i : Nat) (f : Stall → Stall) : State :=
  s.modZone z fun zn => { zn with stalls := zn.stalls.modify i f }

/-- The link of a zone number. -/
def State.link (s : State) (z : Nat) : ZoneLink := s.zl.links.getD z ZoneLink.never

/-- Set the link of a zone. -/
def State.setLink (s : State) (z : Nat) (k : ZoneLink) : State :=
  { s with zl := { s.zl with links := s.zl.links.set z k } }

/-- Both runs of a stall return to 0 (R33). -/
def Stall.resetRuns (st : Stall) : Stall := { st with vacantRun := 0, occupiedRun := 0 }

/-- The runs of the stall return to 0, where there is one. -/
def State.resetRuns (s : State) : Option StallId → State
  | none => s
  | some st => s.modStall st.zone st.index Stall.resetRuns

/-- A stall is fixed exactly when its grade source is a fixed grade (R32). -/
def Stall.isFixed (st : Stall) : Bool :=
  match st.source with
  | .fixed _ => true
  | .slot _ => false

/-- The grade of a stall: its slot's value, or its fixed grade (R32). -/
def State.gradeOf (s : State) (st : Stall) : Nat :=
  match st.source with
  | .fixed g => g
  | .slot n => s.sm.gradeSlots.getD n 0

/-- The stalls of a zone number that there are, with their indices, in index order. -/
def State.zoneStalls (s : State) (z : Nat) : List (Nat × Stall) := (s.zone z).stalls.mapIdx fun i st => (i, st)

/-- Replace the wait list. -/
def State.setWaitList (s : State) (l : List Nat) : State := { s with sm := { s.sm with waitList := l } }

/-- A record joins at the tail, and WAITLISTED is raised for it (R49). -/
def State.joinWaitList (s : State) (t : Nat) : State :=
  (s.setWaitList (s.sm.waitList ++ [t])).raise .waitlisted (some t)

/-- A record leaves the list; the records behind it keep their order (R49). -/
def State.leaveWaitList (s : State) (t : Nat) : State := s.setWaitList (s.sm.waitList.filter (· != t))

/-! ### Hooks (chapter 4) -/

/-- A panel by its number. -/
def State.panel (s : State) (p : Nat) : Panel := s.kc.panels.getD p Panel.absent

/-- Change a panel. -/
def State.modPanel (s : State) (p : Nat) (f : Panel → Panel) : State :=
  { s with kc := { s.kc with panels := s.kc.panels.modify p f } }

/-- The panel of a hook: hook h is position h - 256 p of panel p (R69). -/
def panelOf (h : Nat) : Nat := h / Config.hooksPerPanel

/-- A hook's entry, or nothing where it is ABSENT (R69, R70). -/
def State.hook? (s : State) (h : Nat) : Option Hook := (s.panel (panelOf h)).hooks[h % Config.hooksPerPanel]?

/-- Whether the hook's panel is in service (R87). -/
def State.hookInService (s : State) (h : Nat) : Bool := (s.panel (panelOf h)).inService

/-- Change a hook's entry and nothing else. -/
def State.modHook (s : State) (h : Nat) (f : Hook → Hook) : State :=
  s.modPanel (panelOf h) fun p => { p with hooks := p.hooks.modify (h % Config.hooksPerPanel) f }

/-- Every hook of the layout. -/
def State.allHooks (s : State) : List Hook := s.kc.panels.flatMap Panel.hooks

/-- The keys-out count of an attendant: the OUT hooks that name it (R86). -/
def State.keysOut (s : State) (a : Nat) : Nat :=
  s.allHooks.countP fun k => k.state == .out && k.attendant == some a

/-- The hooks OPEN with a release window for the attendant (R117). -/
def State.openFor (s : State) (a : Nat) : Nat :=
  s.allHooks.countP fun k => k.state == .opened && k.attendant == some a

/-- The keys the attendant has and is entitled to take: the sum of R117. -/
def State.keyLoad (s : State) (a : Nat) : Nat := s.keysOut a + s.openFor a

/-! ### The roster and the idle list (chapter 6) -/

/-- A roster entry. -/
def State.attendant (s : State) (a : Nat) : Attendant := s.dr.attendants.getD a Attendant.off

/-- Change a roster entry. -/
def State.modAttendant (s : State) (a : Nat) (f : Attendant → Attendant) : State :=
  { s with dr := { s.dr with attendants := s.dr.attendants.modify a f } }

/-- Replace the idle list. -/
def State.setIdle (s : State) (l : List Nat) : State := { s with dr := { s.dr with idle := l } }

/-- Whether the attendant is signed on (R111). -/
def State.signedOn (s : State) (a : Nat) : Bool := (s.attendant a).state != .off

/-- The attendant a handset identity is bound to (R148). -/
def State.boundTo? (s : State) (identity : Nat) : Option Nat :=
  (List.range Config.attendants).find? fun a => s.signedOn a && (s.attendant a).handset == some identity

/-- The attendant becomes IDLE at the back of the idle list, with the elapsed count as its idle-since (R113); the
arbiter looks (R118). -/
def State.idleBack (s : State) (a : Nat) : State :=
  ((s.modAttendant a fun e =>
      { e with state := .idle, idleSince := some s.sa.elapsed, keptSince := s.sa.elapsed, ack := none }).setIdle
    (s.dr.idle.filter (· != a) ++ [a])).lookDue

/-- Put an attendant before the first one whose idle-since is later than `since` (R113). Among attendants of equal idle-since it
therefore stands last, also behind one that entered after it had left; R113's other words, the place it held, would put it
before that one: the model takes the first sentence (DEDUCED, log entry 29). Values taken before and after a wrap of the elapsed
count (R180) are compared as the numbers they are (DESIGN CHOICE, log entry 32). -/
def State.insertIdle (s : State) (a : Nat) (since : Time) : List Nat → List Nat
  | [] => [a]
  | b :: bs =>
    if since.toNat < (((s.attendant b).idleSince).getD 0).toNat then a :: b :: bs
    else b :: s.insertIdle a since bs

/-- The attendant becomes IDLE at the front: at the place its kept idle-since gives (R113). -/
def State.idleFront (s : State) (a : Nat) : State :=
  ((s.modAttendant a fun e => { e with state := .idle, idleSince := some e.keptSince, ack := none }).setIdle
    (s.insertIdle a (s.attendant a).keptSince (s.dr.idle.filter (· != a)))).lookDue

/-- The attendant takes a state other than IDLE: it is not in the idle list, has no idle-since and no acknowledge timer
(R111, R113). -/
def State.leaveIdle (s : State) (a : Nat) (st : AttendantState) : State :=
  (s.modAttendant a fun e => { e with state := st, idleSince := none, ack := none }).setIdle
    (s.dr.idle.filter (· != a))

/-! ### Bays and lanes (chapter 7) -/

/-- A bay by its number; none is there above 7. -/
def State.bay (s : State) (b : Nat) : Bay := s.km.bays.getD b (Bay.absent false)

/-- Change a bay. -/
def State.modBay (s : State) (b : Nat) (f : Bay → Bay) : State :=
  { s with km := { s.km with bays := s.km.bays.modify b f } }

/-- A lane by its number. -/
def State.lane (s : State) (l : Nat) : Lane := s.km.lanes.getD l { loop := false, fifo := [] }

/-- Change a lane. -/
def State.modLane (s : State) (l : Nat) (f : Lane → Lane) : State :=
  { s with km := { s.km with lanes := s.km.lanes.modify l f } }

/-- Whether a bay is usable: in the layout and enabled, and in NIGHT night-flagged (R135). -/
def State.bayUsable (s : State) (b : Bay) : Bool := b.inLayout && b.enabled && (s.sa.state != .night || b.night)

/-- The usable bays (R135). -/
def State.usableBays (s : State) : Nat := s.km.bays.countP s.bayUsable

/-- The STAGED count: the bays with a holder (R133). -/
def State.stagedCount (s : State) : Nat := s.km.bays.countP fun b => b.holder.isSome

/-! ### Frames to handsets (chapter 8) -/

/-- A frame produced for the handset port joins the transmit buffer, or is discarded when it holds 64 (R155). -/
def State.pushFrame (s : State) (f : HandsetFrame) : State :=
  if s.lk.tx.length < Config.txPlaces then { s with lk := { s.lk with tx := s.lk.tx ++ [f] } } else s

/-- A message on the controller's own account to an attendant: addressed to its handset, under the site identity, and
not produced for an attendant that is OFF (R150). -/
def State.sendTo (s : State) (a kind : Nat) (body : List Value) : State :=
  match s.signedOn a, (s.attendant a).handset with
  | true, some identity =>
    s.pushFrame { site := if s.lk.siteFixed then s.lk.siteId else 0, identity := identity, kind := kind, req := 0,
                  body := body }
  | _, _ => s

/-- WITHDRAWN, with its reason: 0 OFFER_WITHDRAWN, 1 JOB_SUSPENDED, 2 WINDOW_LAPSED (R152). -/
def State.sendWithdrawn (s : State) (a ticket reason : Nat) : State :=
  s.sendTo a 0x83 [.ticket ticket, .byte reason]

/-! ### Timers -/

/-- A timer that starts from zero. -/
def Timer.start (length : Nat) : Timer := { elapsed := 0, length := length }

/-- A timer that runs and has reached its length (R180). -/
def timerDue : Option Timer → Bool
  | none => false
  | some t => t.length ≤ t.elapsed

/-- One more second. -/
def Timer.tick (t : Timer) : Timer := { t with elapsed := t.elapsed + 1 }

end Sys2Proof.Machine
end

