-- ==== Sys2Proof/Machine/Stalls.lean ====
section
/-! DEFINITION. The Stall Map (chapter 2): governing zones, the offer condition, fit, allocation, and what holding and
releasing a stall does to the stall and to its record. -/

namespace Sys2Proof.Machine

/-! ### Governing zones (R31) -/

/-- Whether the zone is the upper zone of a pair: the paired field stands on the even zone below it (R30). -/
def State.isUpper (s : State) (z : Nat) : Bool := z % 2 == 1 && (s.zone (z - 1)).paired

/-- The governing zone (R31). -/
def State.governing (s : State) (z : Nat) : Nat := if s.isUpper z then z - 1 else z

/-- The zones of the pair, or the zone alone, that a governing zone stands for. -/
def State.members (s : State) (g : Nat) : List Nat := if (s.zone g).paired then [g, g + 1] else [g]

/-- The open state, night flag and spill flag of a zone are its governing zone's (R31). -/
def State.zoneOpen (s : State) (z : Nat) : Bool := (s.zone (s.governing z)).isOpen
def State.zoneNight (s : State) (z : Nat) : Bool := (s.zone (s.governing z)).night
def State.zoneSpill (s : State) (z : Nat) : Bool := (s.zone (s.governing z)).spill

/-- A zone withdrawn by its own link state and its own enable (R41). -/
def State.withdrawnAlone (s : State) (z : Nat) : Bool := (s.link z).link != .live && (s.zone z).withdrawal

/-- A zone counts as withdrawn when any zone of its pair is (R41). -/
def State.withdrawn (s : State) (z : Nat) : Bool := (s.members (s.governing z)).any s.withdrawnAlone

/-- The ramp permit of a zone, read through its governing zone (R42). -/
def State.permitHeld (s : State) (z : Nat) : Bool :=
  !s.lk.mask.getLsbD (s.governing z) || s.lk.permits.getLsbD (s.governing z)

/-- Some zone's permit is held in the second state and not in the first (R42, R181). -/
def permitGained (before after : State) : Bool :=
  (List.range Config.zones).any fun z => !before.permitHeld z && after.permitHeld z

/-! ### The offer condition and fit -/

/-- The offer condition of a stall of zone z (R43), item by item. -/
def State.offerable (s : State) (z : Nat) (st : Stall) : Bool :=
  s.zoneOpen z && !s.withdrawn z && s.permitHeld z && st.enabled &&
  (st.sensed == .vacant || (st.sensed == .unknown && !(s.zone z).withdrawal)) &&
  st.holder.isNone && !st.stray && (s.sa.state != .night || s.zoneNight z)

/-- The attribute of a stall suits the need (R44); `fallback` is the second walk of R47. -/
def State.attrSuits (s : State) (need : Need) (fallback : Bool) (z : Nat) (attr : Need) : Bool :=
  match need with
  | .secure => attr == .secure
  | .charger => if fallback then attr == .none else attr == .charger
  | .none => attr == .none || s.zoneSpill z

/-- A stall fits: its grade is at least the record's and its attribute suits (R44). -/
def State.fits (s : State) (grade : Nat) (need : Need) (fallback : Bool) (z : Nat) (st : Stall) : Bool :=
  grade ≤ s.gradeOf st && s.attrSuits need fallback z st.attr

/-! ### Allocation (R45 to R47) -/

/-- The offerable fitting stalls of a zone or pair: the lower zone first, each zone in index order. -/
def State.candidates (s : State) (grade : Nat) (need : Need) (fallback : Bool) (g : Nat) : List (StallId × Stall) :=
  (s.members g).flatMap fun z =>
    ((s.zoneStalls z).filter fun p => s.offerable z p.2 && s.fits grade need fallback z p.2).map fun p => (⟨z, p.1⟩, p.2)

/-- A car with need NONE takes a NONE stall where the zone has one that fits, else a spill stall (R46, item 1). -/
def plainFirst (need : Need) (cs : List (StallId × Stall)) : List (StallId × Stall) :=
  match need with
  | .none =>
    let plain := cs.filter fun p => p.2.attr == .none
    if plain.isEmpty then cs else plain
  | _ => cs

/-- The candidate of smallest grade, the earliest among equals (R46, items 2 and 3). -/
def State.smallest (s : State) : List (StallId × Stall) → Option (StallId × Stall)
  | [] => none
  | p :: ps =>
    match s.smallest ps with
    | none => some p
    | some q => if s.gradeOf q.2 < s.gradeOf p.2 then some q else some p

/-- One walk of a preference list: the first zone or pair with a fitting offerable stall gives the stall (R46). A zone
not in the layout and the upper zone of a pair are skipped (R45). -/
def State.walk (s : State) (grade : Nat) (need : Need) (fallback : Bool) : List Nat → Option StallId
  | [] => none
  | z :: zs =>
    if !(s.zone z).inLayout || s.isUpper z then s.walk grade need fallback zs
    else
      match s.smallest (plainFirst need (s.candidates grade need fallback z)) with
      | some p => some p.1
      | none => s.walk grade need fallback zs

/-- Allocation (R46, R47): the stall found, and whether it is a CHARGER record's fallback. -/
def State.allocate (s : State) (grade : Nat) (need : Need) (tier : Nat) : Option (StallId × Bool) :=
  let prefs := s.sm.prefs.getD tier []
  match s.walk grade need false prefs with
  | some st => some (st, false)
  | none =>
    match need with
    | .charger => (s.walk grade need true prefs).map fun st => (st, true)
    | _ => none

/-! ### Holding and releasing (R33) -/

/-- The stall's holder becomes the record and the record names the stall; the runs return to 0, and the flags that
belonged to a former stall clear. -/
def State.holdStall (s : State) (t : Nat) (st : StallId) : State :=
  (s.modStall st.zone st.index fun x => { x.resetRuns with holder := some t }).modRecord t fun r =>
    { r with stall := some st, flags := r.flags.stallChanged }

/-- The record's stall, where it names one, is released: no holder, runs 0, and the record names none; a trigger for
serving the wait list (R33, R50). -/
def State.releaseStall (s : State) (t : Nat) : State :=
  match (s.record? t).bind Record.stall with
  | none => s
  | some st =>
    ((s.modStall st.zone st.index fun x => { x.resetRuns with holder := none }).modRecord t fun r =>
      { r with stall := none, flags := r.flags.stallChanged }).serveDue

/-- CHARGE_UNMET is set on a record whose allocation fell back (R5, R47). -/
def State.noteFallback (s : State) (t : Nat) (fallback : Bool) : State :=
  if fallback then s.modRecord t fun r => { r with flags := { r.flags with chargeUnmet := true } } else s

/-- MISFIT of a held stall's record by the grade comparison of R34; the cause is raised when the flag is newly set. -/
def State.compareGrade (s : State) (st : Stall) : State :=
  match st.holder.bind s.record? with
  | none => s
  | some r =>
    if s.gradeOf st < r.grade then
      if r.flags.misfit then s
      else (s.modRecord r.ticket fun q => { q with flags := { q.flags with misfit := true } }).raise .misfit (some r.ticket)
    else if r.flags.misfit then
      s.modRecord r.ticket fun q => { q with flags := { q.flags with misfit := false } }
    else s

/-! ### Record states -/

/-- The record takes another state: marks clear, the park timer runs from zero exactly in INBOUND, the flags that end
with a state clear (R4, R5, R6, R9). -/
def Record.enter (st : RecordState) (parkLimit : Nat) (r : Record) : Record :=
  { r with
    state := st, parkMark := false, keyMark := false
    park := if st = .inbound then some { elapsed := 0, length := parkLimit, reached := false } else none
    flags := r.flags.leave r.state }

/-- A change of the record's state; its stall's runs return to 0 (R33). -/
def State.setState (s : State) (t : Nat) (st : RecordState) : State :=
  (s.modRecord t (Record.enter st s.ct.parkLimit)).resetRuns ((s.record? t).bind Record.stall)

end Sys2Proof.Machine
end

