-- ==== Sys2Proof/Machine/Keys.lean ====
section
/-! DEFINITION. The Key Cabinet Controller (chapter 4) on its own side: required latch positions and set latch messages,
binding and freeing, release windows, and panel service. What these tell the Custody Table is in Custody.lean. -/

namespace Sys2Proof.Machine

/-! ### Latches (R71) -/

/-- The required latch position, from the hook's state and its panel. -/
def Hook.required (inService : Bool) (k : Hook) : Latch :=
  if inService then .opened
  else
    match k.state with
    | .held => .closed
    | .opened => if k.phase = .closing ∨ k.phase = .ending then .closed else .opened
    | _ => .opened

/-- A set latch message: the hook's latch pending becomes the position, and the repeat interval starts. -/
def State.sendLatch (s : State) (h : Nat) (p : Latch) : State :=
  let s := s.modHook h fun k => { k with latch := some p, repeatTimer := some (Timer.start Config.latchRepeat) }
  { s with kc := { s.kc with sent := s.kc.sent ++ [⟨h, p⟩] } }

/-- An IDLE attendant's sum of R117 fell to 2 between two states, which is an event for the arbiter (R118). -/
def loadFell (before after : State) : Option Nat → Bool
  | none => false
  | some a => (before.attendant a).state == .idle && Config.keyLimit ≤ before.keyLoad a && after.keyLoad a < Config.keyLimit

/-- Change a hook's entry, with what the change causes: set latch where the required position changes (R71), and the
arbiter's event where the attendant it named has a key less (R118). -/
def State.updHook (s : State) (h : Nat) (f : Hook → Hook) : State :=
  match s.hook? h with
  | none => s
  | some k =>
    let s' := s.modHook h f
    let want := (f k).required (s.hookInService h)
    let s'' := if want = k.required (s.hookInService h) then s' else s'.sendLatch h want
    s''.lookIf (loadFell s s' k.attendant)

/-! ### Binding and freeing (R72) -/

/-- FREE and carrying no stray tag. -/
def Hook.freeToBind (k : Hook) : Bool := k.state == .free && k.strayTag.isNone

/-- The lowest-numbered hook free to bind, from a list of panels whose first has the number `p`. -/
def freeHookFrom (p : Nat) : List Panel → Option Nat
  | [] => none
  | q :: qs =>
    match q.hooks.findIdx? Hook.freeToBind with
    | some i => some (Config.hooksPerPanel * p + i)
    | none => freeHookFrom (p + 1) qs

/-- The hook ACCEPT would bind, or nothing (NO_HOOK). -/
def State.freeHook? (s : State) : Option Nat := freeHookFrom 0 s.kc.panels

/-- The hook becomes AWAIT for the record. -/
def State.bindHook (s : State) (h t : Nat) : State :=
  s.updHook h fun k => { k with state := .await, bound := some t }

/-- A retired record's hook becomes FREE; a key that is on it stays as a stray key with the retired ticket. -/
def Hook.freed (t : Nat) (k : Hook) : Hook :=
  { k with
    state := .free, bound := none, attendant := none, forced := false, warned := false, overdue := false,
    phase := .none, count := 0, window := none, custody := none
    strayTag := if k.state = .held ∨ k.state = .opened then some t else k.strayTag }

/-- The key of the bound record is present on the hook (R70). -/
def Hook.keyPresent (k : Hook) : Bool := k.state == .held || k.state == .opened

/-- Free the hook of a retired record. Where its key is present the latch is commanded open, whatever the position it was in
(R72); the required position of every other hook is open before and after (R71). -/
def State.unbindHook (s : State) (h t : Nat) : State :=
  match s.hook? h with
  | none => s
  | some k =>
    let q := s.modHook h (Hook.freed t)
    let q := if k.keyPresent then q.sendLatch h .opened else q
    q.lookIf (loadFell s q k.attendant)

/-! ### The key of a record -/

/-- The state of the hook a record names. -/
def State.hookState? (s : State) (r : Record) : Option HookState := (s.hook? r.hook).map Hook.state

/-- The record's key is home: its hook is HELD (R3). -/
def State.keyIsHome (s : State) (r : Record) : Bool := s.hookState? r == some .held

/-- The attendant whose OUT hook holds the record's key (R19). -/
def State.keyHolder (s : State) (r : Record) : Option Nat :=
  match s.hook? r.hook with
  | some k => if k.state = .out then k.attendant else none
  | none => none

/-! ### Custody timer (R83) -/

/-- The custody timer starts from zero; WARNED and OVERDUE clear. -/
def Hook.startCustody (limit : Nat) (k : Hook) : Hook :=
  { k with custody := some (Timer.start limit), warned := false, overdue := false }

/-- The custody timer stops; WARNED and OVERDUE clear. -/
def Hook.stopCustody (k : Hook) : Hook := { k with custody := none, warned := false, overdue := false }

/-! ### Keys hung and windows (R73, R75, R80) -/

/-- The bound record's key is hung: HELD, no attendant, custody stopped, all three flags clear. -/
def Hook.hung (k : Hook) : Hook := { k.stopCustody with state := .held, attendant := none, forced := false }

/-- A HELD hook opens for an attendant. -/
def Hook.openFor (a count windowTime : Nat) (k : Hook) : Hook :=
  { k with state := .opened, attendant := some a, phase := .running, count := count,
           window := some (Timer.start windowTime) }

/-- A request for a release window (R75); in a state other than the two it leaves the hook unchanged. A key out with no
attendant passes to the attendant, and the KEY_TAKEN it sends finds the record already naming it (R10). -/
def State.requestWindow (s : State) (h a : Nat) : State :=
  match s.hook? h with
  | none => s
  | some k =>
    match k.state, k.attendant with
    | .held, _ => s.updHook h (Hook.openFor a 0 s.kc.windowTime)
    | .out, none => s.updHook h fun k => { k.startCustody s.kc.custodyLimit with attendant := some a }
    | _, _ => s

/-- The window is over without a lapse: HELD, phase NONE, count 0, no attendant, timer stopped. -/
def Hook.windowEnded (k : Hook) : Hook :=
  { k with state := .held, phase := .none, count := 0, attendant := none, window := none }

/-- End the record's release window at a suspension (R80). -/
def State.endWindow (s : State) (h : Nat) : State :=
  match s.hook? h with
  | none => s
  | some k =>
    match k.state with
    | .opened =>
      if s.hookInService h then s.updHook h Hook.windowEnded
      else if k.phase = .running ∨ k.phase = .closing then
        s.updHook h fun k => { k with window := none, phase := .ending }
      else s
    | .held => if k.phase = .running then s.updHook h Hook.windowEnded else s
    | _ => s

/-- REPARK's transfer at the hook (R86): an OUT hook names the sender and its custody timer restarts; a HELD hook opens
for the sender. -/
def State.reparkHook (s : State) (h a : Nat) : State :=
  match (s.hook? h).map Hook.state with
  | some .out => s.updHook h fun k => { k.startCustody s.kc.custodyLimit with attendant := some a }
  | some .held => s.requestWindow h a
  | _ => s

/-! ### Panel service (R87, R89) -/

/-- The panel enters or leaves service; set latch for each of its hooks whose required position changes, in hook order, the
order being the model's (log entry 30). -/
def State.setPanelService (s : State) (p : Nat) (b : Bool) : State :=
  (List.range (s.panel p).hooks.length).foldl
    (fun t i =>
      match (s.panel p).hooks[i]? with
      | none => t
      | some k =>
        if k.required b = k.required (s.panel p).inService then t
        else t.sendLatch (Config.hooksPerPanel * p + i) (k.required b))
    (s.modPanel p fun q => { q with inService := b })

end Sys2Proof.Machine
end

