-- ==== Sys2Proof/Machine/Jobs.lean ====
section
/-! DEFINITION. The Job Queue (chapter 5) and the dispatch arbiter (chapter 6): order, adding and removing entries,
readiness, the kerb budget, eligibility, and the arbiter's look. -/

namespace Sys2Proof.Machine

/-! ### Entries -/

/-- The entry of a record; no record has two (R92). -/
def State.entry? (s : State) (t : Nat) : Option Entry := s.jq.entries.find? fun e => e.ticket == t

/-- Replace the queue. -/
def State.setEntries (s : State) (l : List Entry) : State := { s with jq := { s.jq with entries := l } }

/-- The entry that is OFFERED to or TAKEN by an attendant. -/
def State.entryOf (s : State) (a : Nat) : Option Entry :=
  s.jq.entries.find? fun e => e.status != .queued && e.attendant == some a

/-- Change the entry of a record. -/
def State.modEntry (s : State) (t : Nat) (f : Entry → Entry) : State :=
  s.setEntries (s.jq.entries.map fun e => if e.ticket = t then f e else e)

/-- Queue order (R94): order tier, then order time, then slot. -/
def Entry.before (e g : Entry) : Bool :=
  e.tier < g.tier || (e.tier == g.tier && (e.time.toNat < g.time.toNat || (e.time == g.time && e.slot < g.slot)))

/-- An entry takes the place its values give. -/
def insertEntry (e : Entry) : List Entry → List Entry
  | [] => [e]
  | g :: gs => if e.before g then e :: g :: gs else g :: insertEntry e gs

/-- The fetch entries of the kerb count: OFFERED or TAKEN (R105). -/
def Entry.atKerb (e : Entry) : Bool := e.kind == .fetch && e.status != .queued

/-- An entry joins: a readiness event, and QUEUE_HIGH when it leaves the queue at 56 or more (R95). -/
def State.addEntry (s : State) (e : Entry) : State :=
  let s' := (s.setEntries (insertEntry e s.jq.entries)).lookDue
  if Config.queueHigh ≤ s'.jq.entries.length then s'.raise .queueHigh (some e.ticket) else s'

/-- The entry of a record leaves the queue: a trigger for serving the wait list, and a readiness event where it counted
at the kerb (R96). -/
def State.removeEntry (s : State) (t : Nat) : State :=
  match s.entry? t with
  | none => s
  | some e => ((s.setEntries (s.jq.entries.filter fun g => g.ticket != t)).serveDue).lookIf e.atKerb

/-- The entry goes back to QUEUED with no attendant and keeps its place (R93, R97); a readiness event (R107). -/
def State.requeue (s : State) (t : Nat) : State :=
  (s.modEntry t fun e => { e with status := .queued, attendant := none }).lookDue

/-- An upgrade: the entry takes the tier and moves to the place its values give (R99). -/
def State.upgradeEntry (s : State) (t tier : Nat) : State :=
  match s.entry? t with
  | none => s
  | some e =>
    (s.setEntries (insertEntry { e with tier := tier } (s.jq.entries.filter fun g => g.ticket != t))).lookDue

/-- An entry as it is added: QUEUED, no attendant. -/
def Entry.queued (kind : JobKind) (r : Record) (tier : Nat) (time : Time) (due : Option Time) : Entry :=
  { kind := kind, ticket := r.ticket, slot := r.slot, status := .queued, attendant := none, tier := tier, time := time,
    due := due }

/-- The FETCH entry of a call: ordered by the due time where there is one, else by the call time (R94). -/
def Entry.ofCall (r : Record) (c : CallField) : Entry := Entry.queued .fetch r c.tier (c.due.getD c.time) c.due

/-- The record has an entry of the kind. -/
def State.hasEntry (s : State) (t : Nat) (k : JobKind) : Bool := (s.entry? t).any fun e => e.kind == k

/-! ### The kerb budget (R105) -/

/-- FETCH entries OFFERED or TAKEN. -/
def State.fetchesOut (s : State) : Nat := s.jq.entries.countP Entry.atKerb

/-- The kerb count. -/
def State.kerbCount (s : State) : Nat := s.fetchesOut + s.stagedCount

/-! ### Readiness (R103, R104, R106) -/

/-- The lead time of a zone, read through its governing zone (R108). -/
def State.leadOf (s : State) (z : Nat) : Nat := s.jq.leads.getD (s.governing z) 0

/-- A FETCH entry is due (R104). -/
def State.entryDue (s : State) (r : Record) (e : Entry) : Bool :=
  match e.due, r.stall with
  | some d, some st => d.toNat - s.leadOf st.zone ≤ s.sa.clock.toNat
  | _, _ => true

/-- The ramp permit of the record's stall is held; a record without a stall needs none (R103). -/
def State.rampOpen (s : State) (r : Record) : Bool :=
  match r.stall with
  | none => true
  | some st => s.permitHeld st.zone

/-- The first unmet item of R103 for a FETCH entry of the record. -/
def State.unmetFetch (s : State) (r : Record) (e : Entry) : Option Unmet :=
  if r.state != .called then some .notCalled
  else if !s.entryDue r e then some .notDue
  else if !s.keyIsHome r then some .keyNotHome
  else if r.flags.keyAway then some .keyAway
  else if !s.rampOpen r then some .ramp
  else if s.hookInService r.hook then some .panel
  else if s.usableBays ≤ s.kerbCount then some .kerb
  else none

/-- The first unmet item of R106 for a MOVE entry of the record. -/
def State.unmetMove (s : State) (r : Record) : Option Unmet :=
  if r.state != .granted then some .notGranted
  else if !s.keyIsHome r then some .keyNotHome
  else if !s.rampOpen r then some .ramp
  else if s.hookInService r.hook then some .panel
  else none

/-- The unmet reason of a QUEUED entry. -/
def State.unmet (s : State) (e : Entry) : Option Unmet :=
  match s.record? e.ticket, e.kind with
  | some r, .fetch => s.unmetFetch r e
  | some r, .move => s.unmetMove r
  | none, .fetch => some .notCalled
  | none, .move => some .notGranted

/-- A QUEUED entry that meets every item. -/
def State.ready (s : State) (e : Entry) : Bool := e.status == .queued && (s.unmet e).isNone

/-! ### Attendants (R117, R127) -/

/-- An attendant eligible for an offer (R117). -/
def State.eligible (s : State) (a : Nat) : Bool :=
  (s.attendant a).state == .idle && s.keyLoad a < Config.keyLimit

/-- The acting attendant of a record (R127). -/
def State.acting (s : State) (r : Record) : Option Nat :=
  match s.entry? r.ticket with
  | some e => if e.status = .queued then r.attendant else e.attendant
  | none => r.attendant

/-- The attendant's offer of the ticket is withdrawn: WITHDRAWN, then IDLE at the front (R124). -/
def State.withdrawOffer (s : State) (a t : Nat) : State := (s.sendWithdrawn a t 0).idleFront a

/-- The attendant's taken job is suspended: WITHDRAWN, then IDLE at the back (R124, R122). -/
def State.suspendJob (s : State) (a t : Nat) : State := (s.sendWithdrawn a t 1).idleBack a

/-- Removal of the record's entry at an event other than the end of its job, with what R124 gives its attendant. -/
def State.dropEntry (s : State) (t : Nat) : State :=
  match s.entry? t with
  | none => s
  | some e =>
    match e.status, e.attendant with
    | .offered, some a => (s.removeEntry t).withdrawOffer a t
    | .taken, some a => (s.removeEntry t).suspendJob a t
    | _, _ => s.removeEntry t

/-! ### The look (R119) -/

/-- OFFER's fields (R151, 11.4). -/
def State.offerFields (s : State) (r : Record) (e : Entry) : List Value :=
  [.ticket r.ticket, .plate r.plate, .byte e.kind.code, .stall r.stall, .optWord e.due, .half r.hook,
   .word (BitVec.ofNat 32 s.dr.ackTime)]

/-- Offer an entry to an attendant (R119, R120). -/
def State.offer (s : State) (e : Entry) (a : Nat) : State :=
  let s' := (((s.modEntry e.ticket fun g => { g with status := .offered, attendant := some a }).leaveIdle a
    .offered).modAttendant a fun x => { x with ack := some (Timer.start s.dr.ackTime) })
  match s.record? e.ticket with
  | none => s'
  | some r => s'.sendTo a 0x82 (s.offerFields r e)

/-- The look's loop: the first ready entry goes to the first eligible attendant, until one of the two is not found. Each
offer takes an attendant off the idle list, so its length is enough rounds. -/
def State.lookLoop (s : State) : Nat → State
  | 0 => s
  | n + 1 =>
    match s.jq.entries.find? s.ready, s.dr.idle.find? s.eligible with
    | some e, some a => (s.offer e a).lookLoop n
    | _, _ => s

/-- The service state admits a look (R118). -/
def State.dispatching (s : State) : Bool := s.sa.state == .opened || s.sa.state == .night

/-- One look of the arbiter. -/
def State.look (s : State) : State := if s.dispatching then s.lookLoop s.dr.idle.length else s

end Sys2Proof.Machine
end

