-- ==== Sys2Proof/Machine/Custody.lean ====
section
/-! DEFINITION. The Custody Table's transitions (chapter 1) with what each asks of the other blocks, the notices between
blocks, the serving pass of the wait list (chapter 2), and the end of an event: one serving pass, then one look. -/

namespace Sys2Proof.Machine

/-! ### Marks and storing (R9) -/

/-- The record names no attendant. -/
def Record.freed (r : Record) : Record := { r with attendant := none }

/-- An INBOUND record becomes STORED: its MOVE entry goes, its attendant returns to IDLE at the back, and with an early
call it goes straight on to CALLED (R9, R100, R122, R123). -/
def State.enterStored (s : State) (t : Nat) : State :=
  match s.record? t with
  | none => s
  | some r =>
    let s := s.setState t .stored
    let s := if s.hasEntry t .move then s.removeEntry t else s
    let s :=
      match r.attendant with
      | some a => s.idleBack a
      | none => s
    let s := s.modRecord t Record.freed
    if r.call.isSome then (s.setState t .called).lookDue else s

/-- Set the marks of an INBOUND record; with both set it enters STORED. -/
def State.setMarks (s : State) (t : Nat) (park key : Bool) : State :=
  if park && key then s.enterStored t
  else s.modRecord t fun r => { r with parkMark := park, keyMark := key }

/-- PARK_CONFIRMED (R9, R61): sets the park mark of an INBOUND record that lacks it. -/
def State.parkConfirmed (s : State) (t : Nat) : State :=
  match s.record? t with
  | none => s
  | some r => if r.state = .inbound ∧ r.parkMark = false then s.setMarks t true r.keyMark else s

/-- KEY_HOME (R9, R10, R5): the key flags clear, a record with an entry gives a readiness event (R107), and each state adds
its own effect. -/
def State.keyHome (s : State) (t : Nat) : State :=
  match s.record? t with
  | none => s
  | some r =>
    let s := (s.modRecord t fun q => { q with flags := q.flags.keyHome }).lookIf (s.entry? t).isSome
    match r.state with
    | .inbound => if r.keyMark then s else s.setMarks t r.parkMark true
    | .waiting => s.serveDue
    | .suspended => s.modRecord t Record.freed
    | _ => s

/-- KEY_TAKEN (R10): a SUSPENDED record names the taker; in every other state nothing changes. -/
def State.keyTaken (s : State) (t a : Nat) : State :=
  match s.record? t with
  | none => s
  | some r => if r.state = .suspended then s.modRecord t fun q => { q with attendant := some a } else s

/-- The sender of a handset ACCEPT or REPARK that finds a stall becomes PARKING (R122). -/
def State.startParking (s : State) : Option Nat → State
  | none => s
  | some a => s.leaveIdle a .parking

/-! ### Jobs undone (R15) -/

/-- An acknowledged job is undone: the record takes the state it had, names no attendant, and its entry is QUEUED at its
old place (R15, R97). -/
def State.undoJob (s : State) (t : Nat) (st : RecordState) : State :=
  ((s.setState t st).modRecord t Record.freed).requeue t

/-- The attendant of a lapsed job: WITHDRAWN, then AWAY (R125). -/
def State.lapseAttendant (s : State) (t : Nat) : Option Nat → State
  | none => s
  | some a => (s.sendWithdrawn a t 2).leaveIdle a .away

/-- WINDOW_LAPSED (R15, R97, R125). -/
def State.windowLapsed (s : State) (t : Nat) : State :=
  match s.record? t with
  | none => s
  | some r =>
    match r.state with
    | .fetching => (s.undoJob t .called).lapseAttendant t r.attendant
    | .inbound => if s.hasEntry t .move then (s.undoJob t .granted).lapseAttendant t r.attendant else s
    | _ => s

/-! ### Suspension (R19, R20) -/

/-- The parker of an INBOUND record without a MOVE entry, at a suspension (R122, R152). -/
def State.suspendParker (s : State) (r : Record) : State :=
  match r.state, r.attendant with
  | .inbound, some a => if s.hasEntry r.ticket .move then s else s.suspendJob a r.ticket
  | _, _ => s

/-- The record enters SUSPENDED (R19). -/
def State.suspend (s : State) (t : Nat) (why : SuspendReason) : State :=
  match s.record? t with
  | none => s
  | some r =>
    let s := (((s.suspendParker r).dropEntry t).leaveWaitList t).endWindow r.hook
    let holder := s.keyHolder r
    (s.setState t .suspended).modRecord t fun q => { q with call := none, attendant := holder, reason := some why }

/-- KEY_FORCED, the notice (R20). -/
def State.keyForced (s : State) (t : Nat) : State :=
  match s.record? t with
  | none => s
  | some r =>
    match r.state with
    | .staged => s
    | .suspended => s.modRecord t fun q => { q with reason := some .keyForced }
    | _ => s.suspend t .keyForced

/-- STALL_EMPTY for a STORED or CALLED record, and STALL_ANOMALY with the zone (R20, R64). -/
def State.stallEmpty (s : State) (t zone : Nat) : State := (s.suspend t .stallEmpty).raise .stallAnomaly (some zone)

/-! ### Removals and lapses at a hook (R76, R77, R82, R88) -/

/-- A key is taken by the attendant the window is for (R76). -/
def State.takeKey (s : State) (h : Nat) (k : Hook) : State :=
  let s := s.updHook h fun q =>
    { q.startCustody s.kc.custodyLimit with state := .out, phase := .none, count := 0, window := none }
  match k.bound, k.attendant with
  | some t, some a => s.keyTaken t a
  | _, _ => s

/-- A forced removal (R82). -/
def State.forceKey (s : State) (h : Nat) (k : Hook) : State :=
  let s := s.updHook h fun q =>
    { q with state := .out, attendant := none, forced := true, phase := .none, count := 0, window := none }
  match k.bound with
  | some t => (s.keyForced t).raise .keyForced (some t)
  | none => s

/-- Complete a lapse (R77): the first starts the second period, the second ends the window. -/
def State.completeLapse (s : State) (h : Nat) (k : Hook) : State :=
  if k.count = 0 then
    s.updHook h fun q =>
      { q with state := .held, count := 1, phase := .running, window := some (Timer.start s.kc.windowTime) }
  else
    let s := s.updHook h fun q =>
      { q with state := .held, count := 2, phase := .none, attendant := none, window := none }
    match k.bound with
    | some t => s.windowLapsed t
    | none => s

/-- A removal from a HELD hook of a panel in service (R88): the record is marked KEY_AWAY, and a second period ends as the
second lapse. -/
def State.serviceKey (s : State) (h : Nat) (k : Hook) : State :=
  let second : Bool := k.phase == .running
  let s := s.updHook h fun q =>
    if second then { q with state := .out, attendant := none, phase := .none, count := 2, window := none }
    else { q with state := .out, attendant := none }
  match k.bound with
  | none => s
  | some t =>
    let s := s.modRecord t fun q => { q with flags := { q.flags with keyAway := true } }
    if second then s.windowLapsed t else s

/-! ### Bays and the end of custody (R16, R17, R142) -/

/-- A bay is freed: a readiness event (R142). -/
def State.freeBay (s : State) : Option Nat → State
  | none => s
  | some b => (s.modBay b fun x => { x with holder := none, dwell := none, driveOff := none }).lookDue

/-- Retirement (R17): stall, bay and hook are freed, and the record's slot and ticket. -/
def State.retireRecord (s : State) (t : Nat) : State :=
  match s.record? t with
  | none => s
  | some r => (((s.releaseStall t).freeBay r.bay).unbindHook r.hook t).dropRecord t

/-- STAGED_OK with the Kerb Monitor's part of the step (R16, R139). -/
def State.stagedOk (s : State) (t b : Nat) : State :=
  match s.record? t with
  | none => s
  | some r =>
    let s := s.modBay b fun x =>
      { x with holder := some t, dwell := some (Timer.start s.km.dwellTime), driveOff := none }
    let s := (s.setState t .staged).modRecord t fun q =>
      { q with
        bay := some b, call := none, attendant := none
        flags := { q.flags with
          departureUnconfirmed := if q.stall.isSome then true else q.flags.departureUnconfirmed
          keyOverdue := false } }
    let s := ((s.releaseStall t).removeEntry t).updHook r.hook Hook.stopCustody
    match r.attendant with
    | some a => s.idleBack a
    | none => s

/-! ### The wait list (R49 to R52) -/

/-- The record becomes WAITING at the tail of the wait list; WAITLISTED is raised (R49). -/
def State.enterWaiting (s : State) (t : Nat) : State := (s.setState t .waiting).joinWaitList t

/-- The wait list has no room (R49). -/
def State.waitListFull (s : State) : Bool := Config.waitPlaces ≤ s.sm.waitList.length

/-- STALL_GRANT to every attendant signed on, in roster order (R153). -/
def State.announceGrant (s : State) (r : Record) (st : StallId) : State :=
  (List.range Config.attendants).foldl
    (fun q a => q.sendTo a 0x84 [.ticket r.ticket, .plate r.plate, .stall (some st), .half r.hook]) s

/-- A grant (R52, R11). -/
def State.grant (s : State) (r : Record) (st : StallId) (fallback : Bool) : State :=
  let s := s.leaveWaitList r.ticket
  let s := ((s.holdStall r.ticket st).setState r.ticket .granted).noteFallback r.ticket fallback
  let s := s.addEntry (Entry.queued .move r r.tier s.sa.clock none)
  s.announceGrant r st

/-- A serving pass over the list as it was at its start (R51). -/
def State.serveList (s : State) : List Nat → State
  | [] => s
  | t :: ts =>
    if Config.queuePlaces ≤ s.jq.entries.length then s
    else
      match s.record? t with
      | none => s.serveList ts
      | some r =>
        if s.keyIsHome r then
          match s.allocate r.grade r.need r.tier with
          | some (st, fallback) => (s.grant r st fallback).serveList ts
          | none => s.serveList ts
        else s.serveList ts

/-- One serving pass. -/
def State.servePass (s : State) : State := s.serveList s.sm.waitList

/-! ### The end of an event -/

/-- The pass, where a trigger fell due (R50). -/
def State.serveStep (s : State) : State := if s.due.serve then s.servePass else s

/-- The look, where an event for the arbiter fell due (R118). -/
def State.lookStep (s : State) : State := if s.due.look then s.look else s

/-- The end of an event: one serving pass, then one look, and nothing is due any more. -/
def State.finish (s : State) : State := { s.serveStep.lookStep with due := .clear }

end Sys2Proof.Machine
end

