-- ==== Sys2Proof/Machine/Restart.lean ====
section
/-! DEFINITION. The warm restart (R184) with each block's part of it, RECOVERY and its end (R186), and CLEAR SITE's return
of the blocks to their power-on values (R178). -/

namespace Sys2Proof.Machine

/-! ### Volatile state, block by block (R184, first) -/

/-- Links to NEVER with their timers stopped (R67). -/
def ZoneLinks.restart (b : ZoneLinks) : ZoneLinks := { b with links := b.links.map fun _ => ZoneLink.never }

/-- A stall's sensed state becomes UNKNOWN and its runs 0 (R32, R67). -/
def Stall.restart (st : Stall) : Stall := { st.resetRuns with sensed := .unknown }

/-- Every stall of the map. -/
def StallMap.restart (b : StallMap) : StallMap :=
  { b with zones := b.zones.map fun z => { z with stalls := z.stalls.map Stall.restart } }

/-- A hook at the restart (R91): an OPEN hook and one in its second period are HELD without a window; every timer stops and
WARNED and OVERDUE clear; the required position of its state is commanded. -/
def Hook.restart (k : Hook) : Hook :=
  let k :=
    if k.state = .opened ∨ (k.state = .held ∧ k.phase = .running) then k.windowEnded.stopCustody else k.stopCustody
  { k with window := none, latch := some (k.required false), repeatTimer := some (Timer.start Config.latchRepeat) }

/-- A panel leaves service and its hooks are relatched. -/
def Panel.restart (p : Panel) : Panel := { p with inService := false, hooks := p.hooks.map Hook.restart }

/-- The set latch messages for every hook of the layout, from the panel numbered `p` on. R91 and R184 give no order among the
hooks: the model sends them in hook order, panel 0 first (DESIGN CHOICE, log entry 30). -/
def latchesFrom (p : Nat) : List Panel → List SetLatch
  | [] => []
  | q :: qs =>
    (q.hooks.mapIdx fun i k => ⟨Config.hooksPerPanel * p + i, k.required false⟩) ++ latchesFrom (p + 1) qs

/-- The cabinet at the restart. -/
def Cabinet.restart (b : Cabinet) : Cabinet :=
  { b with panels := b.panels.map Panel.restart, sent := latchesFrom 0 (b.panels.map Panel.restart) }

/-- Every attendant OFF, no idle list (R129). -/
def Roster.restart (b : Roster) : Roster :=
  { b with attendants := b.attendants.map fun _ => Attendant.off, idle := [] }

/-- A held bay's dwell timer starts, and its drive-off timer where its loop is OFF (R144). -/
def Bay.restart (dwellTime : Nat) (loop : Bool) (b : Bay) : Bay :=
  { b with
    loop := loop
    dwell := if b.holder.isSome then some (Timer.start dwellTime) else none
    driveOff := if b.holder.isSome && !loop then some (Timer.start Config.driveOffTime) else none }

/-- The kerb at the restart: FIFOs emptied, loop levels read from the inputs (R144). -/
def Kerb.restart (b : Kerb) (lanes bays : List Bool) : Kerb :=
  { b with
    lanes := b.lanes.mapIdx fun i _ => { loop := lanes.getD i false, fifo := [] }
    bays := b.bays.mapIdx fun i x => x.restart b.dwellTime (bays.getD i false) }

/-- Transmit buffer and response slot emptied, chain registers 0 (R156, R170, R181). -/
def Links.restart (b : Links) : Links := { b with tx := [], response := none, shift := 0, permits := 0 }

/-- Elapsed count 0; every latch cleared, then RESTARTED raised (R169, R180). -/
def Service.restart (b : Service) : Service := ({ b.clearAll with elapsed := 0, recovery := none }).raise .restarted none

/-! ### Reconciliation and rebuild (R184, second and third) -/

/-- A record at the restart (R25), from the state its hook has after the relatching, the attendant that hook names, and
whether it had a MOVE entry. The park timer of a record then INBOUND starts again (R6). -/
def Record.reconcile (limit : Nat) (out : Bool) (holder : Option Nat) (hadMove : Bool) (r : Record) : Record :=
  let r := { r with flags := { r.flags with keyOverdue := false } }
  match r.state with
  | .fetching =>
    if out then
      { r.enter .suspended limit with call := none, attendant := holder, reason := some .restart }
    else (r.enter .called limit).freed
  | .inbound =>
    if hadMove && !out then (r.enter .granted limit).freed
    else { r.freed with park := some { elapsed := 0, length := limit, reached := false } }
  | .suspended => r
  | _ => r.freed

/-- Every live record is reconciled against the hook table. -/
def State.reconcile (s : State) (before : List Entry) : State :=
  { s with ct := { s.ct with
      records := s.ct.records.map fun r =>
        r.reconcile s.ct.parkLimit (s.hookState? r == some .out) (s.keyHolder r)
          (before.any fun e => e.ticket == r.ticket && e.kind == .move) } }

/-- The entry rebuilt for a record, where there is one (R110). -/
def Record.rebuilt (now : Time) (r : Record) : Option Entry :=
  match r.state, r.call with
  | .called, some c => some (Entry.ofCall r c)
  | .inbound, some c => some (Entry.ofCall r c)
  | .granted, _ => some (Entry.queued .move r r.tier now none)
  | _, _ => none

/-- The queue rebuilt from the reconciled records; it raises nothing. -/
def State.rebuild (s : State) : State :=
  s.setEntries ((s.ct.records.filterMap (Record.rebuilt s.sa.clock)).foldl (fun l e => insertEntry e l) [])

/-- A hook's custody timer restarts where it is OUT naming an attendant and its record is not STAGED (R83, R91). -/
def State.restartCustody (s : State) (k : Hook) : Hook :=
  if k.state = .out ∧ k.attendant.isSome ∧ ((k.bound.bind s.record?).any fun r => r.state != .staged) = true then
    k.startCustody s.kc.custodyLimit
  else k

/-- Every custody timer that a restart restarts. -/
def State.restartCustodies (s : State) : State :=
  { s with kc := { s.kc with
      panels := s.kc.panels.map fun p => { p with hooks := p.hooks.map s.restartCustody } } }

/-! ### RECOVERY -/

/-- The zones in the layout. -/
def State.layoutZones (s : State) : List Nat := (List.range Config.zones).filter fun z => (s.zone z).inLayout

/-- RECOVERY ends: CLOSED, the timer stopped, the set discarded (R186). -/
def State.endRecovery (s : State) : State := { s with sa := { s.sa with state := .closed, recovery := none } }

/-- RECOVERY begins, unless the state is COMMISSIONING; with no zone in the layout it ends at once (R184, R186). -/
def State.beginRecovery (s : State) : State :=
  if s.sa.state = .commissioning then s
  else if s.layoutZones.isEmpty then s.endRecovery
  else { s with sa := { s.sa with
           state := .recovery
           recovery := some { timer := Timer.start s.zl.silenceTime, unheard := s.layoutZones } } }

/-- A zone has been heard: it leaves the set, and RECOVERY ends when the set is empty (R186). -/
def State.heardInRecovery (s : State) (z : Nat) : State :=
  match s.sa.recovery with
  | none => s
  | some rc =>
    let left := rc.unheard.filter (· != z)
    if left.isEmpty then s.endRecovery
    else { s with sa := { s.sa with recovery := some { rc with unheard := left } } }

/-- Some stall is offerable in the second state and was not in the first (R67). -/
def offerGained (before after : State) : Bool :=
  (List.range Config.zones).any fun z =>
    (after.zoneStalls z).any fun p =>
      after.offerable z p.2 && !((before.stall? z p.1).any fun q => before.offerable z q)

/-- A stall's sensed state becomes UNKNOWN in a zone with withdrawal off (R50, R67). -/
def State.unknownGained (s : State) : Bool :=
  s.sm.zones.any fun z => !z.withdrawal && z.stalls.any fun x => x.sensed != .unknown

/-- An entry of the queue before has none in its place after (R50, R96). -/
def entryGone (before after : State) : Bool := before.jq.entries.any fun e => (after.entry? e.ticket).isNone

/-- What makes the restart's serving pass: a stall newly offerable (R67, R184), or a trigger of R50 that the restart brings: a
sensed state that becomes UNKNOWN with withdrawal off, the service state leaving NIGHT, an entry that is not rebuilt (log
entry 22). -/
def restartServes (before after : State) : Bool :=
  offerGained before after || before.unknownGained || before.sa.state == .night || entryGone before after

/-! ### The restart -/

/-- The volatile state of every block at its restart value. -/
def State.volatileReset (s : State) : State :=
  { s with
    ct := { s.ct with cursor := 0 }, sm := s.sm.restart, zl := s.zl.restart, kc := s.kc.restart,
    jq := { s.jq with entries := [] }, dr := s.dr.restart, km := s.km.restart s.pw.lanes s.pw.bays,
    lk := s.lk.restart, sa := s.sa.restart, due := .clear }

/-- The warm restart before its serving pass (R184): volatile state reset, records reconciled, queue rebuilt, timers restarted,
RECOVERY begun. -/
def State.restarted (s : State) : State :=
  ((s.volatileReset.reconcile s.jq.entries).rebuild.restartCustodies).beginRecovery

/-- The warm restart (R184). -/
def State.warmRestart (s : State) : State :=
  let q := s.restarted
  { (if restartServes s q then q.servePass else q) with due := .clear }

/-! ### CLEAR SITE (R178) -/

/-- What CLEAR SITE leaves: layout, settings, roster, FIFOs and latches as at power-on; the site identity, both clocks, the
ticket counter, the enables and the chain registers are kept. -/
def State.clearSite (s : State) : State :=
  { s with
    ct := { s.ct with cursor := 0, parkLimit := Config.parkLimitDefault }
    sm := .powerOn
    zl := .powerOn
    kc := { Cabinet.powerOn with sent := s.kc.sent }
    jq := .powerOn
    dr := .powerOn
    km := .powerOn s.pw.lanes s.pw.bays
    lk := { s.lk with tx := [], mask := 0 }
    sa := { s.sa.clearAll with state := .commissioning, recovery := none } }

end Sys2Proof.Machine
end

