-- ==== Sys2Proof/Machine/Ports.lean ====
section
/-! DEFINITION. The two command ports and the events: what a command answers and does (a plan), the desk response (R157),
the handset RESULT (R149), the checks both ports make before a command's own (R26, R127, R148, R159), and the shape of an
event on a line, a bus or a timer. -/

namespace Sys2Proof.Machine

/-- What a command answers, the fields it returns for that outcome, and its effect; and the ticket an ACCEPT issues, which
its RESULT carries as its ticket (log entry 18). -/
structure Plan where
  answer : Answer
  fields : List Value
  effect : State → State
  issued : Option Nat := none

/-- A refusal: nothing returned, nothing changed (R159). -/
def refuse (a : Answer) : Plan := { answer := a, fields := [], effect := id }

/-- DONE with an effect and nothing returned. -/
def done (f : State → State) : Plan := { answer := .done, fields := [], effect := f }

/-- DONE, returning fields and changing nothing. -/
def report (fields : List Value) : Plan := { answer := .done, fields := fields, effect := id }

/-! ### The desk port -/

/-- The response replaces what the slot held, with the service state and the attention line after the command (R157). -/
def State.respond (s : State) (answered : Option (Nat × Nat)) (a : Answer) (fields : List Value) : State :=
  { s with lk := { s.lk with
      response := some { answered := answered, answer := a, service := s.sa.state, line := s.sa.line, body := fields } } }

/-- A desk command: its effect, the end of the event, and its response. While the controller takes no event, nothing. -/
def deskCommand (req code : Nat) (plan : State → Plan) (s : State) : Host.Outcome State Fault Refusal :=
  .next (if s.running then
    (((plan s).effect s.begin).finish).respond (some (req, code)) (plan s).answer (plan s).fields
  else s)

/-- The checks of a desk command that names a record (R26): its fields, its ticket, its expected state. -/
def State.deskRecord (s : State) (t expected : Nat) (fieldsOk : Bool) (own : Record → Plan) : Plan :=
  match optStateOf expected with
  | none => refuse .badField
  | some want =>
    if !ticketOk t || !fieldsOk then refuse .badField
    else
      match s.record? t with
      | none => refuse .notFound
      | some r => if want.any (fun st => st != r.state) then refuse .notAsExpected else own r

/-- A setting with a range: BAD_FIELD outside it, otherwise DONE. -/
def ranged (lo hi v : Nat) (f : State → State) : Plan := if lo ≤ v ∧ v ≤ hi then done f else refuse .badField

/-- A layout command outside COMMISSIONING is refused before its fields are looked at (R174, R159). -/
def State.layoutCommand (s : State) (p : Plan) : Plan := if s.sa.frozen then refuse .layoutFixed else p

/-! ### The handset port -/

/-- The site filter (R147). -/
def State.siteAdmits (s : State) (h : Handset) : Bool := !s.lk.siteFixed || h.site == s.lk.siteId

/-- A coded site is 0 to 3 (R145). A frame with another site that the filter passes is refused BAD_FIELD (R188), where the
message's own fields are judged (DEDUCED, log entry 16). -/
def siteOk (h : Handset) : Bool := h.site ≤ 3

/-- The RESULT of a message (R149, 11.4). -/
def State.sendResult (s : State) (h : Handset) (kind : Nat) (a : Answer) (ticket : Option Nat) (fields : List Value) :
    State :=
  s.pushFrame { site := h.site, identity := h.identity, kind := 0x81, req := h.req,
                body := [.byte kind, .byte a.code, .optTicket ticket] ++ fields }

/-- A handset message: RESULT first, then the effect and the end of the event (R155). -/
def handsetMessage (h : Handset) (kind : Nat) (ticket : Option Nat) (plan : State → Plan) (s : State) :
    Host.Outcome State Fault Refusal :=
  .next (if s.running && s.siteAdmits h then
    ((plan s).effect (s.begin.sendResult h kind (plan s).answer (ticket <|> (plan s).issued) (plan s).fields)).finish
  else s)

/-- A refusal whose RESULT carries the fields of its kind written as absent (11.4). -/
def refuseWith (blank : List Value) (a : Answer) : Plan := { answer := a, fields := blank, effect := id }

/-- The sender check of R148: a message other than SIGN_ON comes from a handset bound to an attendant. -/
def State.boundSender (s : State) (h : Handset) (blank : List Value) (own : Nat → Plan) : Plan :=
  match s.boundTo? h.identity with
  | none => refuseWith blank .notSignedOn
  | some a => own a

/-- A message handed to its ruling block (R148): its sender, then its site with its own fields, then its own checks. -/
def State.fromSender (s : State) (h : Handset) (blank : List Value) (own : Nat → Plan) : Plan :=
  s.boundSender h blank fun a => if siteOk h then own a else refuseWith blank .badField

/-- The checks of a handset message that names a record (R127, R148): its fields, then its ticket. -/
def State.handsetRecord (s : State) (t : Nat) (fieldsOk : Bool) (blank : List Value) (own : Record → Plan) : Plan :=
  if !ticketOk t || !fieldsOk then refuseWith blank .badField
  else
    match s.record? t with
    | none => refuseWith blank .notFound
    | some r => own r

/-- The sender must be the acting attendant, where the record has one (R127). -/
def State.actingOnly (s : State) (a : Nat) (r : Record) (own : Plan) : Plan :=
  if (s.acting r).any (fun b => b != a) then refuse .notYours else own

/-- A message that names a ticket and nothing else, from any sender. -/
def handsetTicket (h : Handset) (kind t : Nat) (own : State → Nat → Record → Plan) (s : State) :
    Host.Outcome State Fault Refusal :=
  handsetMessage h kind (some t) (fun s => s.fromSender h [] fun a => s.handsetRecord t true [] (own s a)) s

/-! ### Events -/

/-- An event that is taken when it occurs: its changes, then the end of the event. One that has not occurred, or falls
while the controller takes no event, changes nothing (R180, R183). -/
def event (occurs : State → Bool) (f : State → State) (s : State) : Host.Outcome State Fault Refusal :=
  .next (if s.running && occurs s then (f s.begin).finish else s)

/-- A frame dropped with no effect. -/
def dropped (s : State) : Host.Outcome State Fault Refusal := .next s

end Sys2Proof.Machine
end

