-- ==== Sys2Proof/Machine/DeskCabinet.lean ====
section
/-! DEFINITION. The desk commands of the key cabinet (chapter 4). -/

namespace Sys2Proof.Machine

/-- SET WINDOW TIME (R81). -/
def execSetWindowTime (req seconds : Nat) (s : State) : Host.Outcome State Fault Refusal :=
  deskCommand req 0x38
    (fun _ => ranged 30 300 seconds fun q => { q with kc := { q.kc with windowTime := seconds } }) s

/-- SET CUSTODY LIMIT (R85). -/
def execSetCustodyLimit (req seconds : Nat) (s : State) : Host.Outcome State Fault Refusal :=
  deskCommand req 0x39
    (fun _ => ranged 120 3600 seconds fun q => { q with kc := { q.kc with custodyLimit := seconds } }) s

/-- BEGIN PANEL SERVICE (R87). -/
def execBeginPanelService (req panel : Nat) (s : State) : Host.Outcome State Fault Refusal :=
  deskCommand req 0x3A
    (fun s =>
      if !(s.panel panel).inLayout then refuse .badField
      else if (s.panel panel).inService then refuse .already
      else if (s.panel panel).hooks.any fun k => k.state == .opened then refuse .panelBusy
      else done fun q => q.setPanelService panel true) s

/-- END PANEL SERVICE (R89): a readiness event (R107). -/
def execEndPanelService (req panel : Nat) (s : State) : Host.Outcome State Fault Refusal :=
  deskCommand req 0x3B
    (fun s =>
      if !(s.panel panel).inLayout then refuse .badField
      else if !(s.panel panel).inService then refuse .already
      else done fun q => (q.setPanelService panel false).lookDue) s

/-- The length of a running timer, or nothing where it is stopped. -/
def lengthField (t : Option Timer) : Value := .optWord (t.map fun x => BitVec.ofNat 32 x.length)

/-- The seconds elapsed on a running timer. -/
def elapsedField (t : Option Timer) : Value := .optWord (t.map fun x => BitVec.ofNat 32 x.elapsed)

/-- A hook's flags byte (11.2). -/
def Hook.flagsCode (k : Hook) : Nat := k.forced.toNat + 2 * k.warned.toNat + 4 * k.overdue.toNat

/-- The fields of READ HOOK: R70's, the running timers' seconds, the panel's service, the named attendant's keys-out.
The window count is a count, two bytes (R188). -/
def State.hookFields (s : State) (h : Nat) (k : Hook) : List Value :=
  [.byte k.state.code, .optTicket k.bound, .optByte k.attendant, .optTag k.strayTag, .byte k.flagsCode,
   .byte k.phase.code, .half k.count, .optByte (k.latch.map Latch.code), lengthField k.window, lengthField k.custody,
   elapsedField k.window, elapsedField k.custody, .flag (s.hookInService h), .optCount (k.attendant.map s.keysOut)]

/-- READ HOOK (R90); a hook of a panel not in the layout is ABSENT, code 5. -/
def execReadHook (req hook : Nat) (s : State) : Host.Outcome State Fault Refusal :=
  deskCommand req 0x3C
    (fun s =>
      if 1023 < hook then refuse .badField
      else
        match s.hook? hook with
        | none => report [.byte 5]
        | some k => report (s.hookFields hook k)) s

end Sys2Proof.Machine
end

