-- ==== Sys2Proof/Machine/DeskJobs.lean ====
section
/-! DEFINITION. CALL and CANCEL CALL from both ports, and the desk commands of the job queue and the roster (chapters 5
and 6). -/

namespace Sys2Proof.Machine

/-! ### CALL (R98 to R100, R12) -/

/-- The record's call field is set. -/
def State.setCall (s : State) (t : Nat) (c : CallField) : State := s.modRecord t fun q => { q with call := some c }

/-- An upgrade at the queue and at the record (R99). -/
def State.upgradeCall (s : State) (t tier : Nat) : State :=
  (s.upgradeEntry t tier).modRecord t fun q => { q with call := q.call.map fun c => { c with tier := tier } }

/-- A new call (R12, R99, R100): what the record leaves behind, then its state, its call field and its FETCH entry. -/
def State.newCall (s : State) (r : Record) (c : CallField) : State :=
  let s :=
    match r.state with
    | .waiting => (s.leaveWaitList r.ticket).setState r.ticket .called
    | .granted => ((s.dropEntry r.ticket).releaseStall r.ticket).setState r.ticket .called
    | .inbound => s
    | _ => s.setState r.ticket .called
  (s.setCall r.ticket c).addEntry (Entry.ofCall r c)

/-- CALL's own checks in order (R98), then its effect. -/
def State.callPlan (s : State) (tier : Option Nat) (due : Option Time) (source : Source) (r : Record) : Plan :=
  let c : CallField := { tier := tier.getD r.tier, due := due, time := s.sa.clock, source := source }
  if r.state = .fetching ∨ r.state = .staged ∨ r.state = .suspended ∨
      (r.state = .inbound ∧ s.hasEntry r.ticket .move = true) then refuse .wrongState
  else
    match s.entry? r.ticket with
    | some e =>
      if e.kind = .move then done fun q => q.newCall r c
      else
        match tier with
        | none => refuse .already
        | some t => if t < e.tier then done fun q => q.upgradeCall r.ticket t else refuse .already
    | none =>
      if Config.queuePlaces ≤ s.jq.entries.length then refuse .queueFull else done fun q => q.newCall r c

/-- CALL (R98). -/
def execCall (port : Port) (ticket tier : Nat) (due : OptWord) (expected : Nat) (s : State) :
    Host.Outcome State Fault Refusal :=
  let ok := (optTierOf tier).isSome && (dueOf due).isSome
  let tier' := (optTierOf tier).getD none
  let due' := (dueOf due).getD none
  match port with
  | .desk req => deskCommand req 0x40 (fun s => s.deskRecord ticket expected ok (s.callPlan tier' due' .desk)) s
  | .handset h =>
    handsetMessage h 0x07 (some ticket)
      (fun s => s.fromSender h [] fun a => s.handsetRecord ticket ok [] fun r =>
        s.actingOnly a r (s.callPlan tier' due' .handset r)) s

/-! ### CANCEL CALL (R101, R13) -/

/-- The entry goes, an offer is withdrawn, the call field becomes absent, and the record moves as R13 gives. -/
def State.cancelCall (s : State) (r : Record) : State :=
  let s := (s.dropEntry r.ticket).modRecord r.ticket fun q => { q with call := none }
  match r.state, r.stall with
  | .called, some _ => s.setState r.ticket .stored
  | .called, none => (s.enterWaiting r.ticket).serveDue
  | _, _ => s

/-- CANCEL CALL's own checks in order (R101), then its effect. -/
def State.cancelPlan (s : State) (r : Record) : Plan :=
  match s.entry? r.ticket with
  | none => refuse .wrongState
  | some e =>
    if e.kind ≠ .fetch then refuse .wrongState
    else if e.status = .taken then refuse .tooLate
    else if r.state = .called ∧ r.stall = none ∧ s.waitListFull = true then refuse .waitlistFull
    else done fun q => q.cancelCall r

/-- CANCEL CALL (R101). -/
def execCancelCall (port : Port) (ticket expected : Nat) (s : State) : Host.Outcome State Fault Refusal :=
  match port with
  | .desk req => deskCommand req 0x41 (fun s => s.deskRecord ticket expected true s.cancelPlan) s
  | .handset h => handsetTicket h 0x08 ticket (fun s a r => s.actingOnly a r (s.cancelPlan r)) s

/-! ### The lead table and the queue (R108, R109) -/

/-- SET LEAD TIME (R108): the governing zone's value; lowering it is a readiness event. -/
def execSetLeadTime (req zone seconds : Nat) (s : State) : Host.Outcome State Fault Refusal :=
  deskCommand req 0x42
    (fun s =>
      if Config.zones ≤ zone ∨ 1800 < seconds then refuse .badField
      else done fun q =>
        ({ q with jq := { q.jq with leads := q.jq.leads.set (s.governing zone) seconds } }).lookIf
          (seconds < s.leadOf zone)) s

/-- READ LEAD TIMES (R108). -/
def execReadLeadTimes (req : Nat) (s : State) : Host.Outcome State Fault Refusal :=
  deskCommand req 0x43 (fun s => report (s.jq.leads.map fun n => .word (BitVec.ofNat 32 n))) s

/-- One entry of READ QUEUE: for a QUEUED entry also whether it is ready, and its unmet reason. -/
def State.entryFields (s : State) (position : Nat) (e : Entry) : List Value :=
  let queued : Bool := e.status == .queued
  [.byte position, .ticket e.ticket, .half e.slot, .byte e.kind.code, .byte e.status.code, .optByte e.attendant,
   .byte e.tier, .word e.time, .optWord e.due, .optByte (if queued then some (s.ready e).toNat else none),
   .optByte (if queued then (s.unmet e).map Unmet.code else none)]

/-- READ QUEUE (R109). -/
def execReadQueue (req start : Nat) (s : State) : Host.Outcome State Fault Refusal :=
  deskCommand req 0x44
    (fun s =>
      match startPositionOf start with
      | none => refuse .badField
      | some p =>
        let page := (s.jq.entries.drop p).take Config.pageSize
        report ([.half s.jq.entries.length, .half s.kerbCount, .half s.usableBays, .half page.length] ++
          (page.mapIdx fun i e => s.entryFields (p + i) e).flatten)) s

/-! ### The roster (R120, R128) -/

/-- SET ACK TIME (R120). -/
def execSetAckTime (req seconds : Nat) (s : State) : Host.Outcome State Fault Refusal :=
  deskCommand req 0x48 (fun _ => ranged 5 60 seconds fun q => { q with dr := { q.dr with ackTime := seconds } }) s

/-- The INBOUND record a PARKING attendant is parking. -/
def State.parkedBy (s : State) (a : Nat) : Option Record :=
  s.ct.records.find? fun r => r.state == .inbound && r.attendant == some a

/-- One roster entry of READ ROSTER. Every handset identity 0 to 255 is a value, so an absent one is written as presence byte 0
and identity byte 0, and one that is there as 1 and the identity (DESIGN CHOICE, log entry 10). -/
def State.rosterFields (s : State) (a : Nat) : List Value :=
  let x := s.attendant a
  let e := s.entryOf a
  [.byte x.state.code, .flag x.handset.isSome, .byte (x.handset.getD 0), .half (s.keysOut a), .flag (s.eligible a),
   .optWord x.idleSince, .optByte (if x.state = .idle then s.dr.idle.findIdx? (· == a) else none),
   .optTicket (e.map Entry.ticket), .optByte (e.map fun g => g.kind.code), elapsedField x.ack,
   .optTicket (if x.state = .parking then (s.parkedBy a).map Record.ticket else none)]

/-- READ ROSTER (R128). -/
def execReadRoster (req : Nat) (s : State) : Host.Outcome State Fault Refusal :=
  deskCommand req 0x49
    (fun s => report ((List.range Config.attendants).flatMap s.rosterFields ++
      [.half s.dr.idle.length, .word (BitVec.ofNat 32 s.dr.ackTime)])) s

end Sys2Proof.Machine
end

