-- ==== Sys2Proof/Machine/DeskKerb.lean ====
section
/-! DEFINITION. The desk commands of the kerb (chapter 7). -/

namespace Sys2Proof.Machine

/-- A command that names a bay of the layout; BAD_FIELD for any other (R136). -/
def State.onBay (s : State) (bay : Nat) (own : Bay → Plan) : Plan :=
  if (s.bay bay).inLayout then own (s.bay bay) else refuse .badField

/-- Change a bay; a rise of the usable bays is a readiness event (R135). -/
def State.setBay (s : State) (bay : Nat) (f : Bay → Bay) : State :=
  let q := s.modBay bay f
  q.lookIf (s.usableBays < q.usableBays)

/-- ENABLE BAY (R136). -/
def execEnableBay (req bay : Nat) (s : State) : Host.Outcome State Fault Refusal :=
  deskCommand req 0x50
    (fun s => s.onBay bay fun b =>
      if b.enabled then refuse .already else done fun q => q.setBay bay fun x => { x with enabled := true }) s

/-- DISABLE BAY (R136). -/
def execDisableBay (req bay : Nat) (s : State) : Host.Outcome State Fault Refusal :=
  deskCommand req 0x51
    (fun s => s.onBay bay fun b =>
      if !b.enabled then refuse .already else done fun q => q.setBay bay fun x => { x with enabled := false }) s

/-- SET BAY FLAGS (R136). -/
def execSetBayFlags (req bay night : Nat) (s : State) : Host.Outcome State Fault Refusal :=
  deskCommand req 0x52
    (fun s =>
      match boolOf night with
      | none => refuse .badField
      | some n => s.onBay bay fun _ => done fun q => q.setBay bay fun x => { x with night := n }) s

/-- SET DWELL TIME (R140). -/
def execSetDwellTime (req seconds : Nat) (s : State) : Host.Outcome State Fault Refusal :=
  deskCommand req 0x53
    (fun _ => ranged 60 3600 seconds fun q => { q with km := { q.km with dwellTime := seconds } }) s

/-- CLEAR LANE (R132). -/
def execClearLane (req lane : Nat) (s : State) : Host.Outcome State Fault Refusal :=
  deskCommand req 0x54
    (fun s =>
      if Config.lanes ≤ lane then refuse .badField
      else if (s.lane lane).fifo.isEmpty then refuse .already
      else done fun q => q.modLane lane fun x => { x with fifo := [] }) s

/-- A lane in READ KERB: level, count of captures, captures oldest first. -/
def Lane.fields (l : Lane) : List Value := [.flag l.loop, .half l.fifo.length] ++ l.fifo.map Value.word

/-- A bay in READ KERB. -/
def State.bayFields (s : State) (b : Bay) : List Value :=
  [.flag b.inLayout, .flag b.enabled, .flag b.night, .flag b.loop, .flag (s.bayUsable b), .optTicket b.holder,
   elapsedField b.dwell, elapsedField b.driveOff]

/-- READ KERB (R143). -/
def execReadKerb (req : Nat) (s : State) : Host.Outcome State Fault Refusal :=
  deskCommand req 0x55
    (fun s => report (s.km.lanes.flatMap Lane.fields ++ s.km.bays.flatMap s.bayFields ++
      [.half s.usableBays, .half s.stagedCount, .half s.fetchesOut, .half s.kerbCount,
       .word (BitVec.ofNat 32 s.km.dwellTime)])) s

end Sys2Proof.Machine
end

