-- ==== Sys2Proof/Machine/DeskLayout.lean ====
section
/-! DEFINITION. The layout commands (R174 to R177): taken in COMMISSIONING, refused LAYOUT_FIXED in any other state. -/

namespace Sys2Proof.Machine

/-- The stall counts of every zone but one. -/
def State.otherStalls (s : State) (zone : Nat) : Nat :=
  (s.sm.zones.mapIdx fun i z => if i = zone then 0 else z.stalls.length).sum

/-- A zone is created afresh; a pair it was in is broken (R174). -/
def State.defineZone (s : State) (zone count : Nat) : State :=
  let s := s.modZone zone fun _ => Zone.created count
  let s := if zone % 2 = 1 then s.modZone (zone - 1) fun z => { z with paired := false } else s
  s.setLink zone ZoneLink.never

/-- DEFINE ZONE (R174). -/
def execDefineZone (req zone count : Nat) (s : State) : Host.Outcome State Fault Refusal :=
  deskCommand req 0x70
    (fun s => s.layoutCommand
      (if Config.zones ≤ zone ∨ Config.maxZoneStalls < count ∨ Config.maxStalls < count + s.otherStalls zone then
        refuse .badField
      else done fun q => q.defineZone zone count)) s

/-- DEFINE FIXED STALL (R175). -/
def execDefineFixedStall (req zone index attr grade : Nat) (s : State) : Host.Outcome State Fault Refusal :=
  deskCommand req 0x71
    (fun s => s.layoutCommand
      (match s.stall? zone index, needOf attr with
      | some _, some a =>
        if 15 < grade then refuse .badField
        else done fun q => q.modStall zone index fun x => { x with source := .fixed grade, attr := a, enabled := true }
      | _, _ => refuse .badField)) s

/-- DEFINE PANEL (R176). -/
def execDefinePanel (req panel : Nat) (s : State) : Host.Outcome State Fault Refusal :=
  deskCommand req 0x72
    (fun s => s.layoutCommand
      (if Config.panels ≤ panel then refuse .badField
      else if (s.panel panel).inLayout then refuse .already
      else done fun q => q.modPanel panel fun _ => Panel.created)) s

/-- A bay under a new set of bays in the layout (R176). -/
def Bay.define (named : Bool) (b : Bay) : Bay :=
  if !named then Bay.absent b.loop else if b.inLayout then b else Bay.created b.loop

/-- DEFINE BAYS (R176): the set becomes the bays in the layout. -/
def execDefineBays (req bays : Nat) (s : State) : Host.Outcome State Fault Refusal :=
  deskCommand req 0x73
    (fun s => s.layoutCommand
      (if 256 ≤ bays then refuse .badField
      else done fun q =>
        { q with km := { q.km with bays := q.km.bays.mapIdx fun i b => b.define (bays.testBit i) } })) s

/-- FREEZE LAYOUT (R177). -/
def execFreezeLayout (req : Nat) (s : State) : Host.Outcome State Fault Refusal :=
  deskCommand req 0x74
    (fun s =>
      if s.sa.frozen then refuse .already
      else done fun q => { q with sa := { q.sa with state := .closed } }) s

end Sys2Proof.Machine
end

