-- ==== Sys2Proof/Machine/Frames.lean ====
section
/-! DEFINITION. The byte layouts of chapter 11 in both directions: check values (R187), the encodings of fields (R188), the
frames the controller sends, and the commands that received bytes spell. -/

namespace Sys2Proof.Machine

/-! ### Bytes and check values -/

/-- The low byte of a number. -/
def byteOf (n : Nat) : Byte := BitVec.ofNat 8 n

/-- Two, three and four bytes, most significant first. -/
def halfOf (n : Nat) : List Byte := [byteOf (n / 256), byteOf n]
def tripleOf (n : Nat) : List Byte := byteOf (n / 65536) :: halfOf n
def wordOf (n : Nat) : List Byte := byteOf (n / 16777216) :: tripleOf n

/-- The sum of bytes modulo 65,536 (R187). -/
def byteSum (bs : List Byte) : Nat := (bs.map BitVec.toNat).sum % 65536

/-- The check value of the covered bytes. -/
def checkValue (covered : List Byte) : Nat := 65535 - byteSum covered

/-- The check a receiver makes: the covered bytes and the check value sum to 65,535. -/
def checkHolds (covered : List Byte) (check : Nat) : Bool := (byteSum covered + check) % 65536 == 65535

/-- Covered bytes followed by their check value. -/
def withCheck (covered : List Byte) : List Byte := covered ++ halfOf (checkValue covered)

/-- The number at an offset of a byte list, most significant byte first; bytes that are not there count as 0. -/
def readByte (bs : List Byte) (i : Nat) : Nat := (bs.getD i 0#8).toNat
def readHalf (bs : List Byte) (i : Nat) : Nat := 256 * readByte bs i + readByte bs (i + 1)
def readTriple (bs : List Byte) (i : Nat) : Nat := 65536 * readByte bs i + readHalf bs (i + 1)
def readWord (bs : List Byte) (i : Nat) : Nat := 16777216 * readByte bs i + readTriple bs (i + 1)

/-! ### Fields sent (R188) -/

/-- A byte of a flag: 1 for on, yes or closed (R188), and for set (DESIGN CHOICE, log entry 34). -/
def flagByte (b : Bool) : Byte := if b then 1#8 else 0#8

/-- The bytes of a field. An absent stall has 0xFF in its index byte too: R188 gives its zone byte alone (DESIGN CHOICE, log
entry 33). -/
def Value.bytes : Value → List Byte
  | .byte n => [byteOf n]
  | .optByte n => [byteOf (n.getD 255)]
  | .flag b => [flagByte b]
  | .half n => halfOf n
  | .optHalf n => halfOf (n.getD 65535)
  | .ticket n => tripleOf n
  | .optTicket n => tripleOf (n.getD 0)
  | .word t => wordOf t.toNat
  | .optWord none => [0#8, 0#8, 0#8, 0#8, 0#8]
  | .optWord (some t) => 1#8 :: wordOf t.toNat
  | .stall none => [255#8, 255#8]
  | .stall (some st) => [byteOf st.zone, byteOf st.index]
  | .plate cs => byteOf cs.length :: (cs.map byteOf ++ List.replicate (10 - cs.length) 0#8)
  | .optTag none => [0#8, 0#8, 0#8, 0#8]
  | .optTag (some n) => 1#8 :: tripleOf n
  | .optCount none => [0#8, 0#8, 0#8]
  | .optCount (some n) => 1#8 :: halfOf n

/-- The bytes of a list of fields. -/
def fieldBytes (vs : List Value) : List Byte := vs.flatMap Value.bytes

/-! ### Frames sent -/

/-- What a response carries from its answered mark to its last field (11.3). -/
def Response.content (r : Response) : List Byte :=
  (match r.answered with
   | some (req, code) => [1#8, byteOf req, byteOf code]
   | none => [0#8, 0#8, 0#8]) ++
  [byteOf r.answer.code, byteOf r.service.code, flagByte r.line] ++ fieldBytes r.body

/-- A response frame: length, content, check. -/
def Response.bytes (r : Response) : List Byte := withCheck (halfOf (r.content.length + 2) ++ r.content)

/-- What a read transaction returns: the slot's response, or the empty mark (R157, 11.3). The read changes nothing. While the
controller takes no event (R183) it still returns the slot as it stands (DESIGN CHOICE, log entry 12). -/
def State.deskReadBytes (s : State) : List Byte :=
  match s.lk.response with
  | none => halfOf 0
  | some r => r.bytes

/-- A handset frame (11.4). -/
def HandsetFrame.bytes (f : HandsetFrame) : List Byte :=
  let content := [byteOf f.site, byteOf f.identity, byteOf f.kind, byteOf f.req] ++ fieldBytes f.body
  0xC5#8 :: withCheck (byteOf (content.length + 2) :: content)

/-- A set latch message (11.6). -/
def SetLatch.bytes (m : SetLatch) : List Byte :=
  0xB4#8 :: withCheck
    [byteOf (panelOf m.hook), 0x10#8, byteOf (m.hook % Config.hooksPerPanel), byteOf m.latch.code, 0#8, 0#8]

/-! ### Fields received -/

/-- A plate field at an offset. -/
def readPlate (bs : List Byte) (i : Nat) : PlateField :=
  { len := readByte bs i, chars := (List.range 10).map fun j => readByte bs (i + 1 + j) }

/-- A "1 + 4" field at an offset. -/
def readOptWord (bs : List Byte) (i : Nat) : OptWord := { presence := readByte bs i, value := readWord bs (i + 1) }

/-- A plate of no encoding: AMEND's plate under a mark that is neither given nor not given (log entry 9). -/
def PlateField.unreadable : PlateField := { len := 255, chars := List.replicate 10 0 }

/-- AMEND's plate behind its mark of being given. -/
def readGivenPlate (bs : List Byte) (i : Nat) : Option PlateField :=
  match readByte bs i with
  | 0 => none
  | 1 => some (readPlate bs (i + 1))
  | _ => some PlateField.unreadable

/-- AMEND's folio behind its mark of being given. -/
def readGivenFolio (bs : List Byte) (i : Nat) : Option OptWord :=
  match readByte bs i with
  | 0 => none
  | 1 => some (readOptWord bs (i + 1))
  | _ => some { presence := 255, value := 0 }

/-! ### The desk port: write transactions (R158, 11.2, 11.3) -/

/-- The length of a desk command's fields: each command has one fixed length (R188). R188's table has no row for the confirm
value of CLEAR SITE (0x76) and RESTART (0x79): it is taken as two bytes, the width of 0x5A3C (DESIGN CHOICE, log entry
31). -/
def deskFieldLength (code : Nat) : Option Nat :=
  match code with
  | 0x10 => some 20 | 0x11 => some 4 | 0x12 => some 4 | 0x13 => some 4 | 0x14 => some 6 | 0x15 => some 4
  | 0x16 => some 4 | 0x17 => some 4 | 0x18 => some 22 | 0x19 => some 13 | 0x1A => some 7 | 0x1B => some 3
  | 0x1C => some 4
  | 0x20 => some 2 | 0x21 => some 2 | 0x22 => some 1 | 0x23 => some 1 | 0x24 => some 3 | 0x25 => some 14
  | 0x26 => some 1 | 0x27 => some 1 | 0x28 => some 2 | 0x29 => some 3 | 0x2A => some 1 | 0x2B => some 2
  | 0x2C => some 0
  | 0x30 => some 4 | 0x31 => some 2
  | 0x38 => some 4 | 0x39 => some 4 | 0x3A => some 1 | 0x3B => some 1 | 0x3C => some 2
  | 0x40 => some 10 | 0x41 => some 4 | 0x42 => some 5 | 0x43 => some 0 | 0x44 => some 1
  | 0x48 => some 4 | 0x49 => some 0
  | 0x50 => some 1 | 0x51 => some 1 | 0x52 => some 2 | 0x53 => some 4 | 0x54 => some 1 | 0x55 => some 0
  | 0x60 => some 0 | 0x61 => some 0 | 0x62 => some 0 | 0x63 => some 2 | 0x64 => some 3
  | 0x70 => some 3 | 0x71 => some 4 | 0x72 => some 1 | 0x73 => some 1 | 0x74 => some 0 | 0x75 => some 1
  | 0x76 => some 2 | 0x77 => some 4 | 0x78 => some 2 | 0x79 => some 2
  | _ => none

/-- The command of a code, a request number and the fields; CAPTURE SITE samples the straps. -/
def deskInstr (site0 site1 : Bool) (code req : Nat) (fs : List Byte) : Instr :=
  let b := readByte fs
  let t := readTriple fs 0
  match code with
  | 0x10 => .accept (.desk req) (b 0) (b 1) (b 2) (readPlate fs 3) (readOptWord fs 14) (b 19)
  | 0x11 => .handover (.desk req) t (b 3)
  | 0x12 => .hold req t (b 3)
  | 0x13 => .resolveStored req t (b 3)
  | 0x14 => .resolveMoveTo req t (b 3) (b 4) (b 5)
  | 0x15 => .resolveWaiting req t (b 3)
  | 0x16 => .retire req t (b 3)
  | 0x17 => .getRecord req t (b 3)
  | 0x18 => .amend req t (readGivenPlate fs 3) (readGivenFolio fs 15) (b 21)
  | 0x19 => .findPlate req (readPlate fs 0) (readHalf fs 11)
  | 0x1A => .findFolio req (readOptWord fs 0) (readHalf fs 5)
  | 0x1B => .list req (readHalf fs 0) (b 2)
  | 0x1C => .setParkLimit req (readWord fs 0)
  | 0x20 => .enableStall req (b 0) (b 1)
  | 0x21 => .disableStall req (b 0) (b 1)
  | 0x22 => .openZone req (b 0)
  | 0x23 => .closeZone req (b 0)
  | 0x24 => .setZoneFlags req (b 0) (b 1) (b 2)
  | 0x25 => .setPreference req (b 0) (b 1) ((List.range 12).map fun j => b (2 + j))
  | 0x26 => .setPair req (b 0)
  | 0x27 => .unpair req (b 0)
  | 0x28 => .setSlot req (b 0) (b 1)
  | 0x29 => .setStallSlot req (b 0) (b 1) (b 2)
  | 0x2A => .readZone req (b 0)
  | 0x2B => .readStall req (b 0) (b 1)
  | 0x2C => .readWaitList req
  | 0x30 => .setSilenceTime req (readWord fs 0)
  | 0x31 => .setWithdrawal req (b 0) (b 1)
  | 0x38 => .setWindowTime req (readWord fs 0)
  | 0x39 => .setCustodyLimit req (readWord fs 0)
  | 0x3A => .beginPanelService req (b 0)
  | 0x3B => .endPanelService req (b 0)
  | 0x3C => .readHook req (readHalf fs 0)
  | 0x40 => .call (.desk req) t (b 3) (readOptWord fs 4) (b 9)
  | 0x41 => .cancelCall (.desk req) t (b 3)
  | 0x42 => .setLeadTime req (b 0) (readWord fs 1)
  | 0x43 => .readLeadTimes req
  | 0x44 => .readQueue req (b 0)
  | 0x48 => .setAckTime req (readWord fs 0)
  | 0x49 => .readRoster req
  | 0x50 => .enableBay req (b 0)
  | 0x51 => .disableBay req (b 0)
  | 0x52 => .setBayFlags req (b 0) (b 1)
  | 0x53 => .setDwellTime req (readWord fs 0)
  | 0x54 => .clearLane req (b 0)
  | 0x55 => .readKerb req
  | 0x60 => .captureSite req site0 site1
  | 0x61 => .readStatus req
  | 0x62 => .readAttention req
  | 0x63 => .clearAttention req (readHalf fs 0)
  | 0x64 => .setAttentionEnables req (readHalf fs 0) (b 2)
  | 0x70 => .defineZone req (b 0) (readHalf fs 1)
  | 0x71 => .defineFixedStall req (b 0) (b 1) (b 2) (b 3)
  | 0x72 => .definePanel req (b 0)
  | 0x73 => .defineBays req (b 0)
  | 0x74 => .freezeLayout req
  | 0x75 => .setServiceState req (b 0)
  | 0x76 => .clearSite req (readHalf fs 0)
  | 0x77 => .setClock req (readWord fs 0)
  | 0x78 => .setChainMask req (readHalf fs 0)
  | 0x79 => .restart req (readHalf fs 0)
  | _ => .deskUnknownCommand req code

/-- The length a write transaction declares: from the command code to the end of the check. -/
def declaredLength (bs : List Byte) : Nat := readHalf bs 1

/-- The covered bytes of a write transaction: its length bytes, code, request number and fields. -/
def deskCovered (bs : List Byte) : List Byte := (bs.drop 1).take (declaredLength bs)

/-- Case 1 of R158: the transaction ended early, its check fails, or the length is not the one its command requires. A
length too short for code, request number and check is such a length. -/
def deskFrameBad (bs : List Byte) : Bool :=
  let l := declaredLength bs
  bs.length < 3 + l || l < 4 || !checkHolds (deskCovered bs) (readHalf bs (1 + l)) ||
    (deskFieldLength (readByte bs 3)).any fun n => l != n + 4

/-- The command that a desk transaction other than a read spells. -/
def deskTransaction (site0 site1 : Bool) (bs : List Byte) : Instr :=
  if bs.head? = some 0xA1#8 then
    if deskFrameBad bs then .deskBadFrame bs
    else deskInstr site0 site1 (readByte bs 3) (readByte bs 4) (bs.drop 5)
  else .deskIgnoredTransaction bs

/-! ### The handset port (R145, 11.4) -/

/-- The length of an incoming message's fields. -/
def handsetFieldLength (kind : Nat) : Option Nat :=
  match kind with
  | 1 => some 1 | 2 => some 0 | 3 => some 0 | 4 => some 0 | 5 => some 20 | 6 => some 3 | 7 => some 9 | 8 => some 3
  | 9 => some 3 | 10 => some 3 | 11 => some 3 | 12 => some 3 | 13 => some 4 | 14 => some 3 | 15 => some 3
  | _ => none

/-- The message of a kind and its fields. -/
def handsetInstr (h : Handset) (kind : Nat) (fs : List Byte) : Instr :=
  let b := readByte fs
  let t := readTriple fs 0
  match kind with
  | 1 => .signOn h (b 0)
  | 2 => .signOff h
  | 3 => .takeBreak h
  | 4 => .ready h
  | 5 => .accept (.handset h) (b 0) (b 1) (b 2) (readPlate fs 3) (readOptWord fs 14) (b 19)
  | 6 => .parked h t
  | 7 => .call (.handset h) t (b 3) (readOptWord fs 4) 255
  | 8 => .cancelCall (.handset h) t 255
  | 9 => .ack h t
  | 10 => .decline h t
  | 11 => .abandon h t
  | 12 => .keyAgain h t
  | 13 => .staged h t (b 3)
  | 14 => .handover (.handset h) t 255
  | 15 => .repark h t
  | _ => .handsetUnknownKind h kind

/-- The message that the bytes of one frame spell, from the start byte; a frame that fails its check is dropped. A length below 6
leaves no room for site, identity, kind, request number and check: such a frame is dropped too, whatever its kind and
whether or not a check over so few bytes would hold, on which 11.4 is silent (DESIGN CHOICE, log entry 15). -/
def handsetTransfer (bs : List Byte) : Instr :=
  let l := readByte bs 1
  if bs.length = 2 + l ∧ 6 ≤ l ∧ checkHolds ((bs.drop 1).take (l - 1)) (readHalf bs l) = true ∧
      ((handsetFieldLength (readByte bs 4)).all fun n => l == n + 6) = true then
    handsetInstr { site := readByte bs 2, identity := readByte bs 3, req := readByte bs 5 } (readByte bs 4)
      ((bs.drop 6).take (l - 6))
  else .handsetFrameDropped bs

/-! ### The zone report line and the cabinet bus (11.5, 11.6) -/

/-- The twelve occupancy bytes as one set: index i is bit i mod 8 of byte i div 8. -/
def occupancyOf (bs : List Byte) : BitVec 96 :=
  BitVec.ofNat 96 ((bs.take 12).foldr (fun b n => b.toNat + 256 * n) 0)

/-- The occupancy bytes of a set. -/
def occupancyBytes (o : BitVec 96) : List Byte := (List.range 12).map fun j => byteOf (o.toNat / 256 ^ j)

/-- The sixteen bytes of a zone report frame as a report. -/
def zoneTransfer (bs : List Byte) : Instr :=
  .zoneReport (readByte bs 1) (occupancyOf (bs.drop 2)) (readHalf bs 14)

/-- The nine bytes of a cabinet message as a panel's message; one that fails its check or is of another kind is dropped. -/
def cabinetTransfer (bs : List Byte) : Instr :=
  if bs.length = 9 ∧ checkHolds ((bs.drop 1).take 6) (readHalf bs 7) = true then
    match readByte bs 2 with
    | 1 => .hookLoaded (readByte bs 1) (readByte bs 3) (readTriple bs 4)
    | 2 => .hookEmptied (readByte bs 1) (readByte bs 3) (readByte bs 4)
    | 3 => .latchDone (readByte bs 1) (readByte bs 3) (readByte bs 4)
    | _ => .cabinetMessageDropped bs
  else .cabinetMessageDropped bs

/-! ### Framing of a serial line (R187) -/

/-- Cut a serial line's bytes into frames: bytes before a start byte are discarded; a start byte is followed by as many
bytes as `length` says from what stands after it; a frame not yet whole stays. `fuel` bounds the frames and bytes. -/
def deframe (start : Byte) (length : List Byte → Nat) : Nat → List Byte → List (List Byte)
  | 0, _ => []
  | _ + 1, [] => []
  | n + 1, b :: bs =>
    if b ≠ start then deframe start length n bs
    else
      let l := length bs
      if bs.length < l then [] else (b :: bs.take l) :: deframe start length n (bs.drop l)

/-- The frames on each serial line. -/
def handsetFrames (bs : List Byte) : List (List Byte) :=
  deframe 0xC5#8 (fun rest => 1 + readByte rest 0) bs.length bs
def zoneFrames (bs : List Byte) : List (List Byte) := deframe 0xD3#8 (fun _ => 15) bs.length bs
def cabinetFrames (bs : List Byte) : List (List Byte) := deframe 0xB4#8 (fun _ => 8) bs.length bs

end Sys2Proof.Machine
end

