-- ==== Sys2Proof/Machine/DeskPort.lean ====
section
/-! DEFINITION. Write transactions that reach no command: bad frames, unknown codes, ignored transactions (R158, R187). -/

namespace Sys2Proof.Machine

/-- A BAD_FRAME response, with request number and command code absent (R158). A transaction that passes the checks of R158,
or is no write, is not this event. -/
def execDeskBadFrame (bytes : List Byte) (s : State) : Host.Outcome State Fault Refusal :=
  .next (if s.running ∧ bytes.head? = some 0xA1#8 ∧ deskFrameBad bytes = true then
    s.begin.respond none .badFrame []
  else s)

/-- A command code that is no desk command code: BAD_FIELD with the code echoed (R158). A desk command code is not this
event. -/
def execDeskUnknownCommand (req code : Nat) (s : State) : Host.Outcome State Fault Refusal :=
  if (deskFieldLength code).isSome then .next s else deskCommand req code (fun _ => refuse .badField) s

/-- A transaction that is neither a write nor a read leaves the response slot unchanged and gives no response (R187). -/
def execDeskIgnoredTransaction (_bytes : List Byte) (s : State) : Host.Outcome State Fault Refusal := dropped s

end Sys2Proof.Machine
end

