-- ==== Sys2Proof/Machine/DeskRecords.lean ====
section
/-! DEFINITION. The record commands (chapter 1): ACCEPT, HANDOVER, HOLD, the three RESOLVE commands, RETIRE, GET RECORD,
AMEND, the lookups, LIST and SET PARK LIMIT. -/

namespace Sys2Proof.Machine

/-! ### ACCEPT (R7, R8) -/

/-- ACCEPT's fields after R188. -/
structure Arrival where
  grade : Nat
  need : Need
  tier : Nat
  plate : List Nat
  folio : Option Nat
  lane : Option Nat

/-- Read ACCEPT's fields; nothing where R7 gives BAD_FIELD. -/
def arrivalOf (grade need tier : Nat) (plate : PlateField) (folio : OptWord) (lane : Nat) : Option Arrival :=
  if 15 < grade then none
  else
    match acceptNeedOf need, acceptTierOf tier, plateOf plate, folioOf folio, optLaneOf lane with
    | some n, some t, some p, some f, some l =>
      some { grade := grade, need := n, tier := t, plate := p, folio := f, lane := l }
    | _, _, _, _, _ => none

/-- The ticket ACCEPT would issue (R2). -/
def State.nextTicket (s : State) : Nat := issueTicket s.ct.records (s.ct.records.length + 1) s.ct.counter

/-- The slot ACCEPT would take (R1). -/
def State.nextSlot (s : State) : Nat := lowestFree 0 s.ct.records

/-- The record ACCEPT creates, before its stall (R8): INBOUND when a stall was found, else WAITING. -/
def State.newRecord (s : State) (f : Arrival) (hook : Nat) (found : Bool) (sender : Option Nat) : Record :=
  { slot := s.nextSlot, ticket := s.nextTicket, state := if found then .inbound else .waiting, grade := f.grade,
    need := f.need, tier := f.tier, plate := f.plate, folio := f.folio, stall := none, hook := hook, bay := none,
    attendant := if found then sender else none, arrival := f.lane.bind fun l => (s.lane l).fifo.head?,
    accepted := s.sa.clock, call := none, flags := {}, reason := none, reparks := 0, parkMark := false,
    keyMark := false,
    park := if found then some { elapsed := 0, length := s.ct.parkLimit, reached := false } else none }

/-- The oldest capture leaves the named lane's FIFO (R131). -/
def State.takeArrival (s : State) : Option Nat → State
  | none => s
  | some l => s.modLane l fun x => { x with fifo := x.fifo.tail }

/-- The step of an accepted ACCEPT (R8). -/
def State.acceptCar (s : State) (f : Arrival) (hook : Nat) (found : Option (StallId × Bool)) (sender : Option Nat) :
    State :=
  let t := s.nextTicket
  let r := s.newRecord f hook found.isSome sender
  let q := (s.takeArrival f.lane).addRecord r
  let q := ({ q with ct := { q.ct with counter := t } }).bindHook hook t
  match found with
  | some (st, fallback) => ((q.holdStall t st).noteFallback t fallback).startParking sender
  | none => q.joinWaitList t

/-- ACCEPT's own refusals in order (R7), then the record. -/
def State.acceptPlan (s : State) (sender : Option Nat) (fields : Option Arrival)
    (returns : Option (Nat × Nat × Nat) → Option StallId → List Value) : Plan :=
  let no (a : Answer) : Plan := refuseWith (returns none none) a
  if !s.dispatching then no .closed
  else
    match fields with
    | none => no .badField
    | some f =>
      if Config.recordSlots ≤ s.ct.records.length then no .tableFull
      else
        match s.freeHook? with
        | none => no .noHook
        | some hook =>
          let found := s.allocate f.grade f.need f.tier
          if found.isNone && s.waitListFull then no .waitlistFull
          else
            { answer := .done
              fields := returns (some (s.nextTicket, s.nextSlot, hook)) (found.map Prod.fst)
              effect := fun q => q.acceptCar f hook found sender
              issued := some s.nextTicket }

/-- What a desk ACCEPT returns: ticket, slot, hook and the stall or its absence; nothing at a refusal. -/
def deskAccepted : Option (Nat × Nat × Nat) → Option StallId → List Value
  | some (t, slot, hook), st => [.ticket t, .half slot, .half hook, .stall st]
  | none, _ => []

/-- What the RESULT of an ACCEPT carries after its ticket; each field absent at a refusal (11.4). -/
def handsetAccepted : Option (Nat × Nat × Nat) → Option StallId → List Value
  | some (_, slot, hook), st => [.optHalf (some slot), .optHalf (some hook), .stall st]
  | none, _ => [.optHalf none, .optHalf none, .stall none]

/-- ACCEPT (R7, R8). From a handset the sender is checked before ACCEPT's own refusals, BAD_FIELD among them (R148). -/
def execAccept (port : Port) (grade need tier : Nat) (plate : PlateField) (folio : OptWord) (lane : Nat) (s : State) :
    Host.Outcome State Fault Refusal :=
  let fields := arrivalOf grade need tier plate folio lane
  match port with
  | .desk req => deskCommand req 0x10 (fun s => s.acceptPlan none fields deskAccepted) s
  | .handset h =>
    handsetMessage h 0x05 none
      (fun s =>
        s.boundSender h (handsetAccepted none none) fun a =>
          if (s.attendant a).state = .idle then
            s.acceptPlan (some a) (if siteOk h then fields else none) handsetAccepted
          else refuseWith (handsetAccepted none none) .busy) s

/-! ### HANDOVER, HOLD, RETIRE (R17, R21, R24) -/

/-- HANDOVER at the record. -/
def handoverPlan (r : Record) : Plan :=
  if r.state = .staged then done fun s => s.retireRecord r.ticket else refuse .wrongState

/-- HANDOVER (R17). -/
def execHandover (port : Port) (ticket expected : Nat) (s : State) : Host.Outcome State Fault Refusal :=
  match port with
  | .desk req => deskCommand req 0x11 (fun s => s.deskRecord ticket expected true handoverPlan) s
  | .handset h => handsetTicket h 0x0E ticket (fun _ _ r => handoverPlan r) s

/-- HOLD (R21). -/
def execHold (req ticket expected : Nat) (s : State) : Host.Outcome State Fault Refusal :=
  deskCommand req 0x12
    (fun s =>
      s.deskRecord ticket expected true fun r =>
        match r.state with
        | .staged => refuse .wrongState
        | .suspended => refuse .already
        | _ => done fun q => q.suspend ticket .deskHold) s

/-- RETIRE (R24). -/
def execRetire (req ticket expected : Nat) (s : State) : Host.Outcome State Fault Refusal :=
  deskCommand req 0x16
    (fun s =>
      s.deskRecord ticket expected true fun r =>
        if r.state = .suspended then done fun q => q.retireRecord ticket else refuse .wrongState) s

/-! ### The RESOLVE commands (R22, R23) -/

/-- The suspension is over: no reason, no attendant. -/
def State.clearSuspension (s : State) (t : Nat) : State :=
  s.modRecord t fun q => { q with reason := none, attendant := none }

/-- The stall RESOLVE STORED would return the car to may be taken for it: it is sensed OCCUPIED, or its zone is not
LIVE. -/
def State.resolvable (s : State) (st : StallId) : Bool :=
  (s.link st.zone).link != .live || (s.stall? st.zone st.index).any fun x => x.sensed == .occupied

/-- RESOLVE STORED (R22). -/
def execResolveStored (req ticket expected : Nat) (s : State) : Host.Outcome State Fault Refusal :=
  deskCommand req 0x13
    (fun s =>
      s.deskRecord ticket expected true fun r =>
        if r.state ≠ .suspended then refuse .wrongState
        else if !r.stall.any s.resolvable then refuse .wrongState
        else if !s.keyIsHome r then refuse .busy
        else done fun q => (q.setState ticket .stored).clearSuspension ticket) s

/-- The record takes a stray stall: the former stall is released, the stray flag clears, and MISFIT and CHARGE_UNMET are
judged for the new stall (R22, R5, R66). -/
def State.placeInStray (s : State) (r : Record) (st : StallId) (x : Stall) : State :=
  let s := ((s.releaseStall r.ticket).holdStall r.ticket st).modStall st.zone st.index fun y => { y with stray := false }
  let s := s.noteFallback r.ticket (r.need == .charger && x.attr != .charger)
  if s.gradeOf x < r.grade then
    (s.modRecord r.ticket fun q => { q with flags := { q.flags with misfit := true } }).raise .misfit (some r.ticket)
  else s

/-- RESOLVE MOVE TO (R22); the cleared stray flag is a trigger for serving the wait list (R50). -/
def execResolveMoveTo (req ticket zone index expected : Nat) (s : State) : Host.Outcome State Fault Refusal :=
  deskCommand req 0x14
    (fun s =>
      s.deskRecord ticket expected (stallFieldOk zone index) fun r =>
        if r.state ≠ .suspended then refuse .wrongState
        else
          match s.stall? zone index with
          | none => refuse .badField
          | some x =>
            if !x.stray then refuse .wrongState
            else if !s.keyIsHome r then refuse .busy
            else done fun q =>
              (((q.placeInStray r ⟨zone, index⟩ x).setState ticket .stored).clearSuspension ticket).serveDue) s

/-- RESOLVE WAITING (R23). -/
def execResolveWaiting (req ticket expected : Nat) (s : State) : Host.Outcome State Fault Refusal :=
  deskCommand req 0x15
    (fun s =>
      s.deskRecord ticket expected true fun r =>
        if r.state ≠ .suspended then refuse .wrongState
        else if s.waitListFull then refuse .waitlistFull
        else if !s.keyIsHome r then refuse .busy
        else done fun q =>
          (((q.releaseStall ticket).clearSuspension ticket).enterWaiting ticket).serveDue) s

/-! ### Queries and changes (R27 to R29) -/

/-- The call bytes of the full record; zeros when there is no call (11.7). -/
def callFields : Option CallField → List Value
  | none => [.flag false, .byte 0, .optWord none, .word 0, .byte 0]
  | some c => [.flag true, .byte c.tier, .optWord c.due, .word c.time, .byte c.source.code]

/-- The full record, 56 bytes (11.7). -/
def Record.full (r : Record) : List Value :=
  [.half r.slot, .ticket r.ticket, .byte r.state.code, .byte r.grade, .byte r.need.code, .byte r.tier, .plate r.plate,
   .optWord (r.folio.map (BitVec.ofNat 32)), .stall r.stall, .half r.hook, .optByte r.bay, .optByte r.attendant,
   .optWord r.arrival, .word r.accepted] ++ callFields r.call ++
  [.byte r.flags.code, .byte (suspendReasonCode r.reason), .byte r.reparks,
   .byte (r.parkMark.toNat + 2 * r.keyMark.toNat)]

/-- GET RECORD (R27). -/
def execGetRecord (req ticket expected : Nat) (s : State) : Host.Outcome State Fault Refusal :=
  deskCommand req 0x17 (fun s => s.deskRecord ticket expected true fun r => report r.full) s

/-- AMEND (R27): the given fields are replaced. -/
def execAmend (req ticket : Nat) (plate : Option PlateField) (folio : Option OptWord) (expected : Nat) (s : State) :
    Host.Outcome State Fault Refusal :=
  deskCommand req 0x18
    (fun s =>
      s.deskRecord ticket expected (plate.all (fun p => (plateOf p).isSome) && folio.all (fun w => (folioOf w).isSome))
        fun r => done fun q =>
          q.modRecord ticket fun x =>
            { x with
              plate := (plate.bind plateOf).getD r.plate
              folio := (folio.bind folioOf).getD r.folio }) s

/-- The record summary, 15 bytes (11.7). -/
def Record.summary (r : Record) : List Value :=
  [.half r.slot, .ticket r.ticket, .byte r.state.code, .byte r.grade, .byte r.tier, .stall r.stall, .half r.hook,
   .optByte r.bay, .byte r.flags.code, .byte (suspendReasonCode r.reason)]

/-- The records a page shows: the first eight from the slot on that match (R28, R29). -/
def State.page (s : State) (start : Nat) (p : Record → Bool) : List Record :=
  (s.ct.records.filter fun r => start ≤ r.slot && p r).take Config.pageSize

/-- One past the last slot examined: the walk stops after the eighth match or after slot 1023. -/
def pageEnd (page : List Record) : Nat :=
  if page.length = Config.pageSize then (page.getLast?.map fun r => r.slot + 1).getD Config.recordSlots
  else Config.recordSlots

/-- The body of a lookup or LIST response (11.7). -/
def pageFields (page : List Record) : List Value :=
  [.half page.length] ++ page.flatMap Record.summary ++ [.half (pageEnd page)]

/-- FIND PLATE (R28). -/
def execFindPlate (req : Nat) (plate : PlateField) (start : Nat) (s : State) : Host.Outcome State Fault Refusal :=
  deskCommand req 0x19
    (fun s =>
      match plateOf plate, optSlotOf start with
      | some (c :: cs), some st => report (pageFields (s.page (st.getD 0) fun r => r.plate == c :: cs))
      | _, _ => refuse .badField) s

/-- FIND FOLIO (R28). -/
def execFindFolio (req : Nat) (folio : OptWord) (start : Nat) (s : State) : Host.Outcome State Fault Refusal :=
  deskCommand req 0x1A
    (fun s =>
      match folioOf folio, optSlotOf start with
      | some (some f), some st => report (pageFields (s.page (st.getD 0) fun r => r.folio == some f))
      | _, _ => refuse .badField) s

/-- LIST (R29): the cursor moves to one past the last slot examined. -/
def execList (req start filter : Nat) (s : State) : Host.Outcome State Fault Refusal :=
  deskCommand req 0x1B
    (fun s =>
      match optSlotOf start, optStateOf filter with
      | some st, some want =>
        let page := s.page (st.getD s.ct.cursor) fun r => want.all fun w => r.state == w
        { answer := .done, fields := pageFields page
          effect := fun q => { q with ct := { q.ct with cursor := pageEnd page } } }
      | _, _ => refuse .badField) s

/-- SET PARK LIMIT (R6). -/
def execSetParkLimit (req limit : Nat) (s : State) : Host.Outcome State Fault Refusal :=
  deskCommand req 0x1C
    (fun _ => ranged 120 3600 limit fun q => { q with ct := { q.ct with parkLimit := limit } }) s

end Sys2Proof.Machine
end

