-- ==== Sys2Proof/Machine/DeskService.lean ====
section
/-! DEFINITION. Site identity, status and attention (chapters 8 and 9), and the desk commands of the service state, the
clock, the ramp chain and the restart (chapter 10). -/

namespace Sys2Proof.Machine

/-! ### Site identity and status (R146, R160) -/

/-- The value the straps give: SITE0 is the low digit. -/
def strapValue (site0 site1 : Bool) : Nat := site0.toNat + 2 * site1.toNat

/-- CAPTURE SITE (R146). -/
def execCaptureSite (req : Nat) (site0 site1 : Bool) (s : State) : Host.Outcome State Fault Refusal :=
  deskCommand req 0x60
    (fun s =>
      if s.lk.siteFixed then { answer := .already, fields := [.byte s.lk.siteId], effect := id }
      else
        { answer := .done, fields := [.byte (strapValue site0 site1)]
          effect := fun q =>
            { q with
              lk := { q.lk with siteId := strapValue site0 site1, siteFixed := true }
              pw := { q.pw with site0 := site0, site1 := site1 } } }) s

/-- A cause as a coded value: its priority, 1 to 14. -/
def causeField (c : Option Cause) : Value := .optByte (c.map fun x => x.index + 1)

/-- The zones of the layout whose link is in a state. -/
def State.linkCount (s : State) (l : LinkState) : Nat := s.layoutZones.countP fun z => (s.link z).link == l

/-- The fields of READ STATUS, in R160's order. -/
def State.statusFields (s : State) : List Value :=
  [.byte s.sa.state.code, .flag s.sa.frozen, .word s.sa.clock, .word s.sa.elapsed, .byte s.lk.siteId,
   .flag s.lk.siteFixed, .half s.ct.records.length, .half s.sm.waitList.length, .half s.jq.entries.length,
   .half s.kerbCount, .half ((List.range Config.attendants).countP s.signedOn), .half s.dr.idle.length,
   .half (s.linkCount .live), .half (s.linkCount .silent), .half (s.linkCount .never), causeField s.sa.first,
   .flag s.sa.line]

/-- READ STATUS (R160). -/
def execReadStatus (req : Nat) (s : State) : Host.Outcome State Fault Refusal :=
  deskCommand req 0x61 (fun s => report s.statusFields) s

/-! ### Attention (R165 to R167) -/

/-- A cause's subject in the encoding of its kind (ch. 9.5); RESTARTED has none. -/
def subjectField (c : Cause) (n : Option Nat) : List Value :=
  match c with
  | .restarted => []
  | .zoneSilent => [.optByte n]
  | .stallAnomaly => [.optByte n]
  | .ackTimeout => [.optByte n]
  | .keyMishung => [.optHalf n]
  | _ => [.optTicket n]

/-- A cause with its first subject, or the mark that there is none. -/
def Service.causeWithSubject (sa : Service) : Option Cause → List Value
  | none => [causeField none]
  | some c => [causeField (some c)] ++ subjectField c (sa.cell c).subject

/-- A set of causes as its two bytes: bit n - 1 for the cause of priority n. -/
def causeSet (p : Cause → Bool) : Nat := (Cause.all.map fun c => if p c then 2 ^ c.index else 0).sum

/-- The fields of READ ATTENTION, in R166's order. -/
def Service.attentionFields (sa : Service) : List Value :=
  sa.causeWithSubject sa.reported ++ [.half (causeSet fun c => (sa.cell c).latch)] ++
  Cause.all.flatMap (fun c => subjectField c (sa.cell c).subject) ++ sa.causeWithSubject sa.first ++
  [.half (causeSet fun c => (sa.cell c).enable), .flag sa.master, .flag sa.line]

/-- READ ATTENTION (R166). -/
def execReadAttention (req : Nat) (s : State) : Host.Outcome State Fault Refusal :=
  deskCommand req 0x62 (fun s => report s.sa.attentionFields) s

/-- A set of the fourteen causes (R188). -/
def causeSetOk (n : Nat) : Bool := n < 16384

/-- CLEAR ATTENTION (R167). -/
def execClearAttention (req causes : Nat) (s : State) : Host.Outcome State Fault Refusal :=
  deskCommand req 0x63
    (fun s =>
      if causes = 0 ∨ causeSetOk causes = false then refuse .badField
      else if Cause.all.any fun c => causes.testBit c.index && (s.sa.cell c).latch then
        done fun q => { q with sa := q.sa.clearCauses causes }
      else refuse .already) s

/-- SET ATTENTION ENABLES (R165). -/
def execSetAttentionEnables (req enables master : Nat) (s : State) : Host.Outcome State Fault Refusal :=
  deskCommand req 0x64
    (fun _ =>
      match boolOf master with
      | none => refuse .badField
      | some m =>
        if causeSetOk enables then done fun q =>
          { q with sa := { q.sa with
              causes := q.sa.causes.mapIdx fun i k => { k with enable := enables.testBit i }, master := m } }
        else refuse .badField) s

/-! ### Service state, clock, chain mask, restart (R172, R178, R179, R182, R183) -/

/-- The states SET SERVICE STATE may name. -/
def namedServiceState : Nat → Option ServiceState
  | 1 => some .closed
  | 2 => some .opened
  | 3 => some .night
  | _ => none

/-- A change of the service state with its effects (R172, R173): leaving NIGHT is a serving trigger and a readiness event,
and a state that becomes OPEN or NIGHT is an event for the arbiter. -/
def State.changeService (s : State) (st : ServiceState) : State :=
  let q : State := { s with sa := { s.sa with state := st } }
  (q.serveIf (s.sa.state == .night)).lookIf (s.sa.state == .night || st == .opened || st == .night)

/-- SET SERVICE STATE (R172). -/
def execSetServiceState (req state : Nat) (s : State) : Host.Outcome State Fault Refusal :=
  deskCommand req 0x75
    (fun s =>
      if s.sa.state = .commissioning ∨ s.sa.state = .recovery then refuse .closed
      else
        match namedServiceState state with
        | none => refuse .badField
        | some st => if st = s.sa.state then refuse .already else done fun q => q.changeService st) s

/-- CLEAR SITE (R178). -/
def execClearSite (req confirm : Nat) (s : State) : Host.Outcome State Fault Refusal :=
  deskCommand req 0x76
    (fun s =>
      if s.sa.state ≠ .closed then refuse .closed
      else if confirm ≠ Config.confirmValue then refuse .badField
      else if !s.ct.records.isEmpty then refuse .busy
      else done State.clearSite) s

/-- SET CLOCK (R179): a readiness event. -/
def execSetClock (req value : Nat) (s : State) : Host.Outcome State Fault Refusal :=
  deskCommand req 0x77
    (fun _ => done fun q => ({ q with sa := { q.sa with clock := BitVec.ofNat 32 value } }).lookDue) s

/-- A permit newly held is a serving trigger and a readiness event (R181, R182). -/
def State.permitsChanged (s before : State) : State :=
  (s.serveIf (permitGained before s)).lookIf (permitGained before s)

/-- SET CHAIN MASK (R182). -/
def execSetChainMask (req zones : Nat) (s : State) : Host.Outcome State Fault Refusal :=
  deskCommand req 0x78
    (fun _ =>
      if zones < 4096 then done fun q =>
        ({ q with lk := { q.lk with mask := BitVec.ofNat 12 zones } }).permitsChanged q
      else refuse .badField) s

/-- RESTART (R183): the warm restart leaves no response (R170). -/
def execRestart (req confirm : Nat) (s : State) : Host.Outcome State Fault Refusal :=
  if confirm = Config.confirmValue then .next (if s.running then s.begin.warmRestart else s)
  else deskCommand req 0x79 (fun _ => refuse .badField) s

end Sys2Proof.Machine
end

