-- ==== Sys2Proof/Machine/DeskStalls.lean ====
section
/-! DEFINITION. The desk commands of the stall map (chapter 2) and of the zone links (chapter 3). -/

namespace Sys2Proof.Machine

/-! ### Stall enables and zone settings (R36 to R38) -/

/-- A command that names a stall of the layout; BAD_FIELD for any other (R32). -/
def State.onStall (s : State) (zone index : Nat) (own : Stall → Plan) : Plan :=
  match s.stall? zone index with
  | none => refuse .badField
  | some st => own st

/-- A command that names a zone of the layout; BAD_FIELD for any other. -/
def State.onZone (s : State) (zone : Nat) (own : Plan) : Plan :=
  if (s.zone zone).inLayout then own else refuse .badField

/-- ENABLE STALL (R36). -/
def execEnableStall (req zone index : Nat) (s : State) : Host.Outcome State Fault Refusal :=
  deskCommand req 0x20
    (fun s => s.onStall zone index fun st =>
      if st.enabled then refuse .already
      else done fun q => (q.modStall zone index fun x => { x with enabled := true }).serveDue) s

/-- DISABLE STALL (R36). -/
def execDisableStall (req zone index : Nat) (s : State) : Host.Outcome State Fault Refusal :=
  deskCommand req 0x21
    (fun s => s.onStall zone index fun st =>
      if st.isFixed then refuse .fixed
      else if !st.enabled then refuse .already
      else done fun q => q.modStall zone index fun x => { x with enabled := false }) s

/-- OPEN ZONE (R37): the governing zone opens, and the wait list is served. -/
def execOpenZone (req zone : Nat) (s : State) : Host.Outcome State Fault Refusal :=
  deskCommand req 0x22
    (fun s => s.onZone zone
      (if s.zoneOpen zone then refuse .already
       else done fun q => (q.modZone (s.governing zone) fun x => { x with isOpen := true }).serveDue)) s

/-- CLOSE ZONE (R37). -/
def execCloseZone (req zone : Nat) (s : State) : Host.Outcome State Fault Refusal :=
  deskCommand req 0x23
    (fun s => s.onZone zone
      (if !s.zoneOpen zone then refuse .already
       else done fun q => q.modZone (s.governing zone) fun x => { x with isOpen := false })) s

/-- SET ZONE FLAGS (R38): served when spill is newly set, or night is newly set in NIGHT. -/
def execSetZoneFlags (req zone night spill : Nat) (s : State) : Host.Outcome State Fault Refusal :=
  deskCommand req 0x24
    (fun s =>
      match boolOf night, boolOf spill with
      | some n, some p => s.onZone zone (done fun q =>
          (q.modZone (s.governing zone) fun x => { x with night := n, spill := p }).serveIf
            ((p && !s.zoneSpill zone) || (n && !s.zoneNight zone && s.sa.state == .night)))
      | _, _ => refuse .badField) s

/-- SET PREFERENCE (R45). -/
def execSetPreference (req tier count : Nat) (zones : List Nat) (s : State) : Host.Outcome State Fault Refusal :=
  deskCommand req 0x25
    (fun _ =>
      match tierOf tier, preferenceOf count zones with
      | some t, some l => done fun q => ({ q with sm := { q.sm with prefs := q.sm.prefs.set t l } }).serveDue
      | _, _ => refuse .badField) s

/-! ### Pairing (R39, R40) -/

/-- The paired field of a zone is written: the wait list is served, and a permit that is newly held is a readiness event
(R42, R107). -/
def State.setPaired (s : State) (zone : Nat) (b : Bool) : State :=
  let q := s.modZone zone fun x => { x with paired := b }
  q.serveDue.lookIf (permitGained s q)

/-- SET PAIR (R39). -/
def execSetPair (req zone : Nat) (s : State) : Host.Outcome State Fault Refusal :=
  deskCommand req 0x26
    (fun s =>
      if zone % 2 = 1 ∨ (s.zone zone).inLayout = false ∨ (s.zone (zone + 1)).inLayout = false then refuse .badField
      else if (s.zone zone).paired then refuse .already
      else if (s.zone zone).isOpen || (s.zone (zone + 1)).isOpen then refuse .zoneOpen
      else done fun q => q.setPaired zone true) s

/-- UNPAIR (R40). -/
def execUnpair (req zone : Nat) (s : State) : Host.Outcome State Fault Refusal :=
  deskCommand req 0x27
    (fun s =>
      if zone % 2 = 1 ∨ (s.zone zone).inLayout = false then refuse .badField
      else if !(s.zone zone).paired then refuse .already
      else if (s.zone zone).isOpen then refuse .zoneOpen
      else done fun q => q.setPaired zone false) s

/-! ### Grade slots (R34, R35) -/

/-- The stalls of a grade slot, by zone and then index. -/
def State.stallsOnSlot (s : State) (n : Nat) : List Stall :=
  s.sm.zones.flatMap fun z => z.stalls.filter fun st => st.source == .slot n

/-- A grade slot takes a new grade, and every held stall on it is examined in order (R34). -/
def State.regrade (s : State) (n grade : Nat) : State :=
  let s := { s with sm := { s.sm with gradeSlots := s.sm.gradeSlots.set n grade } }
  ((s.stallsOnSlot n).foldl State.compareGrade s).serveDue

/-- SET SLOT (R34); the value the slot already holds changes nothing. -/
def execSetSlot (req slot grade : Nat) (s : State) : Host.Outcome State Fault Refusal :=
  deskCommand req 0x28
    (fun s =>
      if 3 < slot ∨ 15 < grade then refuse .badField
      else if s.sm.gradeSlots.getD slot 0 = grade then report []
      else done fun q => q.regrade slot grade) s

/-- SET STALL SLOT (R35). -/
def execSetStallSlot (req zone index slot : Nat) (s : State) : Host.Outcome State Fault Refusal :=
  deskCommand req 0x29
    (fun s => s.onStall zone index fun st =>
      if 3 < slot then refuse .badField
      else if st.isFixed then refuse .fixed
      else if s.zoneOpen zone then refuse .zoneOpen
      else done fun q =>
        (q.modStall zone index fun x => { x with source := .slot slot }).compareGrade { st with source := .slot slot }) s

/-! ### Reading the map (R53) -/

/-- How many stalls of a zone meet a condition. -/
def State.countStalls (s : State) (zone : Nat) (p : Stall → Bool) : Value := .half ((s.zone zone).stalls.countP p)

/-- The fields of READ ZONE for a zone in the layout: R30's, the governing zone's three, link, withdrawal and permit, and
the four counts. An open state is coded 0 open, 1 closed (R188). -/
def State.zoneFields (s : State) (zone : Nat) : List Value :=
  let z := s.zone zone
  [.flag z.inLayout, .half z.stalls.length, .flag (!z.isOpen), .flag z.night, .flag z.spill, .flag z.paired,
   .flag z.withdrawal, .flag (!s.zoneOpen zone), .flag (s.zoneNight zone), .flag (s.zoneSpill zone),
   .byte (s.link zone).link.code, .flag (s.withdrawn zone), .flag (s.permitHeld zone),
   s.countStalls zone fun st => st.enabled, s.countStalls zone fun st => st.holder.isSome,
   s.countStalls zone fun st => st.stray, s.countStalls zone fun st => s.offerable zone st]

/-- READ ZONE (R53). -/
def execReadZone (req zone : Nat) (s : State) : Host.Outcome State Fault Refusal :=
  deskCommand req 0x2A
    (fun s =>
      if Config.zones ≤ zone then refuse .badField
      else if (s.zone zone).inLayout then report (s.zoneFields zone)
      else report [.flag false]) s

/-- The byte of a grade source: the slot's number or the fixed grade; the fixed field after it says which. -/
def GradeSource.code : GradeSource → Nat
  | .slot n => n
  | .fixed g => g

/-- The fields of READ STALL: R32's, the grade, the holder's ticket, and whether it is offerable now. R188 names no run: the
vacant run and the occupied run are one byte each (DESIGN CHOICE, log entry 10). -/
def State.stallFields (s : State) (zone : Nat) (st : Stall) : List Value :=
  [.byte st.source.code, .byte st.attr.code, .flag st.isFixed, .flag st.enabled, .byte st.sensed.code,
   .byte st.vacantRun, .byte st.occupiedRun, .optHalf ((st.holder.bind s.record?).map Record.slot), .flag st.stray,
   .byte (s.gradeOf st), .optTicket st.holder, .flag (s.offerable zone st)]

/-- READ STALL (R53). -/
def execReadStall (req zone index : Nat) (s : State) : Host.Outcome State Fault Refusal :=
  deskCommand req 0x2B (fun s => s.onStall zone index fun st => report (s.stallFields zone st)) s

/-- One place of the wait list: ticket, grade, need, tier, and whether the key is home. -/
def State.waitFields (s : State) (t : Nat) : List Value :=
  match s.record? t with
  | none => [.ticket t, .byte 0, .byte 0, .byte 0, .flag false]
  | some r => [.ticket t, .byte r.grade, .byte r.need.code, .byte r.tier, .flag (s.keyIsHome r)]

/-- READ WAIT LIST (R53). -/
def execReadWaitList (req : Nat) (s : State) : Host.Outcome State Fault Refusal :=
  deskCommand req 0x2C
    (fun s => report ([.half s.sm.waitList.length] ++ s.sm.waitList.flatMap s.waitFields)) s

/-! ### Zone links (R57, R59) -/

/-- SET SILENCE TIME (R57). -/
def execSetSilenceTime (req seconds : Nat) (s : State) : Host.Outcome State Fault Refusal :=
  deskCommand req 0x30
    (fun _ => ranged 4 60 seconds fun q => { q with zl := { q.zl with silenceTime := seconds } }) s

/-- SET WITHDRAWAL (R59): acts on the named zone itself; turned off, it is a trigger for serving the wait list. -/
def execSetWithdrawal (req zone on : Nat) (s : State) : Host.Outcome State Fault Refusal :=
  deskCommand req 0x31
    (fun s =>
      match boolOf on with
      | none => refuse .badField
      | some b => s.onZone zone
          (if (s.zone zone).withdrawal = b then refuse .already
           else done fun q => (q.modZone zone fun x => { x with withdrawal := b }).serveIf (!b))) s

end Sys2Proof.Machine
end

