-- ==== Sys2Proof/Machine/HandsetMessages.lean ====
section
/-! DEFINITION. The handset messages (chapter 8), each at the block that rules it: the roster messages (chapter 6), PARKED and
REPARK (chapter 1), the replies to an offer (chapter 5), ABANDON (chapter 6), KEY_AGAIN (chapter 4) and STAGED (chapter 7). -/

namespace Sys2Proof.Machine

/-! ### Signing on and off (R114 to R116) -/

/-- SIGN_ON's checks in order, then the binding and the place at the back of the idle list (R114). -/
def State.signOnPlan (s : State) (identity roster : Nat) : Plan :=
  if Config.attendants ≤ roster then refuse .badField
  else if s.signedOn roster && (s.attendant roster).handset == some identity then refuse .already
  else if s.signedOn roster || (s.boundTo? identity).isSome then refuse .busy
  else
    { answer := .done, fields := [.half (s.keysOut roster)]
      effect := fun q => (q.modAttendant roster fun e => { e with handset := some identity }).idleBack roster }

/-- SIGN_ON (R114). -/
def execSignOn (h : Handset) (roster : Nat) (s : State) : Host.Outcome State Fault Refusal :=
  handsetMessage h 0x01 none
    (fun s => if !siteOk h then refuse .badField else s.signOnPlan h.identity roster) s

/-- The attendant is signed off: OFF, out of the idle list, its handset unbound (R115). -/
def State.signOff (s : State) (a : Nat) : State :=
  (s.leaveIdle a .off).modAttendant a fun e => { e with handset := none }

/-- SIGN_OFF (R115). -/
def execSignOff (h : Handset) (s : State) : Host.Outcome State Fault Refusal :=
  handsetMessage h 0x02 none
    (fun s => s.fromSender h [] fun a =>
      match (s.attendant a).state with
      | .idle => done fun q => q.signOff a
      | .away => done fun q => q.signOff a
      | _ => refuse .busy) s

/-- BREAK (R116). -/
def execTakeBreak (h : Handset) (s : State) : Host.Outcome State Fault Refusal :=
  handsetMessage h 0x03 none
    (fun s => s.fromSender h [] fun a =>
      match (s.attendant a).state with
      | .idle => done fun q => q.leaveIdle a .away
      | .away => refuse .already
      | _ => refuse .busy) s

/-- READY (R116). -/
def execReady (h : Handset) (s : State) : Host.Outcome State Fault Refusal :=
  handsetMessage h 0x04 none
    (fun s => s.fromSender h [] fun a =>
      match (s.attendant a).state with
      | .away => done fun q => q.idleBack a
      | .idle => refuse .already
      | _ => refuse .busy) s

/-! ### PARKED (R9) -/

/-- PARKED (R9). -/
def execParked (h : Handset) (ticket : Nat) (s : State) : Host.Outcome State Fault Refusal :=
  handsetTicket h 0x06 ticket
    (fun s a r => s.actingOnly a r
      (if r.state ≠ .inbound then refuse .wrongState
       else if r.parkMark then refuse .already
       else done fun q => q.setMarks ticket true r.keyMark)) s

/-! ### Replies to an offer (R102, R121, R14) -/

/-- ACKED at the record (R14): FETCHING or INBOUND, naming the attendant, and a release window is asked for. -/
def State.acked (s : State) (r : Record) (kind : JobKind) (a : Nat) : State :=
  match kind, r.state with
  | .fetch, .called =>
    ((s.setState r.ticket .fetching).modRecord r.ticket fun q => { q with attendant := some a }).requestWindow r.hook a
  | .move, .granted =>
    ((s.setState r.ticket .inbound).modRecord r.ticket fun q => { q with attendant := some a }).requestWindow r.hook a
  | _, _ => s

/-- The state of an attendant with an acknowledged job (R121). -/
def JobKind.working : JobKind → AttendantState
  | .fetch => .fetching
  | .move => .moving

/-- ACK taken: the entry is TAKEN, the attendant FETCHING or MOVING with its timer stopped, then ACKED. -/
def State.takeJob (s : State) (r : Record) (e : Entry) (a : Nat) : State :=
  ((s.modEntry r.ticket fun g => { g with status := .taken }).leaveIdle a e.kind.working).acked r e.kind a

/-- ACK against the record's entry (R102). -/
def State.ackPlan (s : State) (a : Nat) (r : Record) : Plan :=
  match s.entry? r.ticket with
  | none => refuse .withdrawn
  | some e =>
    match e.status with
    | .queued => refuse .withdrawn
    | .offered => if e.attendant = some a then done fun q => q.takeJob r e a else refuse .notYours
    | .taken => if e.attendant = some a then refuse .already else refuse .notYours

/-- ACK (R102). -/
def execAck (h : Handset) (ticket : Nat) (s : State) : Host.Outcome State Fault Refusal :=
  handsetTicket h 0x09 ticket (fun s a r => s.ackPlan a r) s

/-- DECLINE against the record's entry (R102): the entry is QUEUED and the attendant IDLE at the back (R121). -/
def State.declinePlan (s : State) (a : Nat) (r : Record) : Plan :=
  match s.entry? r.ticket with
  | none => refuse .withdrawn
  | some e =>
    match e.status with
    | .queued => refuse .withdrawn
    | .offered =>
      if e.attendant = some a then done fun q => (q.requeue r.ticket).idleBack a else refuse .notYours
    | .taken => if e.attendant = some a then refuse .tooLate else refuse .notYours

/-- DECLINE (R102). -/
def execDecline (h : Handset) (ticket : Nat) (s : State) : Host.Outcome State Fault Refusal :=
  handsetTicket h 0x0A ticket (fun s a r => s.declinePlan a r) s

/-! ### ABANDON and KEY_AGAIN (R126, R79) -/

/-- ABANDON (R126, R15). -/
def execAbandon (h : Handset) (ticket : Nat) (s : State) : Host.Outcome State Fault Refusal :=
  handsetTicket h 0x0B ticket
    (fun s a r => s.actingOnly a r
      (if r.state ≠ .fetching then refuse .wrongState
       else if r.stall.isNone then refuse .tooLate
       else done fun q => (q.undoJob ticket .called).idleBack a)) s

/-- KEY_AGAIN at the record's hook: R79's checks and no other. R86 says that an attendant's keys-out count never exceeds three,
yet R79 names no key limit and R117 does not count a HELD hook in its second period, so the key taken here may be a fourth
(DEDUCED, log entry 35). -/
def State.keyAgainPlan (s : State) (a : Nat) (r : Record) : Plan :=
  match s.hook? r.hook with
  | none => refuse .notYours
  | some k =>
    if k.attendant ≠ some a then refuse .notYours
    else if k.state = .opened then refuse .already
    else if k.state ≠ .held ∨ k.count ≠ 1 then refuse .wrongState
    else done fun q => q.updHook r.hook (Hook.openFor a 1 q.kc.windowTime)

/-- KEY_AGAIN (R79). -/
def execKeyAgain (h : Handset) (ticket : Nat) (s : State) : Host.Outcome State Fault Refusal :=
  handsetTicket h 0x0C ticket (fun s a r => s.keyAgainPlan a r) s

/-! ### STAGED (R138, R139) -/

/-- A bay that can take the staged car (R138). -/
def State.bayTakes (s : State) (b : Bay) : Bool := s.bayUsable b && b.loop && b.holder.isNone

/-- STAGED (R138). -/
def execStaged (h : Handset) (ticket bay : Nat) (s : State) : Host.Outcome State Fault Refusal :=
  handsetMessage h 0x0D (some ticket)
    (fun s => s.fromSender h [] fun a => s.handsetRecord ticket (bay < Config.bays) [] fun r =>
      s.actingOnly a r
        (if r.state = .staged ∧ r.bay = some bay then refuse .already
         else if r.state ≠ .fetching then refuse .wrongState
         else if !s.bayTakes (s.bay bay) then refuse .badBay
         else done fun q => q.stagedOk ticket bay)) s

/-! ### REPARK (R18, R86) -/

/-- The step of an accepted REPARK. -/
def State.reparkCar (s : State) (r : Record) (a : Nat) (found : Option (StallId × Bool)) : State :=
  let t := r.ticket
  let s := (s.freeBay r.bay).modRecord t fun q =>
    { q with bay := none, reparks := q.reparks + 1, flags := { q.flags with departureUnconfirmed := false } }
  let s := s.reparkHook r.hook a
  match found with
  | some (st, fallback) =>
    (((((s.setState t .inbound).holdStall t st).noteFallback t fallback).modRecord t fun q =>
      { q with attendant := some a }).startParking (some a))
  | none => s.enterWaiting t

/-- REPARK's own checks in order (R18), then its effect. -/
def State.reparkPlan (s : State) (a : Nat) (r : Record) : Plan :=
  let no (x : Answer) : Plan := refuseWith [.stall none] x
  if (s.attendant a).state ≠ .idle then no .busy
  else if r.state ≠ .staged ∨ Config.maxReparks ≤ r.reparks then no .wrongState
  else if (s.hook? r.hook).bind Hook.attendant ≠ some a ∧ Config.keyLimit ≤ s.keyLoad a then no .keyLimit
  else
    let found := s.allocate r.grade r.need r.tier
    if found.isNone && s.waitListFull then no .waitlistFull
    else { answer := .done, fields := [.stall (found.map Prod.fst)], effect := fun q => q.reparkCar r a found }

/-- REPARK (R18). -/
def execRepark (h : Handset) (ticket : Nat) (s : State) : Host.Outcome State Fault Refusal :=
  handsetMessage h 0x0F (some ticket)
    (fun s => s.fromSender h [.stall none] fun a => s.handsetRecord ticket true [.stall none] fun r =>
      s.reparkPlan a r) s

/-! ### The port itself (R145, R148, R155) -/

/-- A dropped frame has no answer and no effect (R145). -/
def execHandsetFrameDropped (_bytes : List Byte) (s : State) : Host.Outcome State Fault Refusal := dropped s

/-- A frame of an unknown kind is answered BAD_FIELD with the kind echoed (R148, R149). A known kind is not this event. -/
def execHandsetUnknownKind (h : Handset) (kind : Nat) (s : State) : Host.Outcome State Fault Refusal :=
  if (handsetFieldLength kind).isSome then .next s else handsetMessage h kind none (fun _ => refuse .badField) s

/-- The oldest frame leaves the transmit buffer (R155). -/
def execHandsetFrameSent (s : State) : Host.Outcome State Fault Refusal :=
  event (fun s => !s.lk.tx.isEmpty) (fun s => { s with lk := { s.lk with tx := s.lk.tx.tail } }) s

end Sys2Proof.Machine
end

