-- ==== Sys2Proof/Machine/Lines.lean ====
section
/-! DEFINITION. The input lines (R130, R134, R181), the supplies and RESET_N (R183). -/

namespace Sys2Proof.Machine

/-! ### Loops -/

/-- A change of a lane loop's level (R130): a rising edge captures the service time while the FIFO holds fewer than four. -/
def State.laneLoop (s : State) (lane : Nat) (level : Bool) : State :=
  s.modLane lane fun l =>
    { loop := level
      fifo := if level && !l.loop && l.fifo.length < Config.laneCaptures then l.fifo ++ [s.sa.clock] else l.fifo }

/-- LANE0 or LANE1 changes; the input's level stands whether or not the controller takes the event. -/
def execLaneLoopChange (lane : Nat) (level : Bool) (s : State) : Host.Outcome State Fault Refusal :=
  let s := { s with pw := { s.pw with lanes := s.pw.lanes.set lane level } }
  event (fun s => (s.lane lane).loop != level) (fun s => s.laneLoop lane level) s

/-- A change of a bay loop's level (R134): under a holder, OFF starts the drive-off timer and ON stops it. -/
def Bay.loopChange (level : Bool) (b : Bay) : Bay :=
  { b with
    loop := level
    driveOff :=
      if b.holder.isSome then
        if level then none
        else
          match b.driveOff with
          | none => some (Timer.start Config.driveOffTime)
          | some t => some t
      else b.driveOff }

/-- BAY0 to BAY7 changes. -/
def execBayLoopChange (bay : Nat) (level : Bool) (s : State) : Host.Outcome State Fault Refusal :=
  let s := { s with pw := { s.pw with bays := s.pw.bays.set bay level } }
  event (fun s => (s.bay bay).loop != level) (fun s => s.modBay bay (Bay.loopChange level)) s

/-! ### The ramp chain (R181) -/

/-- The permit register takes the shift register. -/
def State.loadPermits (s : State) : State :=
  ({ s with lk := { s.lk with permits := s.lk.shift } }).permitsChanged s

/-- A rising edge of CHAIN_LOAD. -/
def execChainLoad (s : State) : Host.Outcome State Fault Refusal := event (fun _ => true) State.loadPermits s

/-- A rising edge of CHAIN_CLK: position 11 goes out, every other position moves up, CHAIN_IN enters position 0. -/
def Links.clockChain (b : Links) (level : Bool) : Links :=
  { b with
    chainOut := b.shift.getLsbD 11
    shift := (b.shift <<< 1) ||| (if level then 1#12 else 0#12) }

/-- A rising edge of CHAIN_CLK with the level of CHAIN_IN. -/
def execChainClkRisingEdge (chainIn : Bool) (s : State) : Host.Outcome State Fault Refusal :=
  event (fun _ => true)
    (fun s => { s with lk := s.lk.clockChain chainIn, pw := { s.pw with chainIn := chainIn } }) s

/-! ### Supplies and RESET_N (R183) -/

/-- The controller at power-on over the pins it has, with the backup supply present or not. -/
def State.applyPower (s : State) (backup : Bool) : State :=
  State.poweredOn { s.pw with main := true, backup := backup, lost := false } s.pending

/-- POWER_ON: every block takes its power-on values. -/
def execPowerOn (backup : Bool) (s : State) : Host.Outcome State Fault Refusal := .next (s.applyPower backup)

/-- Change a supply or RESET_N; both supplies absent means every piece of state is lost. -/
def State.setPower (s : State) (main backup resetAsserted : Bool) : State :=
  { s with pw := { s.pw with
      main := main, backup := backup, resetAsserted := resetAsserted, lost := s.pw.lost || (!main && !backup) } }

/-- The main supply is lost. -/
def execMainSupplyLost (s : State) : Host.Outcome State Fault Refusal :=
  .next (s.setPower false s.pw.backup s.pw.resetAsserted)

/-- The backup supply is lost. -/
def execBackupSupplyLost (s : State) : Host.Outcome State Fault Refusal :=
  .next (s.setPower s.pw.main false s.pw.resetAsserted)

/-- The main supply returns: a warm restart, or a power-on where both supplies had been lost; with RESET_N asserted the
restart comes at its release. -/
def execMainSupplyReturn (s : State) : Host.Outcome State Fault Refusal :=
  .next (if s.pw.lost then s.applyPower s.pw.backup
  else
    let q := s.setPower true s.pw.backup s.pw.resetAsserted
    if s.pw.resetAsserted then q else q.warmRestart)

/-- RESET_N is asserted: the controller takes no event. -/
def execResetNAsserted (s : State) : Host.Outcome State Fault Refusal :=
  .next (s.setPower s.pw.main s.pw.backup true)

/-- RESET_N is released: a warm restart, where the main supply is present. -/
def execResetNReleased (s : State) : Host.Outcome State Fault Refusal :=
  let q := s.setPower s.pw.main s.pw.backup false
  .next (if s.pw.main && !s.pw.lost then q.warmRestart else q)

end Sys2Proof.Machine
end

