-- ==== Sys2Proof/Machine/Reports.lean ====
section
/-! DEFINITION. What the garage and the cabinet report: zone reports (chapter 3) and panel messages (chapter 4). -/

namespace Sys2Proof.Machine

/-! ### Zone reports (R54 to R66) -/

/-- The bytes a zone report's check covers: the zone and the twelve occupancy bytes (11.5). -/
def reportCovered (zone : Nat) (occupied : BitVec 96) : List Byte := byteOf zone :: occupancyBytes occupied

/-- A heard report: its check holds and its zone is in the layout (R54). -/
def State.hears (s : State) (zone : Nat) (occupied : BitVec 96) (check : Nat) : Bool :=
  checkHolds (reportCovered zone occupied) check && zone < Config.zones && (s.zone zone).inLayout

/-- The zone becomes LIVE and its silence timer starts from zero; newly LIVE is a trigger for serving (R56, R57). -/
def State.hearZone (s : State) (zone : Nat) : State :=
  (s.setLink zone { link := .live, silence := some (Timer.start s.zl.silenceTime) }).serveIf
    ((s.link zone).link != .live)

/-- One more in a run, which saturates at 2. -/
def runUp (n : Nat) : Nat := if n < 2 then n + 1 else n

/-- A held stall reported vacant (R62): at the second vacant report the record's state decides. -/
def State.heldVacant (s : State) (zone index : Nat) (st : Stall) (t : Nat) : State :=
  let s := s.modStall zone index fun x => { x with sensed := .vacant, vacantRun := runUp x.vacantRun }
  if st.vacantRun = 1 then
    match (s.record? t).map Record.state with
    | some .fetching => s.releaseStall t
    | some .stored => s.stallEmpty t zone
    | some .called => s.stallEmpty t zone
    | _ => s
  else s

/-- A held stall reported occupied (R61). -/
def State.heldOccupied (s : State) (zone index : Nat) (t : Nat) : State :=
  (s.modStall zone index fun x => { x with sensed := .occupied, vacantRun := 0 }).parkConfirmed t

/-- An unheld stall reported vacant (R60, R66). -/
def State.freeVacant (s : State) (zone index : Nat) (st : Stall) : State :=
  (s.modStall zone index fun x => { x with sensed := .vacant, occupiedRun := 0, stray := false }).serveIf
    (st.stray || st.sensed != .vacant)

/-- An unheld stall reported occupied (R65). -/
def State.freeOccupied (s : State) (zone index : Nat) (st : Stall) : State :=
  let s := s.modStall zone index fun x => { x with sensed := .occupied, occupiedRun := runUp x.occupiedRun }
  if st.occupiedRun = 1 ∧ st.stray = false then
    (s.modStall zone index fun x => { x with stray := true }).raise .stallAnomaly (some zone)
  else s

/-- One stall of a report (R55). -/
def State.takeStall (zone : Nat) (occupied : BitVec 96) (s : State) (index : Nat) : State :=
  match s.stall? zone index with
  | none => s
  | some st =>
    match st.holder, occupied.getLsbD index with
    | some t, true => s.heldOccupied zone index t
    | some t, false => s.heldVacant zone index st t
    | none, true => s.freeOccupied zone index st
    | none, false => s.freeVacant zone index st

/-- A heard report: link and timer, then every stall in index order (R55). -/
def State.takeReport (s : State) (zone : Nat) (occupied : BitVec 96) : State :=
  (List.range (s.zone zone).stalls.length).foldl (State.takeStall zone occupied) (s.hearZone zone)

/-- A zone report (R54, R55): taken whole, with its serving pass, and then RECOVERY may end (R186). -/
def execZoneReport (zone : Nat) (occupied : BitVec 96) (check : Nat) (s : State) :
    Host.Outcome State Fault Refusal :=
  .next (if s.running && s.hears zone occupied check then
    ((s.begin.takeReport zone occupied).finish).heardInRecovery zone
  else s)

/-! ### Panel messages (R69, R71, R73, R74) -/

/-- The hook of a panel's position (R69). -/
def hookAt (panel position : Nat) : Nat := Config.hooksPerPanel * panel + position

/-- The hook is of a panel in the layout. -/
def State.hookThere (s : State) (panel position : Nat) : Bool :=
  position < Config.hooksPerPanel && (s.hook? (hookAt panel position)).isSome

/-- A key that does not belong on the hook hangs on it: KEY_MISHUNG (R73). -/
def State.mishung (s : State) (h tag : Nat) : State :=
  (s.updHook h fun k => { k with strayTag := some tag }).raise .keyMishung (some h)

/-- HOOK_LOADED at the hook (R73). -/
def State.loadHook (s : State) (h tag : Nat) : State :=
  match s.hook? h with
  | none => s
  | some k =>
    match k.strayTag, k.state with
    | some _, _ => s
    | none, .held => s
    | none, .opened => s
    | none, .free => s.mishung h tag
    | none, .await => if k.bound = some tag then (s.updHook h Hook.hung).keyHome tag else s.mishung h tag
    | none, .out => if k.bound = some tag then (s.updHook h Hook.hung).keyHome tag else s.mishung h tag

/-- HOOK_LOADED (R73); a tag above 999,999 holds no value and the message is dropped (R188). -/
def execHookLoaded (panel position tag : Nat) (s : State) : Host.Outcome State Fault Refusal :=
  event (fun s => s.hookThere panel position && tag ≤ Config.maxTicket)
    (fun s => s.loadHook (hookAt panel position) tag) s

/-- HOOK_EMPTIED at the hook (R74). -/
def State.emptyHook (s : State) (h : Nat) (latched : Bool) : State :=
  match s.hook? h with
  | none => s
  | some k =>
    match k.strayTag, k.state with
    | some _, _ => s.updHook h fun q => { q with strayTag := none }
    | none, .opened => if latched && !s.hookInService h then s.forceKey h k else s.takeKey h k
    | none, .held => if s.hookInService h then s.serviceKey h k else s.forceKey h k
    | none, _ => s

/-- HOOK_EMPTIED (R74). -/
def execHookEmptied (panel position latched : Nat) (s : State) : Host.Outcome State Fault Refusal :=
  event (fun s => s.hookThere panel position && (boolOf latched).isSome)
    (fun s => s.emptyHook (hookAt panel position) (latched == 1)) s

/-- LATCH_DONE at the hook (R71): the pending command is confirmed; a closed latch completes a lapse (R77) or ends a
window (R80). -/
def State.confirmLatch (s : State) (h : Nat) (p : Latch) : State :=
  match s.hook? h with
  | none => s
  | some k =>
    if k.latch = some p then
      let s := s.updHook h fun q => { q with latch := none, repeatTimer := none }
      if p = .closed ∧ k.state = .opened then
        match k.phase with
        | .closing => s.completeLapse h k
        | .ending => s.updHook h Hook.windowEnded
        | _ => s
      else s
    else s

/-- LATCH_DONE (R71). -/
def execLatchDone (panel position latch : Nat) (s : State) : Host.Outcome State Fault Refusal :=
  event (fun s => s.hookThere panel position && (boolOf latch).isSome)
    (fun s => s.confirmLatch (hookAt panel position) (if latch = 1 then .closed else .opened)) s

/-- A cabinet message that fails its check, is of another kind, or names no panel of the layout has no effect (R69). -/
def execCabinetMessageDropped (_bytes : List Byte) (s : State) : Host.Outcome State Fault Refusal := dropped s

end Sys2Proof.Machine
end

