-- ==== Sys2Proof/Machine/Timers.lean ====
section
/-! DEFINITION. The elapsed second and the expiries of the duration timers (R180): an expiry acts when its timer runs and
has reached its length, and changes nothing when it does not. -/

namespace Sys2Proof.Machine

/-! ### Zones and hooks -/

/-- A zone falls silent (R58). -/
def State.silence (s : State) (zone : Nat) : State :=
  ((s.setLink zone { link := .silent, silence := none }).raise .zoneSilent (some zone)).modZone zone fun z =>
    { z with stalls := z.stalls.map Stall.resetRuns }

/-- Silence timer expiry (R58). -/
def execSilenceTimerExpiry (zone : Nat) (s : State) : Host.Outcome State Fault Refusal :=
  event (fun s => (s.link zone).link == .live && timerDue (s.link zone).silence) (fun s => s.silence zone) s

/-- A condition on the entry of a hook of the layout. -/
def State.onHook (s : State) (h : Nat) (p : Hook → Bool) : Bool := (s.hook? h).any p

/-- The pending command is sent again (R71). -/
def State.resendLatch (s : State) (h : Nat) : State :=
  match (s.hook? h).bind Hook.latch with
  | none => s
  | some p => s.sendLatch h p

/-- Latch repeat (R71). -/
def execLatchRepeat (hook : Nat) (s : State) : Host.Outcome State Fault Refusal :=
  event (fun s => s.onHook hook fun k => k.latch.isSome && timerDue k.repeatTimer) (fun s => s.resendLatch hook) s

/-- A window timer expires at the hook (R77). -/
def State.expireWindow (s : State) (h : Nat) : State :=
  match s.hook? h with
  | none => s
  | some k =>
    match k.state with
    | .opened =>
      if s.hookInService h then s.completeLapse h k
      else s.updHook h fun q => { q with window := none, phase := .closing }
    | .held => s.completeLapse h k
    | _ => s.updHook h fun q => { q with window := none }

/-- Window timer expiry (R77). -/
def execWindowTimerExpiry (hook : Nat) (s : State) : Host.Outcome State Fault Refusal :=
  event (fun s => s.onHook hook fun k => timerDue k.window) (fun s => s.expireWindow hook) s

/-- The warning point of a custody limit: three quarters, rounded down (R84). -/
def warningPoint (limit : Nat) : Nat := limit * 3 / 4

/-- The custody timer has reached its warning point. -/
def Hook.warningDue (k : Hook) : Bool := !k.warned && k.custody.any fun t => warningPoint t.length ≤ t.elapsed

/-- The warning at the hook (R84, R154): WARNED, the cause, and the message to the attendant the hook names. -/
def State.warnKey (s : State) (h : Nat) : State :=
  match s.hook? h with
  | none => s
  | some k =>
    let s := s.updHook h fun q => { q with warned := true }
    match k.bound with
    | none => s
    | some t =>
      let s := s.raise .keyWarning (some t)
      match k.attendant, k.custody with
      | some a, some c =>
        s.sendTo a 0x85 [.ticket t, .half h, .word (BitVec.ofNat 32 (c.length - warningPoint c.length))]
      | _, _ => s

/-- A custody timer reaches its warning point (R84). -/
def execKeyWarningPoint (hook : Nat) (s : State) : Host.Outcome State Fault Refusal :=
  event (fun s => s.onHook hook Hook.warningDue) (fun s => s.warnKey hook) s

/-- The limit at the hook (R84): OVERDUE, KEY_OVERDUE on the record, the cause. -/
def State.overdueKey (s : State) (h : Nat) : State :=
  match s.hook? h with
  | none => s
  | some k =>
    let s := s.updHook h fun q => { q with overdue := true }
    match k.bound with
    | none => s
    | some t =>
      (s.modRecord t fun r => { r with flags := { r.flags with keyOverdue := true } }).raise .keyOverdue (some t)

/-- A custody timer reaches its limit (R84). -/
def execCustodyLimitReached (hook : Nat) (s : State) : Host.Outcome State Fault Refusal :=
  event (fun s => s.onHook hook fun k => !k.overdue && timerDue k.custody) (fun s => s.overdueKey hook) s

/-! ### Records, attendants, bays -/

/-- The park timer runs, has reached its limit, and has not done so before (R6). -/
def Record.parkDue (r : Record) : Bool := r.park.any fun p => !p.reached && p.length ≤ p.elapsed

/-- The park limit at the record (R6). -/
def State.lateInbound (s : State) (t : Nat) : State :=
  (s.modRecord t fun r =>
    { r with
      park := r.park.map fun p => { p with reached := true }
      flags := { r.flags with inboundLate := true } }).raise .inboundLate (some t)

/-- A park timer reaches the park limit (R6). -/
def execParkLimitReached (ticket : Nat) (s : State) : Host.Outcome State Fault Refusal :=
  event (fun s => (s.record? ticket).any Record.parkDue) (fun s => s.lateInbound ticket) s

/-- An acknowledge timer expires (R102, R121): the entry is QUEUED, the attendant AWAY, ACK_TIMEOUT raised. -/
def State.ackTimeout (s : State) (a : Nat) : State :=
  let s :=
    match s.entryOf a with
    | none => s
    | some e => s.requeue e.ticket
  (s.leaveIdle a .away).raise .ackTimeout (some a)

/-- Acknowledge timer expiry (R120, R121). -/
def execAckTimerExpiry (attendant : Nat) (s : State) : Host.Outcome State Fault Refusal :=
  event (fun s => (s.attendant attendant).state == .offered && timerDue (s.attendant attendant).ack)
    (fun s => s.ackTimeout attendant) s

/-- A dwell timer expires (R140): DWELL_EXPIRED on the record, the cause, and the timer stops. -/
def State.expireDwell (s : State) (b : Nat) : State :=
  let q := s.modBay b fun x => { x with dwell := none }
  match (s.bay b).holder with
  | none => q
  | some t =>
    (q.modRecord t fun r => { r with flags := { r.flags with dwellExpired := true } }).raise .dwellExpired (some t)

/-- Dwell timer expiry (R140). -/
def execDwellTimerExpiry (bay : Nat) (s : State) : Host.Outcome State Fault Refusal :=
  event (fun s => timerDue (s.bay bay).dwell) (fun s => s.expireDwell bay) s

/-- A drive-off timer reaches 20 s (R141, R17): the cause is raised and a STAGED holder is retired. -/
def State.driveOff (s : State) (b : Nat) : State :=
  let q := s.modBay b fun x => { x with driveOff := none }
  match (s.bay b).holder with
  | none => q
  | some t =>
    let q := q.raise .driveOff (some t)
    if (q.record? t).any fun r => r.state == .staged then q.retireRecord t else q

/-- Drive-off timer expiry (R141). -/
def execDriveOffTimerExpiry (bay : Nat) (s : State) : Host.Outcome State Fault Refusal :=
  event (fun s => timerDue (s.bay bay).driveOff) (fun s => s.driveOff bay) s

/-- Recovery timer expiry (R186). -/
def execRecoveryTimerExpiry (s : State) : Host.Outcome State Fault Refusal :=
  event (fun s => s.sa.recovery.any fun rc => timerDue (some rc.timer)) State.endRecovery s

/-! ### The elapsed second (R179, R180) -/

/-- A hook's timers count a second. -/
def Hook.tick (k : Hook) : Hook :=
  { k with
    repeatTimer := k.repeatTimer.map Timer.tick, window := k.window.map Timer.tick, custody := k.custody.map Timer.tick }

/-- Every timer of the controller counts a second. -/
def State.tickTimers (s : State) : State :=
  { s with
    ct := { s.ct with records := s.ct.records.map fun r =>
      { r with park := r.park.map fun p => { p with elapsed := p.elapsed + 1 } } }
    zl := { s.zl with links := s.zl.links.map fun l => { l with silence := l.silence.map Timer.tick } }
    kc := { s.kc with panels := s.kc.panels.map fun p => { p with hooks := p.hooks.map Hook.tick } }
    dr := { s.dr with attendants := s.dr.attendants.map fun a => { a with ack := a.ack.map Timer.tick } }
    km := { s.km with bays := s.km.bays.map fun b =>
      { b with dwell := b.dwell.map Timer.tick, driveOff := b.driveOff.map Timer.tick } }
    sa := { s.sa with recovery := s.sa.recovery.map fun rc => { rc with timer := rc.timer.tick } } }

/-- The elapsed count and the service clock advance by one, and every timer counts; the clock's advance is a readiness event
(R107, R179, R180). -/
def State.tickSecond (s : State) : State :=
  let q := s.tickTimers
  ({ q with sa := { q.sa with elapsed := q.sa.elapsed + 1, clock := q.sa.clock + 1 } }).lookDue

/-- A second of the crystal. While the controller takes no event the service clock alone counts on, unless both supplies
are lost (R183). -/
def execElapsedSecond (s : State) : Host.Outcome State Fault Refusal :=
  .next (if s.running then (s.begin.tickSecond).finish
  else if s.pw.lost then s
  else { s with sa := { s.sa with clock := s.sa.clock + 1 } })

end Sys2Proof.Machine
end

