-- ==== Sys2Proof/Machine/Dispatch.lean ====
section
/-! DEFINITION. The dispatch: each command's effect, one arm a command. -/

namespace Sys2Proof.Machine

/-- The effect of a command on everything but the queue. -/
def exec (i : Instr) (s : State) : Host.Outcome State Fault Refusal :=
  match i with
  | .accept port grade need tier plate folio lane => Sys2Proof.Machine.execAccept port grade need tier plate folio lane s
  | .handover port ticket expected => Sys2Proof.Machine.execHandover port ticket expected s
  | .hold req ticket expected => Sys2Proof.Machine.execHold req ticket expected s
  | .resolveStored req ticket expected => Sys2Proof.Machine.execResolveStored req ticket expected s
  | .resolveMoveTo req ticket zone index expected => Sys2Proof.Machine.execResolveMoveTo req ticket zone index expected s
  | .resolveWaiting req ticket expected => Sys2Proof.Machine.execResolveWaiting req ticket expected s
  | .retire req ticket expected => Sys2Proof.Machine.execRetire req ticket expected s
  | .getRecord req ticket expected => Sys2Proof.Machine.execGetRecord req ticket expected s
  | .amend req ticket plate folio expected => Sys2Proof.Machine.execAmend req ticket plate folio expected s
  | .findPlate req plate start => Sys2Proof.Machine.execFindPlate req plate start s
  | .findFolio req folio start => Sys2Proof.Machine.execFindFolio req folio start s
  | .list req start filter => Sys2Proof.Machine.execList req start filter s
  | .setParkLimit req limit => Sys2Proof.Machine.execSetParkLimit req limit s
  | .enableStall req zone index => Sys2Proof.Machine.execEnableStall req zone index s
  | .disableStall req zone index => Sys2Proof.Machine.execDisableStall req zone index s
  | .openZone req zone => Sys2Proof.Machine.execOpenZone req zone s
  | .closeZone req zone => Sys2Proof.Machine.execCloseZone req zone s
  | .setZoneFlags req zone night spill => Sys2Proof.Machine.execSetZoneFlags req zone night spill s
  | .setPreference req tier count zones => Sys2Proof.Machine.execSetPreference req tier count zones s
  | .setPair req zone => Sys2Proof.Machine.execSetPair req zone s
  | .unpair req zone => Sys2Proof.Machine.execUnpair req zone s
  | .setSlot req slot grade => Sys2Proof.Machine.execSetSlot req slot grade s
  | .setStallSlot req zone index slot => Sys2Proof.Machine.execSetStallSlot req zone index slot s
  | .readZone req zone => Sys2Proof.Machine.execReadZone req zone s
  | .readStall req zone index => Sys2Proof.Machine.execReadStall req zone index s
  | .readWaitList req => Sys2Proof.Machine.execReadWaitList req s
  | .setSilenceTime req seconds => Sys2Proof.Machine.execSetSilenceTime req seconds s
  | .setWithdrawal req zone on => Sys2Proof.Machine.execSetWithdrawal req zone on s
  | .setWindowTime req seconds => Sys2Proof.Machine.execSetWindowTime req seconds s
  | .setCustodyLimit req seconds => Sys2Proof.Machine.execSetCustodyLimit req seconds s
  | .beginPanelService req panel => Sys2Proof.Machine.execBeginPanelService req panel s
  | .endPanelService req panel => Sys2Proof.Machine.execEndPanelService req panel s
  | .readHook req hook => Sys2Proof.Machine.execReadHook req hook s
  | .call port ticket tier due expected => Sys2Proof.Machine.execCall port ticket tier due expected s
  | .cancelCall port ticket expected => Sys2Proof.Machine.execCancelCall port ticket expected s
  | .setLeadTime req zone seconds => Sys2Proof.Machine.execSetLeadTime req zone seconds s
  | .readLeadTimes req => Sys2Proof.Machine.execReadLeadTimes req s
  | .readQueue req start => Sys2Proof.Machine.execReadQueue req start s
  | .setAckTime req seconds => Sys2Proof.Machine.execSetAckTime req seconds s
  | .readRoster req => Sys2Proof.Machine.execReadRoster req s
  | .enableBay req bay => Sys2Proof.Machine.execEnableBay req bay s
  | .disableBay req bay => Sys2Proof.Machine.execDisableBay req bay s
  | .setBayFlags req bay night => Sys2Proof.Machine.execSetBayFlags req bay night s
  | .setDwellTime req seconds => Sys2Proof.Machine.execSetDwellTime req seconds s
  | .clearLane req lane => Sys2Proof.Machine.execClearLane req lane s
  | .readKerb req => Sys2Proof.Machine.execReadKerb req s
  | .captureSite req site0 site1 => Sys2Proof.Machine.execCaptureSite req site0 site1 s
  | .readStatus req => Sys2Proof.Machine.execReadStatus req s
  | .readAttention req => Sys2Proof.Machine.execReadAttention req s
  | .clearAttention req causes => Sys2Proof.Machine.execClearAttention req causes s
  | .setAttentionEnables req enables master => Sys2Proof.Machine.execSetAttentionEnables req enables master s
  | .defineZone req zone count => Sys2Proof.Machine.execDefineZone req zone count s
  | .defineFixedStall req zone index attr grade => Sys2Proof.Machine.execDefineFixedStall req zone index attr grade s
  | .definePanel req panel => Sys2Proof.Machine.execDefinePanel req panel s
  | .defineBays req bays => Sys2Proof.Machine.execDefineBays req bays s
  | .freezeLayout req => Sys2Proof.Machine.execFreezeLayout req s
  | .setServiceState req state => Sys2Proof.Machine.execSetServiceState req state s
  | .clearSite req confirm => Sys2Proof.Machine.execClearSite req confirm s
  | .setClock req value => Sys2Proof.Machine.execSetClock req value s
  | .setChainMask req zones => Sys2Proof.Machine.execSetChainMask req zones s
  | .restart req confirm => Sys2Proof.Machine.execRestart req confirm s
  | .deskBadFrame bytes => Sys2Proof.Machine.execDeskBadFrame bytes s
  | .deskUnknownCommand req code => Sys2Proof.Machine.execDeskUnknownCommand req code s
  | .deskIgnoredTransaction bytes => Sys2Proof.Machine.execDeskIgnoredTransaction bytes s
  | .signOn h roster => Sys2Proof.Machine.execSignOn h roster s
  | .signOff h => Sys2Proof.Machine.execSignOff h s
  | .takeBreak h => Sys2Proof.Machine.execTakeBreak h s
  | .ready h => Sys2Proof.Machine.execReady h s
  | .parked h ticket => Sys2Proof.Machine.execParked h ticket s
  | .ack h ticket => Sys2Proof.Machine.execAck h ticket s
  | .decline h ticket => Sys2Proof.Machine.execDecline h ticket s
  | .abandon h ticket => Sys2Proof.Machine.execAbandon h ticket s
  | .keyAgain h ticket => Sys2Proof.Machine.execKeyAgain h ticket s
  | .staged h ticket bay => Sys2Proof.Machine.execStaged h ticket bay s
  | .repark h ticket => Sys2Proof.Machine.execRepark h ticket s
  | .handsetFrameDropped bytes => Sys2Proof.Machine.execHandsetFrameDropped bytes s
  | .handsetUnknownKind h kind => Sys2Proof.Machine.execHandsetUnknownKind h kind s
  | .handsetFrameSent => Sys2Proof.Machine.execHandsetFrameSent s
  | .zoneReport zone occupied check => Sys2Proof.Machine.execZoneReport zone occupied check s
  | .silenceTimerExpiry zone => Sys2Proof.Machine.execSilenceTimerExpiry zone s
  | .hookLoaded panel position tag => Sys2Proof.Machine.execHookLoaded panel position tag s
  | .hookEmptied panel position latched => Sys2Proof.Machine.execHookEmptied panel position latched s
  | .latchDone panel position latch => Sys2Proof.Machine.execLatchDone panel position latch s
  | .cabinetMessageDropped bytes => Sys2Proof.Machine.execCabinetMessageDropped bytes s
  | .latchRepeat hook => Sys2Proof.Machine.execLatchRepeat hook s
  | .windowTimerExpiry hook => Sys2Proof.Machine.execWindowTimerExpiry hook s
  | .keyWarningPoint hook => Sys2Proof.Machine.execKeyWarningPoint hook s
  | .custodyLimitReached hook => Sys2Proof.Machine.execCustodyLimitReached hook s
  | .parkLimitReached ticket => Sys2Proof.Machine.execParkLimitReached ticket s
  | .ackTimerExpiry attendant => Sys2Proof.Machine.execAckTimerExpiry attendant s
  | .dwellTimerExpiry bay => Sys2Proof.Machine.execDwellTimerExpiry bay s
  | .driveOffTimerExpiry bay => Sys2Proof.Machine.execDriveOffTimerExpiry bay s
  | .recoveryTimerExpiry => Sys2Proof.Machine.execRecoveryTimerExpiry s
  | .elapsedSecond => Sys2Proof.Machine.execElapsedSecond s
  | .laneLoopChange lane level => Sys2Proof.Machine.execLaneLoopChange lane level s
  | .bayLoopChange bay level => Sys2Proof.Machine.execBayLoopChange bay level s
  | .chainLoad => Sys2Proof.Machine.execChainLoad s
  | .powerOn backup => Sys2Proof.Machine.execPowerOn backup s
  | .mainSupplyLost => Sys2Proof.Machine.execMainSupplyLost s
  | .mainSupplyReturn => Sys2Proof.Machine.execMainSupplyReturn s
  | .resetNAsserted => Sys2Proof.Machine.execResetNAsserted s
  | .resetNReleased => Sys2Proof.Machine.execResetNReleased s
  | .backupSupplyLost => Sys2Proof.Machine.execBackupSupplyLost s
  | .chainClkRisingEdge chainIn => Sys2Proof.Machine.execChainClkRisingEdge chainIn s

end Sys2Proof.Machine
end

