-- ==== Sys2Proof/Safety.lean ====
section
/-! DEFINITION. What stays true of the controller in every state a run can reach, and the words the statements are written
in: the settings of a state, the header of a command, and what it is for a command to be answered. The statements are in
Certificates/Slice0/Obligations.lean. -/

namespace Sys2Proof.Safety

open Sys2Proof.Machine

/-! ### Invariants -/

/-- The transmit buffer holds at most 64 frames (R155) and each lane FIFO at most four times (R130). -/
def BuffersBounded (s : State) : Prop :=
  s.lk.tx.length ≤ 64 ∧ ∀ l ∈ s.km.lanes, l.fifo.length ≤ 4

/-- The wait list holds at most 24 records (R49). -/
def WaitListBounded (s : State) : Prop := s.sm.waitList.length ≤ 24

/-- The first cause is empty or names a cause whose latch is set (R163). -/
def FirstCauseLatched (sa : Service) : Prop := ∀ c, sa.first = some c → (sa.cell c).latch = true

/-- A first subject is present only while its latch is set (R161). -/
def SubjectsLatched (sa : Service) : Prop := ∀ k ∈ sa.causes, k.latch = false → k.subject = none

/-- The attention unit holds fourteen causes and shows nothing that is not latched. -/
def AttentionSound (s : State) : Prop :=
  s.sa.causes.length = 14 ∧ FirstCauseLatched s.sa ∧ SubjectsLatched s.sa

/-- While the service state is COMMISSIONING the custody table holds no live record (R171). -/
def CommissioningEmpty (s : State) : Prop := s.sa.state = .commissioning → s.ct.records = []

/-- Live records stand in distinct slots 0 to 1023, in slot order, and no two carry the same ticket (R1). -/
def TableSound (s : State) : Prop :=
  s.ct.records.Pairwise (fun r q => r.slot < q.slot) ∧ (∀ r ∈ s.ct.records, r.slot < 1024) ∧
    s.ct.records.Pairwise (fun r q => r.ticket ≠ q.ticket)

/-- The idle list holds every IDLE attendant once and no other (R113), and every attendant that a record, an entry or a hook
names is on the roster (R111). -/
def IdleListExact (s : State) : Prop :=
  s.dr.attendants.length = 32 ∧ s.dr.idle.Nodup ∧ (∀ a, a ∈ s.dr.idle ↔ (s.attendant a).state = .idle) ∧
    (∀ r ∈ s.ct.records, ∀ a, r.attendant = some a → a < 32) ∧
    (∀ e ∈ s.jq.entries, ∀ a, e.attendant = some a → a < 32) ∧
    ∀ k ∈ s.allHooks, ∀ a, k.attendant = some a → a < 32

/-- The wait list holds every WAITING record once and nothing else, and no WAITING or STAGED record names a stall (R49, R4). -/
def WaitListExact (s : State) : Prop :=
  s.sm.waitList.Nodup ∧ (∀ t, t ∈ s.sm.waitList ↔ ∃ r, s.record? t = some r ∧ r.state = .waiting) ∧
    ∀ r ∈ s.ct.records, r.state = .waiting ∨ r.state = .staged → r.stall = none

/-- A record names a stall exactly when that stall names the record as its holder, and no held stall is stray (R33, R66). -/
def StallsAgree (s : State) : Prop :=
  (∀ r ∈ s.ct.records, ∀ st, r.stall = some st → (s.stall? st.zone st.index).map Stall.holder = some (some r.ticket)) ∧
    ∀ z i x t, s.stall? z i = some x → x.holder = some t →
      x.stray = false ∧ ∃ r, s.record? t = some r ∧ r.stall = some ⟨z, i⟩

/-- Every live record is bound to the hook it names and every bound hook to a live record that names it; a hook is FREE exactly
when nothing is bound to it; a panel has 256 hooks at most, and none outside the layout (R69, R70, R72). -/
def HooksAgree (s : State) : Prop :=
  (∀ r ∈ s.ct.records, (s.hook? r.hook).map Hook.bound = some (some r.ticket)) ∧
    (∀ h k t, s.hook? h = some k → k.bound = some t → ∃ r, s.record? t = some r ∧ r.hook = h) ∧
    (∀ h k, s.hook? h = some k → (k.state = .free ↔ k.bound = none)) ∧
    ∀ p ∈ s.kc.panels, p.hooks.length ≤ 256 ∧ (p.inLayout = false → p.hooks = [])

/-- The record of an entry, by the entry's kind and status (R12, R14, R93, R99, R100). -/
def entrySuits (e : Entry) (r : Record) : Prop :=
  r.slot = e.slot ∧
    match e.kind, e.status with
    | .fetch, .queued => (r.state = .called ∨ r.state = .inbound) ∧ r.call ≠ none
    | .fetch, .offered => r.state = .called ∧ r.call ≠ none
    | .fetch, .taken => r.state = .fetching ∧ r.call ≠ none
    | .move, .taken => r.state = .inbound
    | .move, _ => r.state = .granted

/-- The state of the attendant that an OFFERED or TAKEN entry names (R112, R121). -/
def workOf (e : Entry) : AttendantState :=
  match e.status, e.kind with
  | .taken, .fetch => .fetching
  | .taken, .move => .moving
  | _, _ => .offered

/-- What a live record owes the queue and the roster: its entry, a call field in CALLED, FETCHING and INBOUND alone, and an
attendant, where it names one, at work on it (R3, R14, R92, R100, R122). -/
def recordSuits (s : State) (r : Record) : Prop :=
  (r.state = .called ∨ r.state = .fetching ∨ (r.state = .inbound ∧ r.call ≠ none) → s.hasEntry r.ticket .fetch = true) ∧
    (r.state = .granted → s.hasEntry r.ticket .move = true) ∧
    (r.call ≠ none → r.state = .called ∨ r.state = .fetching ∨ r.state = .inbound) ∧
    ∀ a, r.attendant = some a → r.state ≠ .suspended →
      (∃ e, s.entry? r.ticket = some e ∧ e.status = .taken ∧ e.attendant = some a) ∨
        (r.state = .inbound ∧ s.hasEntry r.ticket .move = false ∧ (s.attendant a).state = .parking)

/-- The job queue holds at most 64 entries, one for each record that owes one and none for another; an entry is QUEUED exactly
when it names no attendant; and no attendant works on two entries or on two records (R92, R93, R112). -/
def JobsAgree (s : State) : Prop :=
  s.jq.entries.length ≤ 64 ∧ s.jq.entries.Pairwise (fun e g => e.ticket ≠ g.ticket) ∧
    (∀ e ∈ s.jq.entries, (∃ r, s.record? e.ticket = some r ∧ entrySuits e r) ∧
      (e.status = .queued ↔ e.attendant = none) ∧ ∀ a, e.attendant = some a → (s.attendant a).state = workOf e) ∧
    (∀ r ∈ s.ct.records, recordSuits s r) ∧
    s.jq.entries.Pairwise (fun e g => ∀ a, e.attendant = some a → g.attendant ≠ some a) ∧
    s.ct.records.Pairwise fun r q => r.state ≠ .suspended → q.state ≠ .suspended →
      ∀ a, r.attendant = some a → q.attendant ≠ some a

/-- No entry stands behind one that it is ordered before (R94). -/
def QueueOrdered (s : State) : Prop := s.jq.entries.Pairwise fun e g => g.before e = false

/-! ### Settings -/

/-- A stall without what reports and holders change. -/
def stallSettings (st : Stall) : Stall :=
  { st with sensed := .unknown, vacantRun := 0, occupiedRun := 0, holder := none, stray := false }

/-- A zone without what reports and holders change. -/
def zoneSettings (z : Zone) : Zone := { z with stalls := z.stalls.map stallSettings }

/-- A panel without its hooks' entries. -/
def panelSettings (p : Panel) : Panel := { p with hooks := p.hooks.map fun _ => Hook.created }

/-- A bay without its loop, its holder and its timers. -/
def baySettings (b : Bay) : Bay := { b with loop := false, holder := none, dwell := none, driveOff := none }

/-- A cause without its latch. -/
def causeSettings (k : CauseCell) : CauseCell := { k with latch := false, subject := none }

/-- The state with every moving part put aside: records, holders, sensed occupancy, links, hooks, entries, attendants, loops,
timers, latches, frames to handsets. What is left is the layout, every setting, the service state, both clocks, the site
identity, the chain registers, the LIST cursor, the response slot, the supplies and pins, and the waiting commands. -/
def settings (s : State) : State :=
  { ct := { s.ct with records := [], counter := 0 }
    sm := { s.sm with zones := s.sm.zones.map zoneSettings, waitList := [] }
    zl := { s.zl with links := [] }
    kc := { s.kc with panels := s.kc.panels.map panelSettings, sent := [] }
    jq := { s.jq with entries := [] }
    dr := { s.dr with attendants := [], idle := [] }
    km := { s.km with lanes := [], bays := s.km.bays.map baySettings }
    lk := { s.lk with tx := [] }
    sa := { s.sa with causes := s.sa.causes.map causeSettings, first := none }
    pw := s.pw, due := .clear, pending := s.pending }

/-! ### Commands and answers -/

/-- A handset message's header and its kind (11.2). -/
def handsetHeader : Instr → Option (Handset × Nat)
  | .signOn h _ => some (h, 1)
  | .signOff h => some (h, 2)
  | .takeBreak h => some (h, 3)
  | .ready h => some (h, 4)
  | .accept (.handset h) _ _ _ _ _ _ => some (h, 5)
  | .parked h _ => some (h, 6)
  | .call (.handset h) _ _ _ _ => some (h, 7)
  | .cancelCall (.handset h) _ _ => some (h, 8)
  | .ack h _ => some (h, 9)
  | .decline h _ => some (h, 10)
  | .abandon h _ => some (h, 11)
  | .keyAgain h _ => some (h, 12)
  | .staged h _ _ => some (h, 13)
  | .handover (.handset h) _ _ => some (h, 14)
  | .repark h _ => some (h, 15)
  | _ => none

/-- A desk command's request number and its code (11.2). -/
def deskHeader : Instr → Option (Nat × Nat)
  | .accept (.desk q) _ _ _ _ _ _ => some (q, 0x10)
  | .handover (.desk q) _ _ => some (q, 0x11)
  | .hold q _ _ => some (q, 0x12)
  | .resolveStored q _ _ => some (q, 0x13)
  | .resolveMoveTo q _ _ _ _ => some (q, 0x14)
  | .resolveWaiting q _ _ => some (q, 0x15)
  | .retire q _ _ => some (q, 0x16)
  | .getRecord q _ _ => some (q, 0x17)
  | .amend q _ _ _ _ => some (q, 0x18)
  | .findPlate q _ _ => some (q, 0x19)
  | .findFolio q _ _ => some (q, 0x1A)
  | .list q _ _ => some (q, 0x1B)
  | .setParkLimit q _ => some (q, 0x1C)
  | .enableStall q _ _ => some (q, 0x20)
  | .disableStall q _ _ => some (q, 0x21)
  | .openZone q _ => some (q, 0x22)
  | .closeZone q _ => some (q, 0x23)
  | .setZoneFlags q _ _ _ => some (q, 0x24)
  | .setPreference q _ _ _ => some (q, 0x25)
  | .setPair q _ => some (q, 0x26)
  | .unpair q _ => some (q, 0x27)
  | .setSlot q _ _ => some (q, 0x28)
  | .setStallSlot q _ _ _ => some (q, 0x29)
  | .readZone q _ => some (q, 0x2A)
  | .readStall q _ _ => some (q, 0x2B)
  | .readWaitList q => some (q, 0x2C)
  | .setSilenceTime q _ => some (q, 0x30)
  | .setWithdrawal q _ _ => some (q, 0x31)
  | .setWindowTime q _ => some (q, 0x38)
  | .setCustodyLimit q _ => some (q, 0x39)
  | .beginPanelService q _ => some (q, 0x3A)
  | .endPanelService q _ => some (q, 0x3B)
  | .readHook q _ => some (q, 0x3C)
  | .call (.desk q) _ _ _ _ => some (q, 0x40)
  | .cancelCall (.desk q) _ _ => some (q, 0x41)
  | .setLeadTime q _ _ => some (q, 0x42)
  | .readLeadTimes q => some (q, 0x43)
  | .readQueue q _ => some (q, 0x44)
  | .setAckTime q _ => some (q, 0x48)
  | .readRoster q => some (q, 0x49)
  | .enableBay q _ => some (q, 0x50)
  | .disableBay q _ => some (q, 0x51)
  | .setBayFlags q _ _ => some (q, 0x52)
  | .setDwellTime q _ => some (q, 0x53)
  | .clearLane q _ => some (q, 0x54)
  | .readKerb q => some (q, 0x55)
  | .captureSite q _ _ => some (q, 0x60)
  | .readStatus q => some (q, 0x61)
  | .readAttention q => some (q, 0x62)
  | .clearAttention q _ => some (q, 0x63)
  | .setAttentionEnables q _ _ => some (q, 0x64)
  | .defineZone q _ _ => some (q, 0x70)
  | .defineFixedStall q _ _ _ _ => some (q, 0x71)
  | .definePanel q _ => some (q, 0x72)
  | .defineBays q _ => some (q, 0x73)
  | .freezeLayout q => some (q, 0x74)
  | .setServiceState q _ => some (q, 0x75)
  | .clearSite q _ => some (q, 0x76)
  | .setClock q _ => some (q, 0x77)
  | .setChainMask q _ => some (q, 0x78)
  | .restart q _ => some (q, 0x79)
  | _ => none

/-- The desk command `c` is taken on `s`: its own changes make `q`, the event ends with the serving pass and the look that
fell due, and the response slot holds the answer with the returned fields. -/
def DeskAnswers (c : Instr) (s q : State) (a : Answer) (fields : List Value) : Prop :=
  ∃ h, deskHeader c = some h ∧ exec c s = .next (q.finish.respond (some h) a fields)

/-- The desk command `c` is answered and changes nothing beyond the response slot. -/
def DeskReports (c : Instr) (s : State) (a : Answer) (fields : List Value) : Prop :=
  ∃ h, deskHeader c = some h ∧ exec c s = .next (s.begin.respond (some h) a fields)

/-- The desk command `c` leaves `q` and is answered, with neither a serving pass nor a look. -/
def DeskLeaves (c : Instr) (s q : State) (a : Answer) (fields : List Value) : Prop :=
  ∃ h, deskHeader c = some h ∧ exec c s = .next (q.respond (some h) a fields)

/-- The handset message `c` is taken on `s`: its RESULT joins the transmit buffer, then `f` makes its own changes, then the
event ends. -/
def HandsetAnswers (c : Instr) (s : State) (a : Answer) (ticket : Option Nat) (fields : List Value)
    (f : State → State) : Prop :=
  ∃ h k, handsetHeader c = some (h, k) ∧ exec c s = .next ((f (s.begin.sendResult h k a ticket fields)).finish)

/-- The event `c` is taken on `s`: `q` after its own changes, then the event ends. -/
def EventLeaves (c : Instr) (s q : State) : Prop := exec c s = .next q.finish

/-- The port takes the frame and names the attendant its handset is bound to as the sender, whatever the site field holds
(R147, R148). -/
def SentBy (s : State) (h : Handset) (a : Nat) : Prop :=
  s.running = true ∧ s.siteAdmits h = true ∧ s.boundTo? h.identity = some a

/-- The attendant the handset is bound to takes part: the port names it as the sender, and the site field holds a value. -/
def HeardFrom (s : State) (h : Handset) (a : Nat) : Prop :=
  s.running = true ∧ s.siteAdmits h = true ∧ h.site ≤ 3 ∧ s.boundTo? h.identity = some a

/-- The message of that attendant names a live record. -/
def HandsetNames (s : State) (h : Handset) (a t : Nat) (r : Record) : Prop :=
  HeardFrom s h a ∧ 1 ≤ t ∧ t ≤ 999999 ∧ s.record? t = some r

/-- The sender of a message about a record is the acting attendant, or the record has none (R127). -/
def MayAct (s : State) (a : Nat) (r : Record) : Prop := s.acting r = none ∨ s.acting r = some a

/-- A desk command names a live record and expects no state or the state it has (R26). -/
def DeskNames (s : State) (t expected : Nat) (r : Record) : Prop :=
  s.running = true ∧ 1 ≤ t ∧ t ≤ 999999 ∧ s.record? t = some r ∧ (expected = 255 ∨ expected = r.state.code)

/-- The ticket and the expected state of a desk command that names one record, and whether its other fields hold values
(R26). -/
def namedRecord : Instr → Option (Nat × Nat × Bool)
  | .handover (.desk _) t e => some (t, e, true)
  | .hold _ t e => some (t, e, true)
  | .resolveStored _ t e => some (t, e, true)
  | .resolveMoveTo _ t zone index e => some (t, e, zone < 12 && index < 96)
  | .resolveWaiting _ t e => some (t, e, true)
  | .retire _ t e => some (t, e, true)
  | .getRecord _ t e => some (t, e, true)
  | .amend _ t plate folio e =>
      some (t, e, plate.all (fun p => (plateOf p).isSome) && folio.all (fun w => (folioOf w).isSome))
  | .call (.desk _) t tier due e => some (t, e, (tier ≤ 3 || tier == 255) && (dueOf due).isSome)
  | .cancelCall (.desk _) t e => some (t, e, true)
  | _ => none

/-- The handset messages that name a ticket: the header, the ticket, whether the other fields hold values, and the fields of the
RESULT written as absent at a refusal (R127, 11.4). -/
def namedByHandset : Instr → Option (Handset × Nat × Bool × List Value)
  | .parked h t => some (h, t, true, [])
  | .call (.handset h) t tier due _ => some (h, t, (tier ≤ 3 || tier == 255) && (dueOf due).isSome, [])
  | .cancelCall (.handset h) t _ => some (h, t, true, [])
  | .ack h t => some (h, t, true, [])
  | .decline h t => some (h, t, true, [])
  | .abandon h t => some (h, t, true, [])
  | .keyAgain h t => some (h, t, true, [])
  | .staged h t bay => some (h, t, bay < 8, [])
  | .handover (.handset h) t _ => some (h, t, true, [])
  | .repark h t => some (h, t, true, [.stall none])
  | _ => none

/-- The transmit buffer `tx` is the one of `s` joined by WITHDRAWN for the attendant with the ticket and the reason, where the
attendant is signed on with a handset and there is room (R150, R152, R155). -/
def WithdrawnSent (s : State) (a t reason : Nat) (tx : List HandsetFrame) : Prop :=
  ∀ identity, (s.attendant a).state ≠ .off → (s.attendant a).handset = some identity → s.lk.tx.length < 64 →
    tx = s.lk.tx ++ [{ site := if s.lk.siteFixed then s.lk.siteId else 0, identity := identity, kind := 0x83, req := 0
                       body := [.ticket t, .byte reason] }]

/-- The panel messages and the expiries of every timer but RECOVERY's: the events that move records, keys, jobs and latches and
write no setting. -/
def movesOnly : Instr → Bool
  | .hookLoaded _ _ _ => true
  | .hookEmptied _ _ _ => true
  | .latchDone _ _ _ => true
  | .silenceTimerExpiry _ => true
  | .latchRepeat _ => true
  | .windowTimerExpiry _ => true
  | .keyWarningPoint _ => true
  | .custodyLimitReached _ => true
  | .parkLimitReached _ => true
  | .ackTimerExpiry _ => true
  | .dwellTimerExpiry _ => true
  | .driveOffTimerExpiry _ => true
  | _ => false

/-- ACCEPT comes from the desk, or from an IDLE attendant's handset; the attendant is the sender (R7). -/
def AcceptSender (s : State) : Port → Option Nat → Prop
  | .desk _, sender => s.running = true ∧ sender = none
  | .handset h, sender => ∃ a, SentBy s h a ∧ (s.attendant a).state = .idle ∧ sender = some a

/-- ACCEPT is answered on its port: with the ticket, slot and hook or with none, the stall, and `f`, its own changes (R8,
R149). -/
def AcceptAnswers (port : Port) (c : Instr) (s : State) (a : Answer) (got : Option (Nat × Nat × Nat))
    (stall : Option StallId) (f : State → State) : Prop :=
  match port with
  | .desk _ => DeskAnswers c s (f s.begin) a (deskAccepted got stall)
  | .handset _ => HandsetAnswers c s a (got.map Prod.fst) (handsetAccepted got stall) f

end Sys2Proof.Safety
end

