-- ==== Sys2Proof/WellFormed.lean ====
section
/-! DEFINITION. Which commands a link can carry: every operand fits the bytes R188 gives its field, a plate field has its
ten places, and a row that names a kind of frame (R158, R148) holds such a frame. A field may still hold an encoding
that is no value of it: the meaning refuses those with BAD_FIELD. Every form of every command has a meaning, well
formed or not. -/

namespace Sys2Proof

/-- The value fits one byte. -/
def fitsByte (n : Nat) : Bool := n < 256
/-- The value fits two bytes. -/
def fitsHalf (n : Nat) : Bool := n < 65536
/-- The value fits the three bytes of a ticket. -/
def fitsTicket (n : Nat) : Bool := n < 16777216
/-- The value fits four bytes. -/
def fitsWord (n : Nat) : Bool := n < 4294967296

/-- The three header numbers of a handset frame are one byte each (R145, ch. 11.4). -/
def Handset.fits (h : Handset) : Bool := fitsByte h.site && fitsByte h.identity && fitsByte h.req

/-- The header of a desk request or of a handset frame. -/
def Port.fits : Port → Bool
  | .desk req => fitsByte req
  | .handset h => h.fits

/-- A plate field: a length byte and ten one-byte places (R188). -/
def PlateField.fits (p : PlateField) : Bool := fitsByte p.len && p.chars.length == 10 && p.chars.all fitsByte

/-- A presence byte and a four-byte value (R188). -/
def OptWord.fits (w : OptWord) : Bool := fitsByte w.presence && fitsWord w.value

/-- An expected state field; a handset message carries none (R26). -/
def Port.expectedFits (port : Port) (expected : Nat) : Bool :=
  match port with
  | .desk _ => fitsByte expected
  | .handset _ => expected == 255

/-- The desk command codes (ch. 11.2). -/
def deskCode (c : Nat) : Bool :=
  (0x10 ≤ c && c ≤ 0x1C) || (0x20 ≤ c && c ≤ 0x2C) || (0x30 ≤ c && c ≤ 0x31) || (0x38 ≤ c && c ≤ 0x3C) ||
  (0x40 ≤ c && c ≤ 0x44) || (0x48 ≤ c && c ≤ 0x49) || (0x50 ≤ c && c ≤ 0x55) || (0x60 ≤ c && c ≤ 0x64) ||
  (0x70 ≤ c && c ≤ 0x79)

/-- The incoming handset kinds (ch. 11.2). -/
def handsetKind (k : Nat) : Bool := 1 ≤ k && k ≤ 15

/-- The command's operands fit their fields. -/
def Instr.wellFormed : Instr → Bool
  | .accept port grade need tier plate folio lane =>
      port.fits && fitsByte grade && fitsByte need && fitsByte tier && plate.fits && folio.fits && fitsByte lane
  | .handover port ticket expected => port.fits && fitsTicket ticket && port.expectedFits expected
  | .hold req ticket expected => fitsByte req && fitsTicket ticket && fitsByte expected
  | .resolveStored req ticket expected => fitsByte req && fitsTicket ticket && fitsByte expected
  | .resolveMoveTo req ticket zone index expected =>
      fitsByte req && fitsTicket ticket && fitsByte zone && fitsByte index && fitsByte expected
  | .resolveWaiting req ticket expected => fitsByte req && fitsTicket ticket && fitsByte expected
  | .retire req ticket expected => fitsByte req && fitsTicket ticket && fitsByte expected
  | .getRecord req ticket expected => fitsByte req && fitsTicket ticket && fitsByte expected
  | .amend req ticket plate folio expected =>
      fitsByte req && fitsTicket ticket && plate.all PlateField.fits && folio.all OptWord.fits && fitsByte expected
  | .findPlate req plate start => fitsByte req && plate.fits && fitsHalf start
  | .findFolio req folio start => fitsByte req && folio.fits && fitsHalf start
  | .list req start filter => fitsByte req && fitsHalf start && fitsByte filter
  | .setParkLimit req limit => fitsByte req && fitsWord limit
  | .enableStall req zone index => fitsByte req && fitsByte zone && fitsByte index
  | .disableStall req zone index => fitsByte req && fitsByte zone && fitsByte index
  | .openZone req zone => fitsByte req && fitsByte zone
  | .closeZone req zone => fitsByte req && fitsByte zone
  | .setZoneFlags req zone night spill => fitsByte req && fitsByte zone && fitsByte night && fitsByte spill
  | .setPreference req tier count zones =>
      fitsByte req && fitsByte tier && fitsByte count && zones.length == 12 && zones.all fitsByte
  | .setPair req zone => fitsByte req && fitsByte zone
  | .unpair req zone => fitsByte req && fitsByte zone
  | .setSlot req slot grade => fitsByte req && fitsByte slot && fitsByte grade
  | .setStallSlot req zone index slot => fitsByte req && fitsByte zone && fitsByte index && fitsByte slot
  | .readZone req zone => fitsByte req && fitsByte zone
  | .readStall req zone index => fitsByte req && fitsByte zone && fitsByte index
  | .readWaitList req => fitsByte req
  | .setSilenceTime req seconds => fitsByte req && fitsWord seconds
  | .setWithdrawal req zone on => fitsByte req && fitsByte zone && fitsByte on
  | .setWindowTime req seconds => fitsByte req && fitsWord seconds
  | .setCustodyLimit req seconds => fitsByte req && fitsWord seconds
  | .beginPanelService req panel => fitsByte req && fitsByte panel
  | .endPanelService req panel => fitsByte req && fitsByte panel
  | .readHook req hook => fitsByte req && fitsHalf hook
  | .call port ticket tier due expected =>
      port.fits && fitsTicket ticket && fitsByte tier && due.fits && port.expectedFits expected
  | .cancelCall port ticket expected => port.fits && fitsTicket ticket && port.expectedFits expected
  | .setLeadTime req zone seconds => fitsByte req && fitsByte zone && fitsWord seconds
  | .readLeadTimes req => fitsByte req
  | .readQueue req start => fitsByte req && fitsByte start
  | .setAckTime req seconds => fitsByte req && fitsWord seconds
  | .readRoster req => fitsByte req
  | .enableBay req bay => fitsByte req && fitsByte bay
  | .disableBay req bay => fitsByte req && fitsByte bay
  | .setBayFlags req bay night => fitsByte req && fitsByte bay && fitsByte night
  | .setDwellTime req seconds => fitsByte req && fitsWord seconds
  | .clearLane req lane => fitsByte req && fitsByte lane
  | .readKerb req => fitsByte req
  | .captureSite req _ _ => fitsByte req
  | .readStatus req => fitsByte req
  | .readAttention req => fitsByte req
  | .clearAttention req causes => fitsByte req && fitsHalf causes
  | .setAttentionEnables req enables master => fitsByte req && fitsHalf enables && fitsByte master
  | .defineZone req zone count => fitsByte req && fitsByte zone && fitsHalf count
  | .defineFixedStall req zone index attr grade =>
      fitsByte req && fitsByte zone && fitsByte index && fitsByte attr && fitsByte grade
  | .definePanel req panel => fitsByte req && fitsByte panel
  | .defineBays req bays => fitsByte req && fitsByte bays
  | .freezeLayout req => fitsByte req
  | .setServiceState req state => fitsByte req && fitsByte state
  | .clearSite req confirm => fitsByte req && fitsHalf confirm
  | .setClock req value => fitsByte req && fitsWord value
  | .setChainMask req zones => fitsByte req && fitsHalf zones
  | .restart req confirm => fitsByte req && fitsHalf confirm
  | .deskBadFrame _ => true
  | .deskUnknownCommand req code => fitsByte req && fitsByte code && !deskCode code
  | .deskIgnoredTransaction bytes => bytes.head? != some 0xA1#8 && bytes.head? != some 0xA2#8
  | .signOn h roster => h.fits && fitsByte roster
  | .signOff h => h.fits
  | .takeBreak h => h.fits
  | .ready h => h.fits
  | .parked h ticket => h.fits && fitsTicket ticket
  | .ack h ticket => h.fits && fitsTicket ticket
  | .decline h ticket => h.fits && fitsTicket ticket
  | .abandon h ticket => h.fits && fitsTicket ticket
  | .keyAgain h ticket => h.fits && fitsTicket ticket
  | .staged h ticket bay => h.fits && fitsTicket ticket && fitsByte bay
  | .repark h ticket => h.fits && fitsTicket ticket
  | .handsetFrameDropped _ => true
  | .handsetUnknownKind h kind => h.fits && fitsByte kind && !handsetKind kind
  | .handsetFrameSent => true
  | .zoneReport zone _ check => fitsByte zone && fitsHalf check
  | .silenceTimerExpiry zone => zone < 12
  | .hookLoaded panel position tag => fitsByte panel && fitsByte position && fitsTicket tag
  | .hookEmptied panel position latched => fitsByte panel && fitsByte position && fitsByte latched
  | .latchDone panel position latch => fitsByte panel && fitsByte position && fitsByte latch
  | .cabinetMessageDropped _ => true
  | .latchRepeat hook => hook < 1024
  | .windowTimerExpiry hook => hook < 1024
  | .keyWarningPoint hook => hook < 1024
  | .custodyLimitReached hook => hook < 1024
  | .parkLimitReached ticket => 1 ≤ ticket && ticket ≤ 999999
  | .ackTimerExpiry attendant => attendant < 32
  | .dwellTimerExpiry bay => bay < 8
  | .driveOffTimerExpiry bay => bay < 8
  | .recoveryTimerExpiry => true
  | .elapsedSecond => true
  | .laneLoopChange lane _ => lane < 2
  | .bayLoopChange bay _ => bay < 8
  | .chainLoad => true
  | .powerOn _ => true
  | .mainSupplyLost => true
  | .mainSupplyReturn => true
  | .resetNAsserted => true
  | .resetNReleased => true
  | .backupSupplyLost => true
  | .chainClkRisingEdge _ => true

end Sys2Proof
end

