-- ==== Sys2Proof/Certificates/Slice0/Obligations.lean ====
section
/-! DEFINITION. The statements for the provers, in five groups: the step and the ports; the desk commands by chapter; the
handset messages; the reports, timers and lines; the rules of the shared operations; the invariants. Words used here and
defined in Safety.lean: a command is answered (`DeskAnswers`, `DeskReports`, `DeskLeaves`, `HandsetAnswers`), an event leaves
a state (`EventLeaves`). `s.begin` is `s` with nothing due and nothing sent on the cabinet bus. -/

open Sys2Proof Sys2Proof.Machine Sys2Proof.Safety

/-! ### The step, the ports and reset -/

/-- A step takes the command at the front of the queue; on an empty queue the controller idles (DESIGN CHOICE, log entry
5). -/
def Obligations.StepRunsTheFrontCommand : Prop :=
  (∀ (c : Instr) (rest : List Instr) (s : State), step { s with pending := c :: rest } = exec c { s with pending := rest }) ∧
    ∀ s : State, s.pending = [] → step s = .next s

/-- Every command completes, on every state, and leaves the waiting commands as they were. -/
def Obligations.EveryCommandCompletes : Prop :=
  ∀ (c : Instr) (s : State), ∃ t, exec c s = .next t ∧ t.pending = s.pending

/-- The power-on values that R183 gives in brief, each with the chapter's own list; and the invariants of the last group hold at
reset. -/
def Obligations.ResetHoldsPowerOnValues : Prop :=
  (let s := State.reset
   (s.ct.records = [] ∧ s.ct.counter = 0 ∧ s.ct.cursor = 0 ∧ s.ct.parkLimit = 900) ∧
   ((∀ z < 12, (s.zone z).inLayout = false ∧ (s.zone z).stalls = [] ∧ (s.zone z).isOpen = false ∧
       (s.zone z).withdrawal = true) ∧
     s.sm.gradeSlots = [15, 9, 5, 2] ∧ s.sm.prefs = List.replicate 4 (List.range 12) ∧ s.sm.waitList = []) ∧
   ((∀ z < 12, (s.link z).silence = none) ∧ s.zl.silenceTime = 10) ∧
   ((∀ h < 1024, s.hook? h = none) ∧ s.kc.windowTime = 90 ∧ s.kc.custodyLimit = 900) ∧
   (s.jq.entries = [] ∧ s.jq.leads = List.replicate 12 240) ∧
   ((∀ a < 32, (s.attendant a).state = .off ∧ (s.attendant a).handset = none ∧ s.keysOut a = 0) ∧ s.dr.idle = [] ∧
     s.dr.ackTime = 20) ∧
   ((∀ l < 2, (s.lane l).fifo = []) ∧ (∀ b < 8, (s.bay b).inLayout = false ∧ (s.bay b).holder = none) ∧
     s.km.dwellTime = 600) ∧
   (s.lk.siteId = 0 ∧ s.lk.siteFixed = false ∧ s.lk.tx = [] ∧ s.lk.response = none ∧ s.lk.shift = 0 ∧ s.lk.permits = 0 ∧
     s.lk.mask = 0) ∧
   (s.sa.state = .commissioning ∧ s.sa.frozen = false ∧ s.sa.clock = 0 ∧ s.sa.elapsed = 0 ∧
     (∀ c, (s.sa.cell c).latch = false ∧ (s.sa.cell c).enable = true ∧ (s.sa.cell c).subject = none) ∧
     s.sa.first = none ∧ s.sa.master = true ∧ s.sa.line = false ∧ s.sa.recovery = none)) ∧
    BuffersBounded State.reset ∧ WaitListBounded State.reset ∧ TableSound State.reset ∧ AttentionSound State.reset ∧
    CommissioningEmpty State.reset ∧ QueueOrdered State.reset ∧ IdleListExact State.reset ∧ WaitListExact State.reset ∧
    StallsAgree State.reset ∧ HooksAgree State.reset ∧ JobsAgree State.reset

/-- While the main supply is absent, RESET_N is asserted or both supplies have been lost, no command is taken but those
of the supplies and RESET_N: a loop's new level stands at its input alone, and a second advances the service clock
alone, and not even that once both supplies have been lost (R183, R179; that such commands change nothing is DESIGN
CHOICE, log entry 7). What each supply event leaves: the return of the main supply and the release of RESET_N are a warm
restart; the main supply after both were lost is a power-on, at which every block takes its power-on values (R183; the
answers from states in which the pins rule an event out are the model's, log entry 7). RESTART with its confirm value is
a warm restart, and with any other is refused BAD_FIELD in the slot (R183). -/
def Obligations.SuppliesAndResetEndAndBeginOperation : Prop :=
  (∀ (c : Instr) (s : State), s.running = false →
     match c with
     | .powerOn _ => True
     | .mainSupplyLost => True
     | .mainSupplyReturn => True
     | .resetNAsserted => True
     | .resetNReleased => True
     | .backupSupplyLost => True
     | .laneLoopChange lane level => exec c s = .next { s with pw := { s.pw with lanes := s.pw.lanes.set lane level } }
     | .bayLoopChange bay level => exec c s = .next { s with pw := { s.pw with bays := s.pw.bays.set bay level } }
     | .elapsedSecond =>
         exec c s = .next (if s.pw.lost then s else { s with sa := { s.sa with clock := s.sa.clock + 1 } })
     | _ => exec c s = .next s) ∧
  (∀ s : State,
     (∀ b, exec (.powerOn b) s =
       .next (State.poweredOn { s.pw with main := true, backup := b, lost := false } s.pending)) ∧
     exec .mainSupplyLost s = .next { s with pw := { s.pw with main := false, lost := s.pw.lost || !s.pw.backup } } ∧
     exec .backupSupplyLost s = .next { s with pw := { s.pw with backup := false, lost := s.pw.lost || !s.pw.main } } ∧
     exec .resetNAsserted s =
       .next { s with pw := { s.pw with
           resetAsserted := true, lost := s.pw.lost || (!s.pw.main && !s.pw.backup) } } ∧
     (s.pw.main = true → s.pw.lost = false →
       exec .resetNReleased s = .next ({ s with pw := { s.pw with resetAsserted := false } } : State).warmRestart) ∧
     (s.pw.main = false →
       exec .resetNReleased s =
         .next { s with pw := { s.pw with resetAsserted := false, lost := s.pw.lost || !s.pw.backup } }) ∧
     (s.pw.lost = false → s.pw.resetAsserted = false →
       exec .mainSupplyReturn s = .next ({ s with pw := { s.pw with main := true } } : State).warmRestart) ∧
     (s.pw.lost = false → s.pw.resetAsserted = true →
       exec .mainSupplyReturn s = .next { s with pw := { s.pw with main := true } }) ∧
     (s.pw.lost = true →
       exec .mainSupplyReturn s = .next (State.poweredOn { s.pw with main := true, lost := false } s.pending))) ∧
  (∀ (s : State) (q v : Nat), s.running = true →
     (v = 0x5A3C → exec (.restart q v) s = .next s.begin.warmRestart) ∧
     (v ≠ 0x5A3C → DeskReports (.restart q v) s .badField []))

/-- Every desk command but a RESTART that is taken leaves a response with its own request number and code, the service
state and the attention line after it (R157); one answered with anything but DONE changes no state beyond the response
slot (R159). `begin` drops the record of the latch messages that the event before sent, which is an output and no state
of the controller. -/
def Obligations.DeskCommandsAreAnsweredAndRefusalsChangeNothing : Prop :=
  (∀ (c : Instr) (s : State) (h : Nat × Nat), s.running = true → deskHeader c = some h →
     (∀ q, c ≠ .restart q 0x5A3C) →
     ∃ t r, exec c s = .next t ∧ t.lk.response = some r ∧ r.answered = some h ∧ r.service = t.sa.state ∧
       r.line = t.sa.line) ∧
  (∀ (c : Instr) (s t : State) (h : Nat × Nat) (r : Response), s.running = true → deskHeader c = some h →
     exec c s = .next t → t.lk.response = some r → r.answer ≠ .done →
     t = { s.begin with lk := { s.lk with response := some r } })

/-- The checks made first, in their order. Every desk command naming one record: malformed fields, an unknown ticket, an
expected state that differs (R26). Every handset message naming a ticket: a sender bound to no attendant, malformed fields, an
unknown ticket (R127, R148); only a message that passes them is ruled by the record's state. That a site field above 3 is
refused with the malformed fields is the model's reading (DEDUCED, log entry 16). -/
def Obligations.TicketChecksComeInOrder : Prop :=
  (∀ (c : Instr) (s : State) (t expected : Nat) (fieldsOk : Bool),
     s.running = true → namedRecord c = some (t, expected, fieldsOk) →
     (t = 0 ∨ 999999 < t ∨ fieldsOk = false ∨ (7 < expected ∧ expected ≠ 255) → DeskReports c s .badField []) ∧
     (1 ≤ t → t ≤ 999999 → fieldsOk = true → expected ≤ 7 ∨ expected = 255 →
       (s.record? t = none → DeskReports c s .notFound []) ∧
       ∀ r, s.record? t = some r → expected ≤ 7 → expected ≠ r.state.code → DeskReports c s .notAsExpected [])) ∧
  ∀ (c : Instr) (s : State) (h : Handset) (t : Nat) (fieldsOk : Bool) (blank : List Value),
    s.running = true → s.siteAdmits h = true → namedByHandset c = some (h, t, fieldsOk, blank) →
    let ruled (a : Answer) : Prop := HandsetAnswers c s a (some t) blank id
    (s.boundTo? h.identity = none → ruled .notSignedOn) ∧
    (s.boundTo? h.identity ≠ none →
      (3 < h.site ∨ t = 0 ∨ 999999 < t ∨ fieldsOk = false → ruled .badField) ∧
      (h.site ≤ 3 → 1 ≤ t → t ≤ 999999 → fieldsOk = true → s.record? t = none → ruled .notFound))

/-- A handset message that passes the site filter is answered by one RESULT, the first frame its event adds to a transmit
buffer with room; a filtered one changes nothing (R147, R149, R155). -/
def Obligations.HandsetMessagesAreAnsweredOnce : Prop :=
  ∀ (c : Instr) (s : State) (h : Handset) (k : Nat), s.running = true → handsetHeader c = some (h, k) →
    (s.lk.siteFixed = true → h.site ≠ s.lk.siteId → exec c s = .next s) ∧
    ((s.lk.siteFixed = false ∨ h.site = s.lk.siteId) → s.lk.tx.length < 64 →
      ∃ t f rest, exec c s = .next t ∧ t.lk.tx = s.lk.tx ++ f :: rest ∧ f.site = h.site ∧ f.identity = h.identity ∧
        f.kind = 0x81 ∧ f.req = h.req ∧ f.body.head? = some (.byte k) ∧ ∀ g ∈ rest, g.kind ≠ 0x81)

/-- What reaches no command. At the handset port a dropped frame has no effect, an unknown kind is answered BAD_FIELD
with the kind echoed, and a frame sent leaves the front of the transmit buffer (R145, R148, R155). At the desk port a
bad frame is answered BAD_FRAME without request number and code, an unknown code BAD_FIELD with the code echoed, and a
transaction that is no write and no read leaves everything (R158, R187); a transaction too short to hold length, code,
request number and check is a bad frame, and one longer than its declared length is judged by the declared bytes, both
the model's choice (DESIGN CHOICE, log entry 15). A message other than SIGN_ON from a handset bound to no
attendant, whatever its site field, is answered NOT_SIGNED_ON and changes nothing beyond the transmit buffer, where the buffer
has room (R148). -/
def Obligations.PortsAnswerWhatReachesNoCommand : Prop :=
  (∀ s : State, s.running = true →
     (∀ bytes, exec (.handsetFrameDropped bytes) s = .next s) ∧
     (∀ h k, handsetKind k = false → s.siteAdmits h = true →
       exec (.handsetUnknownKind h k) s = .next (s.begin.sendResult h k .badField none [])) ∧
     (∀ f rest, s.lk.tx = f :: rest →
       exec .handsetFrameSent s = .next { s.begin with lk := { s.lk with tx := rest } }) ∧
     (s.lk.tx = [] → exec .handsetFrameSent s = .next s)) ∧
  (∀ s : State, s.running = true →
     (∀ bytes, bytes.head? = some 0xA1#8 → deskFrameBad bytes = true →
       exec (.deskBadFrame bytes) s = .next (s.begin.respond none .badFrame [])) ∧
     (∀ q code, deskCode code = false →
       exec (.deskUnknownCommand q code) s = .next (s.begin.respond (some (q, code)) .badField [])) ∧
     ∀ bytes, exec (.deskIgnoredTransaction bytes) s = .next s) ∧
  (∀ (c : Instr) (s : State) (h : Handset) (k : Nat), s.running = true → handsetHeader c = some (h, k) → k ≠ 1 →
     s.siteAdmits h = true → s.boundTo? h.identity = none → s.lk.tx.length < 64 →
     ∃ f, exec c s = .next { s.begin with lk := { s.lk with tx := s.lk.tx ++ [f] } } ∧ f.kind = 0x81 ∧
       (∃ ticket fields, f.body = [.byte k, .byte 9, .optTicket ticket] ++ fields))

/-! ### The record commands (chapter 1) -/

/-- ACCEPT: the fields that hold no value, by their encodings (R7, R188); and from both ports its refusals in their
order, each changing nothing, and the accepted car (R7, R8, R148). That a handset's site field above 3 is refused with the
fields that hold no value is the model's reading (DEDUCED, log entry 16). -/
def Obligations.AcceptIsRefusedInOrderOrCreatesARecord : Prop :=
  (∀ (grade need tier : Nat) (plate : PlateField) (folio : OptWord) (lane : Nat),
     arrivalOf grade need tier plate folio lane = none ↔
       15 < grade ∨ (2 < need ∧ need ≠ 255) ∨ (3 < tier ∧ tier ≠ 255) ∨
       (10 < plate.len ∨ plate.chars.length < plate.len ∨
         ∃ ch ∈ plate.chars.take plate.len, ¬(65 ≤ ch ∧ ch ≤ 90) ∧ ¬(48 ≤ ch ∧ ch ≤ 57) ∧ ch ≠ 32 ∧ ch ≠ 45) ∨
       (1 < folio.presence ∨ (folio.presence = 1 ∧ (folio.value = 0 ∨ 4294967296 ≤ folio.value))) ∨
       (1 < lane ∧ lane ≠ 255)) ∧
  (∀ (port : Port) (grade need tier : Nat) (plate : PlateField) (folio : OptWord) (lane : Nat) (s : State),
     let c := Instr.accept port grade need tier plate folio lane
     let given := arrivalOf grade need tier plate folio lane
     let fields := match port with
       | .desk _ => given
       | .handset h => if h.site ≤ 3 then given else none
     (∀ h a, port = .handset h → SentBy s h a → (s.attendant a).state ≠ .idle →
       AcceptAnswers port c s .busy none none id) ∧
     ∀ sender, AcceptSender s port sender →
       (s.sa.state ≠ .opened → s.sa.state ≠ .night → AcceptAnswers port c s .closed none none id) ∧
       (s.sa.state = .opened ∨ s.sa.state = .night →
         (fields = none → AcceptAnswers port c s .badField none none id) ∧
         ∀ f, fields = some f →
           (1024 ≤ s.ct.records.length → AcceptAnswers port c s .tableFull none none id) ∧
           (s.ct.records.length < 1024 →
             (s.freeHook? = none → AcceptAnswers port c s .noHook none none id) ∧
             ∀ hook, s.freeHook? = some hook →
               let found := s.allocate f.grade f.need f.tier
               (found = none → 24 ≤ s.sm.waitList.length → AcceptAnswers port c s .waitlistFull none none id) ∧
               (found ≠ none ∨ s.sm.waitList.length < 24 →
                 AcceptAnswers port c s .done (some (s.nextTicket, s.nextSlot, hook)) (found.map Prod.fst)
                   (fun q => q.acceptCar f hook found sender)))))

/-- The record that ACCEPT creates: a ticket that no live record carries, which the counter keeps; the lowest free slot; the
values of R8; INBOUND in the stall found, which it holds, or WAITING at the tail of the wait list; its hook AWAIT and bound to
it, with no command sent; the oldest capture gone from the named lane; and a handset's sender PARKING where a stall was found
(R1, R2, R8, R33, R72, R122, R131). -/
def Obligations.NewRecordHasItsCreationValues : Prop :=
  ∀ (s : State) (f : Arrival) (hook : Nat) (found : Option (StallId × Bool)) (sender : Option Nat),
    TableSound s → s.ct.records.length < 1024 →
    let t := s.acceptCar f hook found sender
    (s.record? s.nextTicket = none ∧ 1 ≤ s.nextTicket ∧ s.nextTicket ≤ 999999 ∧ t.ct.counter = s.nextTicket) ∧
    (∀ k, s.hook? hook = some k → k.state = .free →
      t.hook? hook = some { k with state := .await, bound := some s.nextTicket } ∧ t.kc.sent = s.kc.sent) ∧
    (∀ l, f.lane = some l → t.lane l = { s.lane l with fifo := (s.lane l).fifo.tail }) ∧
    (∀ l, f.lane ≠ some l → t.lane l = s.lane l) ∧
    (∀ st fallback x, found = some (st, fallback) → s.stall? st.zone st.index = some x →
      t.stall? st.zone st.index = some { x with holder := some s.nextTicket, vacantRun := 0, occupiedRun := 0 }) ∧
    (∀ a, sender = some a → found ≠ none → a < s.dr.attendants.length →
      (t.attendant a).state = .parking ∧ (t.attendant a).idleSince = none ∧
        t.dr.idle = s.dr.idle.filter (· != a)) ∧
    (sender = none ∨ found = none → t.dr = s.dr) ∧
    ∃ r, t.record? s.nextTicket = some r ∧
      (∀ q ∈ s.ct.records, q.slot ≠ r.slot) ∧ (∀ n < r.slot, ∃ q ∈ s.ct.records, q.slot = n) ∧
      r.grade = f.grade ∧ r.need = f.need ∧ r.tier = f.tier ∧ r.plate = f.plate ∧ r.folio = f.folio ∧
      r.accepted = s.sa.clock ∧ r.arrival = (f.lane.bind fun l => (s.lane l).fifo.head?) ∧ r.hook = hook ∧
      r.call = none ∧ r.bay = none ∧ r.reason = none ∧ r.reparks = 0 ∧ r.parkMark = false ∧ r.keyMark = false ∧
      r.flags = { chargeUnmet := found.any Prod.snd } ∧
      match found with
      | some (st, _) => r.state = .inbound ∧ r.stall = some st ∧ r.attendant = sender ∧
          r.park = some ⟨0, s.ct.parkLimit, false⟩ ∧ t.sm.waitList = s.sm.waitList
      | none => r.state = .waiting ∧ r.stall = none ∧ r.attendant = none ∧ r.park = none ∧
          t.sm.waitList = s.sm.waitList ++ [s.nextTicket]

/-- RETIRE (R24) retires a SUSPENDED record, whatever the state of its hook, and is WRONG_STATE on a record in any other
state. -/
def Obligations.RetireEndsASuspendedRecord : Prop :=
  ∀ (s : State) (q t e : Nat) (r : Record), DeskNames s t e r →
    (r.state = .suspended → DeskAnswers (.retire q t e) s (s.begin.retireRecord t) .done []) ∧
    (r.state ≠ .suspended → DeskReports (.retire q t e) s .wrongState [])

/-- HANDOVER from both ports retires a STAGED record and is refused WRONG_STATE in any other state (R17). What
retirement frees: the ticket and the slot, the hook with a key still on it kept as a stray key and its latch commanded
open, the stall, and the bay with its timers; the ticket counter stays (R2, R17, R72, R142). That the hook of a key away
sends nothing is the model's reading (DEDUCED, log entry 19). -/
def Obligations.RetirementFreesSlotHookStallAndBay : Prop :=
  (∀ (s : State) (q t e : Nat) (r : Record),
     (DeskNames s t e r →
       (r.state = .staged → DeskAnswers (.handover (.desk q) t e) s (s.begin.retireRecord t) .done []) ∧
       (r.state ≠ .staged → DeskReports (.handover (.desk q) t e) s .wrongState [])) ∧
     ∀ h a, HandsetNames s h a t r →
       (r.state = .staged → HandsetAnswers (.handover (.handset h) t e) s .done (some t) [] fun x => x.retireRecord t) ∧
       (r.state ≠ .staged → HandsetAnswers (.handover (.handset h) t e) s .wrongState (some t) [] id)) ∧
  (∀ (s : State) (t : Nat) (r : Record), s.record? t = some r →
    let q := s.retireRecord t
    q.record? t = none ∧ (∀ u, u ≠ t → q.record? u = s.record? u) ∧ q.ct.counter = s.ct.counter ∧
    (∀ k, s.hook? r.hook = some k →
      ∃ k', q.hook? r.hook = some k' ∧ k'.state = .free ∧ k'.bound = none ∧ k'.attendant = none ∧
        k'.forced = false ∧ k'.warned = false ∧ k'.overdue = false ∧ k'.phase = .none ∧ k'.count = 0 ∧
        k'.window = none ∧ k'.custody = none ∧
        k'.strayTag = (if k.state = .held ∨ k.state = .opened then some t else k.strayTag) ∧
        (k.state = .held ∨ k.state = .opened → k'.latch = some .opened ∧ k'.repeatTimer = some ⟨0, 2⟩ ∧
          q.kc.sent = s.kc.sent ++ [⟨r.hook, .opened⟩]) ∧
        (k.state ≠ .held → k.state ≠ .opened →
          k'.latch = k.latch ∧ k'.repeatTimer = k.repeatTimer ∧ q.kc.sent = s.kc.sent)) ∧
    (∀ st x, r.stall = some st → s.stall? st.zone st.index = some x →
      q.stall? st.zone st.index = some { x with holder := none, vacantRun := 0, occupiedRun := 0 }) ∧
    (∀ b, r.bay = some b →
      q.bay b = { s.bay b with holder := none, dwell := none, driveOff := none }))

/-- HOLD (R21) suspends a record that is neither STAGED nor SUSPENDED with reason DESK_HOLD; a STAGED record is WRONG_STATE, a
SUSPENDED one ALREADY and unchanged. -/
def Obligations.HoldSetsARecordAside : Prop :=
  ∀ (s : State) (q t e : Nat) (r : Record), DeskNames s t e r →
    (r.state ≠ .staged → r.state ≠ .suspended → DeskAnswers (.hold q t e) s (s.begin.suspend t .deskHold) .done []) ∧
    (r.state = .staged → DeskReports (.hold q t e) s .wrongState []) ∧
    (r.state = .suspended → DeskReports (.hold q t e) s .already [])

/-- What suspension does. To the record: no entry, no place on the wait list, no call, no marks, no park timer,
INBOUND_LATE clear, the stall kept, the attendant whose OUT hook holds the key, and the cause as reason (R19). To its
hook, whose release window ends: an OPEN one is closed in phase ENDING, one in panel service or in its second period is
HELD at once, any other stays (R80); that a release which leaves the required position sends nothing is the model's
reading (DEDUCED, log entry 19). To the attendant of its job: an offer withdrawn returns it to the front with WITHDRAWN
reason 0, a taken job and the parking of a car return it to the back with reason 1 (R122, R124, R152); `idleFront` and
`idleBack` are stated with the roster messages. -/
def Obligations.SuspensionSetsTheRecordAside : Prop :=
  ∀ (s : State) (t : Nat) (r : Record) (why : SuspendReason), s.record? t = some r →
    let q := s.suspend t why
    (∃ r', q.record? t = some r' ∧ r'.state = .suspended ∧ r'.call = none ∧ r'.parkMark = false ∧ r'.keyMark = false ∧
      r'.park = none ∧ (r.state = .inbound → r'.flags.inboundLate = false) ∧ r'.stall = r.stall ∧
      r'.attendant = s.keyHolder r ∧ r'.reason = some why) ∧
    (q.entry? t = none ∧ t ∉ q.sm.waitList ∧ (∀ u, u ≠ t → q.record? u = s.record? u) ∧
      (s.entry? t ≠ none → q.due.serve = true)) ∧
    (∀ k, s.hook? r.hook = some k →
      let service := s.hookInService r.hook
      let ends : Prop := (k.state = .opened ∧ service = true) ∨ (k.state = .held ∧ k.phase = .running)
      let closes : Prop := k.state = .opened ∧ service = false ∧ (k.phase = .running ∨ k.phase = .closing)
      (ends → q.hook? r.hook = some
        { k with state := .held, phase := .none, count := 0, attendant := none, window := none }) ∧
      (closes → ∃ k', q.hook? r.hook = some k' ∧ k'.state = .opened ∧ k'.phase = .ending ∧ k'.window = none ∧
        k'.attendant = k.attendant ∧ k'.bound = k.bound ∧
        (k.phase = .running → k'.latch = some .closed ∧ q.kc.sent = s.kc.sent ++ [⟨r.hook, .closed⟩]) ∧
        (k.phase = .closing → k'.latch = k.latch ∧ q.kc.sent = s.kc.sent)) ∧
      (¬ends → ¬closes → q.hook? r.hook = some k ∧ q.kc.sent = s.kc.sent)) ∧
    (∀ x a, s.entry? t = some x → x.attendant = some a → r.state ≠ .inbound ∨ x.kind = .move →
      (x.status = .offered → q.dr = (s.idleFront a).dr ∧ WithdrawnSent s a t 0 q.lk.tx) ∧
      (x.status = .taken → q.dr = (s.idleBack a).dr ∧ WithdrawnSent s a t 1 q.lk.tx)) ∧
    (∀ a, r.state = .inbound → r.attendant = some a →
      (∀ x, s.entry? t = some x → x.kind = .fetch ∧ x.status = .queued) →
      q.dr = (s.idleBack a).dr ∧ WithdrawnSent s a t 1 q.lk.tx) ∧
    (r.state ≠ .inbound ∨ r.attendant = none → (∀ x, s.entry? t = some x → x.status = .queued) →
      q.dr = s.dr ∧ q.lk = s.lk)

/-- RESOLVE STORED, RESOLVE MOVE TO (R22) and RESOLVE WAITING (R23), each with its checks in order. That RESOLVE MOVE TO triggers
the serving pass whether or not it released a stall is the model's reading of R50 and R66 (DEDUCED, log entry 23). What
RESOLVE MOVE TO leaves at the record and at the stray stall, before that pass (R22, R5, R66). -/
def Obligations.ResolveReturnsASuspendedRecord : Prop :=
  (∀ (s : State) (q t e : Nat) (r : Record), DeskNames s t e r →
     (r.state ≠ .suspended → DeskReports (.resolveStored q t e) s .wrongState []) ∧
     (r.state = .suspended →
       (r.stall = none → DeskReports (.resolveStored q t e) s .wrongState []) ∧
       ∀ st, r.stall = some st →
         ((s.link st.zone).link = .live → (∀ x, s.stall? st.zone st.index = some x → x.sensed ≠ .occupied) →
           DeskReports (.resolveStored q t e) s .wrongState []) ∧
         ((s.link st.zone).link ≠ .live ∨ (∃ x, s.stall? st.zone st.index = some x ∧ x.sensed = .occupied) →
           (s.keyIsHome r = false → DeskReports (.resolveStored q t e) s .busy []) ∧
           (s.keyIsHome r = true →
             DeskAnswers (.resolveStored q t e) s ((s.begin.setState t .stored).clearSuspension t) .done []))) ∧
     ∀ zone index, zone < 12 → index < 96 →
       let c := Instr.resolveMoveTo q t zone index e
       (r.state ≠ .suspended → DeskReports c s .wrongState []) ∧
       (r.state = .suspended →
         (s.stall? zone index = none → DeskReports c s .badField []) ∧
         ∀ x, s.stall? zone index = some x →
           (x.stray = false → DeskReports c s .wrongState []) ∧
           (x.stray = true →
             (s.keyIsHome r = false → DeskReports c s .busy []) ∧
             (s.keyIsHome r = true →
               DeskAnswers c s
                 ((((s.begin.placeInStray r ⟨zone, index⟩ x).setState t .stored).clearSuspension t).serveDue)
                 .done [])))) ∧
  (∀ (s : State) (q t e : Nat) (r : Record), DeskNames s t e r →
     (r.state ≠ .suspended → DeskReports (.resolveWaiting q t e) s .wrongState []) ∧
     (r.state = .suspended →
       (24 ≤ s.sm.waitList.length → DeskReports (.resolveWaiting q t e) s .waitlistFull []) ∧
       (s.sm.waitList.length < 24 →
         (s.keyIsHome r = false → DeskReports (.resolveWaiting q t e) s .busy []) ∧
         (s.keyIsHome r = true →
           DeskAnswers (.resolveWaiting q t e) s
             ((((s.begin.releaseStall t).clearSuspension t).enterWaiting t).serveDue) .done [])))) ∧
  (∀ (s : State) (t zone index : Nat) (r : Record) (x : Stall),
     s.record? t = some r → s.stall? zone index = some x →
     let q := ((s.placeInStray r ⟨zone, index⟩ x).setState t .stored).clearSuspension t
     (∃ r', q.record? t = some r' ∧ r'.state = .stored ∧ r'.stall = some ⟨zone, index⟩ ∧ r'.reason = none ∧
       r'.attendant = none ∧ (r'.flags.misfit = true ↔ s.gradeOf x < r.grade) ∧
       (r'.flags.chargeUnmet = true ↔ r.need = .charger ∧ x.attr ≠ .charger)) ∧
     (∃ y, q.stall? zone index = some y ∧ y.holder = some t ∧ y.stray = false ∧ y.vacantRun = 0 ∧ y.occupiedRun = 0) ∧
     ∀ st y, r.stall = some st → st ≠ ⟨zone, index⟩ → s.stall? st.zone st.index = some y →
       (q.stall? st.zone st.index).map Stall.holder = some none)

/-- GET RECORD returns the full record; AMEND replaces the fields given and nothing else (R27);
with neither given it answers DONE and changes nothing, the model's choice (DEDUCED, log entry 9). FIND PLATE, FIND FOLIO
and LIST: the first eight matches from the start slot on, in slot order, and the slot after the last one examined, which
LIST keeps as its cursor (R28, R29). -/
def Obligations.RecordQueriesReadAndAmendReplaces : Prop :=
  (∀ (s : State) (q t e : Nat) (r : Record), DeskNames s t e r →
     DeskReports (.getRecord q t e) s .done r.full ∧
     ∀ (plate : Option PlateField) (folio : Option OptWord),
       (∀ p, plate = some p → (plateOf p).isSome = true) → (∀ w, folio = some w → (folioOf w).isSome = true) →
       DeskLeaves (.amend q t plate folio e) s
         (s.begin.modRecord t fun x =>
           { x with plate := (plate.bind plateOf).getD r.plate, folio := (folio.bind folioOf).getD r.folio }) .done []) ∧
  (∀ (s : State) (q start : Nat), s.running = true →
     (∀ plate, (plateOf plate = none ∨ plateOf plate = some [] ∨ (1023 < start ∧ start ≠ 65535)) →
       DeskReports (.findPlate q plate start) s .badField []) ∧
     (∀ folio, (folioOf folio = none ∨ folioOf folio = some none ∨ (1023 < start ∧ start ≠ 65535)) →
       DeskReports (.findFolio q folio start) s .badField []) ∧
     (∀ filter, ((1023 < start ∧ start ≠ 65535) ∨ (7 < filter ∧ filter ≠ 255)) →
       DeskReports (.list q start filter) s .badField []) ∧
     (start ≤ 1023 ∨ start = 65535 →
       let first := if start = 65535 then 0 else start
       (∀ plate ch rest, plateOf plate = some (ch :: rest) →
         DeskReports (.findPlate q plate start) s .done
           (pageFields (((s.ct.records.filter fun r => first ≤ r.slot && r.plate == ch :: rest)).take 8))) ∧
       (∀ folio v, folioOf folio = some (some v) →
         DeskReports (.findFolio q folio start) s .done
           (pageFields (((s.ct.records.filter fun r => first ≤ r.slot && r.folio == some v)).take 8))) ∧
       ∀ filter, filter ≤ 7 ∨ filter = 255 →
         let cursor := if start = 65535 then s.ct.cursor else start
         let page := (s.ct.records.filter fun r => cursor ≤ r.slot && (filter == 255 || r.state.code == filter)).take 8
         DeskLeaves (.list q start filter) s
           { s.begin with ct := { s.ct with cursor := pageEnd page } } .done (pageFields page)))

/-- The settings with a range take the value given, for timers started later, and are refused BAD_FIELD outside it (R6,
R57, R81, R85, R120, R140). SET LEAD TIME writes the governing zone's value, and a value below the one before is a
readiness event (R108). -/
def Obligations.TimeSettingsHaveTheirRanges : Prop :=
  (∀ (s : State) (q v : Nat), s.running = true →
     (if 120 ≤ v ∧ v ≤ 3600 then
       DeskLeaves (.setParkLimit q v) s { s.begin with ct := { s.ct with parkLimit := v } } .done []
       else DeskReports (.setParkLimit q v) s .badField []) ∧
     (if 4 ≤ v ∧ v ≤ 60 then
       DeskLeaves (.setSilenceTime q v) s { s.begin with zl := { s.zl with silenceTime := v } } .done []
       else DeskReports (.setSilenceTime q v) s .badField []) ∧
     (if 30 ≤ v ∧ v ≤ 300 then
       DeskLeaves (.setWindowTime q v) s { s.begin with kc := { s.kc with windowTime := v, sent := [] } } .done []
       else DeskReports (.setWindowTime q v) s .badField []) ∧
     (if 120 ≤ v ∧ v ≤ 3600 then
       DeskLeaves (.setCustodyLimit q v) s { s.begin with kc := { s.kc with custodyLimit := v, sent := [] } } .done []
       else DeskReports (.setCustodyLimit q v) s .badField []) ∧
     (if 5 ≤ v ∧ v ≤ 60 then
       DeskLeaves (.setAckTime q v) s { s.begin with dr := { s.dr with ackTime := v } } .done []
       else DeskReports (.setAckTime q v) s .badField []) ∧
     (if 60 ≤ v ∧ v ≤ 3600 then
       DeskLeaves (.setDwellTime q v) s { s.begin with km := { s.km with dwellTime := v } } .done []
       else DeskReports (.setDwellTime q v) s .badField [])) ∧
  (∀ (s : State) (q z v : Nat), s.running = true →
     (11 < z ∨ 1800 < v → DeskReports (.setLeadTime q z v) s .badField []) ∧
     (z ≤ 11 → v ≤ 1800 →
       let g := if z % 2 = 1 ∧ (s.zone (z - 1)).paired = true then z - 1 else z
       DeskAnswers (.setLeadTime q z v) s
         (({ s.begin with jq := { s.jq with leads := s.jq.leads.set g v } } : State).lookIf
           (decide (v < s.jq.leads.getD g 0))) .done []))

/-! ### The stall map, the links and the cabinet (chapters 2 to 4) -/

/-- ENABLE STALL and DISABLE STALL (R36). OPEN ZONE, CLOSE ZONE and SET ZONE FLAGS write the governing zone; SET
WITHDRAWAL writes the zone named (R31, R37, R38, R59); that a flag's byte is 1 for set and 0 for clear is the model's
choice (DESIGN CHOICE, log entry 34). SET PREFERENCE replaces the tier's list whole, or is refused and keeps the old one
(R45). -/
def Obligations.StallAndZoneSettingsFollowTheirCommands : Prop :=
  (∀ (s : State) (q z i : Nat), s.running = true →
     (s.stall? z i = none →
       DeskReports (.enableStall q z i) s .badField [] ∧ DeskReports (.disableStall q z i) s .badField []) ∧
     ∀ x, s.stall? z i = some x →
       (x.enabled = true → DeskReports (.enableStall q z i) s .already []) ∧
       (x.enabled = false → DeskAnswers (.enableStall q z i) s
         ((s.begin.modStall z i fun y => { y with enabled := true }).serveDue) .done []) ∧
       (x.isFixed = true → DeskReports (.disableStall q z i) s .fixed []) ∧
       (x.isFixed = false → x.enabled = false → DeskReports (.disableStall q z i) s .already []) ∧
       (x.isFixed = false → x.enabled = true → DeskLeaves (.disableStall q z i) s
         (s.begin.modStall z i fun y => { y with enabled := false }) .done [])) ∧
  (∀ (s : State) (q z : Nat), s.running = true →
     let g := if z % 2 = 1 ∧ (s.zone (z - 1)).paired = true then z - 1 else z
     ((s.zone z).inLayout = false →
       DeskReports (.openZone q z) s .badField [] ∧ DeskReports (.closeZone q z) s .badField [] ∧
       (∀ n p, DeskReports (.setZoneFlags q z n p) s .badField []) ∧
       ∀ b, DeskReports (.setWithdrawal q z b) s .badField []) ∧
     ((s.zone z).inLayout = true →
       ((s.zone g).isOpen = true → DeskReports (.openZone q z) s .already []) ∧
       ((s.zone g).isOpen = false → DeskAnswers (.openZone q z) s
         ((s.begin.modZone g fun x => { x with isOpen := true }).serveDue) .done []) ∧
       ((s.zone g).isOpen = false → DeskReports (.closeZone q z) s .already []) ∧
       ((s.zone g).isOpen = true → DeskLeaves (.closeZone q z) s
         (s.begin.modZone g fun x => { x with isOpen := false }) .done []) ∧
       (∀ n p, 1 < n ∨ 1 < p → DeskReports (.setZoneFlags q z n p) s .badField []) ∧
       (∀ n p : Bool, DeskAnswers (.setZoneFlags q z n.toNat p.toNat) s
         ((s.begin.modZone g fun x => { x with night := n, spill := p }).serveIf
           ((p && !(s.zone g).spill) || (n && !(s.zone g).night && s.sa.state == .night))) .done []) ∧
       (∀ b, 1 < b → DeskReports (.setWithdrawal q z b) s .badField []) ∧
       (∀ b : Bool, (s.zone z).withdrawal = b → DeskReports (.setWithdrawal q z b.toNat) s .already []) ∧
       ∀ b : Bool, (s.zone z).withdrawal ≠ b → DeskAnswers (.setWithdrawal q z b.toNat) s
         ((s.begin.modZone z fun x => { x with withdrawal := b }).serveIf (!b)) .done [])) ∧
  (∀ (s : State) (q tier count : Nat) (zones : List Nat), s.running = true → zones.length = 12 →
     (3 < tier ∨ 12 < count ∨ (∃ z ∈ zones.take count, 11 < z) ∨ ¬(zones.take count).Nodup →
       DeskReports (.setPreference q tier count zones) s .badField []) ∧
     (tier ≤ 3 → count ≤ 12 → (∀ z ∈ zones.take count, z ≤ 11) → (zones.take count).Nodup →
       DeskAnswers (.setPreference q tier count zones) s
         (({ s.begin with sm := { s.sm with prefs := s.sm.prefs.set tier (zones.take count) } } : State).serveDue)
         .done []))

/-- SET PAIR and UNPAIR, with their checks in order; besides the serving pass (R39, R40), a permit that the new government
gains is a readiness event, the model's reading (DEDUCED, log entry 20). -/
def Obligations.PairsAreMadeAndBrokenClosed : Prop :=
  ∀ (s : State) (q z : Nat), s.running = true →
    (z % 2 = 1 ∨ (s.zone z).inLayout = false →
      DeskReports (.setPair q z) s .badField [] ∧ DeskReports (.unpair q z) s .badField []) ∧
    ((s.zone (z + 1)).inLayout = false → DeskReports (.setPair q z) s .badField []) ∧
    (z % 2 = 0 → (s.zone z).inLayout = true →
      ((s.zone (z + 1)).inLayout = true →
        ((s.zone z).paired = true → DeskReports (.setPair q z) s .already []) ∧
        ((s.zone z).paired = false →
          ((s.zone z).isOpen = true ∨ (s.zone (z + 1)).isOpen = true → DeskReports (.setPair q z) s .zoneOpen []) ∧
          ((s.zone z).isOpen = false → (s.zone (z + 1)).isOpen = false →
            let p := s.begin.modZone z fun x => { x with paired := true }
            DeskAnswers (.setPair q z) s (p.serveDue.lookIf (permitGained s p)) .done []))) ∧
      ((s.zone z).paired = false → DeskReports (.unpair q z) s .already []) ∧
      ((s.zone z).paired = true →
        ((s.zone z).isOpen = true → DeskReports (.unpair q z) s .zoneOpen []) ∧
        ((s.zone z).isOpen = false →
          let p := s.begin.modZone z fun x => { x with paired := false }
          DeskAnswers (.unpair q z) s (p.serveDue.lookIf (permitGained s p)) .done [])))

/-- SET SLOT and SET STALL SLOT (R34, R35), and the comparison they make at a held stall: MISFIT is set and raised when
the stall's grade has fallen below the record's, cleared when it is at least that, and otherwise the record is
unchanged. -/
def Obligations.GradeSlotsRegradeTheirStalls : Prop :=
  (∀ (s : State) (q : Nat), s.running = true →
     (∀ n v, (3 < n ∨ 15 < v) → DeskReports (.setSlot q n v) s .badField []) ∧
     (∀ n v, n ≤ 3 → v ≤ 15 →
       (s.sm.gradeSlots.getD n 0 = v → DeskReports (.setSlot q n v) s .done []) ∧
       (s.sm.gradeSlots.getD n 0 ≠ v →
         DeskAnswers (.setSlot q n v) s
           (((s.sm.zones.flatMap fun z => z.stalls.filter fun x => x.source == .slot n).foldl State.compareGrade
             { s.begin with sm := { s.sm with gradeSlots := s.sm.gradeSlots.set n v } }).serveDue) .done [])) ∧
     (∀ z i n, s.stall? z i = none ∨ 3 < n → DeskReports (.setStallSlot q z i n) s .badField []) ∧
     ∀ z i n x, s.stall? z i = some x → n ≤ 3 →
       (x.isFixed = true → DeskReports (.setStallSlot q z i n) s .fixed []) ∧
       (x.isFixed = false →
         (s.zoneOpen z = true → DeskReports (.setStallSlot q z i n) s .zoneOpen []) ∧
         (s.zoneOpen z = false →
           DeskAnswers (.setStallSlot q z i n) s
             ((s.begin.modStall z i fun y => { y with source := .slot n }).compareGrade { x with source := .slot n })
             .done []))) ∧
  (∀ (s : State) (x : Stall),
     (x.holder = none → s.compareGrade x = s) ∧
     ∀ t r, x.holder = some t → s.record? t = some r →
       (s.gradeOf x < r.grade → r.flags.misfit = false →
         s.compareGrade x =
           (s.modRecord t fun q => { q with flags := { q.flags with misfit := true } }).raise .misfit (some t)) ∧
       (r.grade ≤ s.gradeOf x → r.flags.misfit = true →
         s.compareGrade x = s.modRecord t fun q => { q with flags := { q.flags with misfit := false } }) ∧
       ((s.gradeOf x < r.grade ↔ r.flags.misfit = true) → s.compareGrade x = s))

/-- The commands that only read, each with the fields it returns, and their refusals; nothing changes beyond the response
slot (R53, R90, R108, R109, R128, R143, R160, R166). The layouts of what they return, and the one byte that answers for a hook
or a zone outside the layout, are the model's choice (DESIGN CHOICE, log entry 10). -/
def Obligations.ReadCommandsChangeNothing : Prop :=
  ∀ (s : State) (q : Nat), s.running = true →
    (∀ z, 11 < z → DeskReports (.readZone q z) s .badField []) ∧
    (∀ z, z ≤ 11 → (s.zone z).inLayout = false → DeskReports (.readZone q z) s .done [.flag false]) ∧
    (∀ z, z ≤ 11 → (s.zone z).inLayout = true → DeskReports (.readZone q z) s .done (s.zoneFields z)) ∧
    (∀ z i, s.stall? z i = none → DeskReports (.readStall q z i) s .badField []) ∧
    (∀ z i x, s.stall? z i = some x → DeskReports (.readStall q z i) s .done (s.stallFields z x)) ∧
    DeskReports (.readWaitList q) s .done
      ([.half s.sm.waitList.length] ++ s.sm.waitList.flatMap s.waitFields) ∧
    (∀ h, 1023 < h → DeskReports (.readHook q h) s .badField []) ∧
    (∀ h, h ≤ 1023 → s.hook? h = none → DeskReports (.readHook q h) s .done [.byte 5]) ∧
    (∀ h k, h ≤ 1023 → s.hook? h = some k → DeskReports (.readHook q h) s .done (s.hookFields h k)) ∧
    DeskReports (.readLeadTimes q) s .done (s.jq.leads.map fun n => .word (BitVec.ofNat 32 n)) ∧
    (∀ p, 63 < p → p ≠ 255 → DeskReports (.readQueue q p) s .badField []) ∧
    (∀ p, p ≤ 63 ∨ p = 255 →
      let first := if p = 255 then 0 else p
      let page := (s.jq.entries.drop first).take 8
      DeskReports (.readQueue q p) s .done
        ([.half s.jq.entries.length, .half s.kerbCount, .half s.usableBays, .half page.length] ++
          (page.mapIdx fun i e => s.entryFields (first + i) e).flatten)) ∧
    DeskReports (.readRoster q) s .done ((List.range 32).flatMap s.rosterFields ++
      [.half s.dr.idle.length, .word (BitVec.ofNat 32 s.dr.ackTime)]) ∧
    DeskReports (.readKerb q) s .done (s.km.lanes.flatMap Lane.fields ++ s.km.bays.flatMap s.bayFields ++
      [.half s.usableBays, .half s.stagedCount, .half s.fetchesOut, .half s.kerbCount,
       .word (BitVec.ofNat 32 s.km.dwellTime)]) ∧
    DeskReports (.readStatus q) s .done s.statusFields ∧
    DeskReports (.readAttention q) s .done s.sa.attentionFields

/-! ### Calls, the queue and the kerb (chapters 5 and 7) -/

/-- CALL from both ports: refused in order, an upgrade of a standing call, or a new call (R98, R99, R127). A handset's sender
must be the acting attendant. What an upgrade leaves: the entry with the new tier at the place its values give, the call field
with that tier, everything else as it was (R99). -/
def Obligations.CallsAreRefusedInOrderOrTaken : Prop :=
  (∀ (s : State) (t tierByte e : Nat) (due : OptWord) (dueTime : Option Time) (r : Record),
     (tierByte ≤ 3 ∨ tierByte = 255) → dueOf due = some dueTime →
     let tier := if tierByte = 255 then none else some tierByte
     let ruled (source : Source) (refused : Answer → Prop) (taken : (State → State) → Prop) : Prop :=
       let call : CallField :=
         { tier := if tierByte = 255 then r.tier else tierByte, due := dueTime, time := s.sa.clock, source := source }
       (r.state = .fetching ∨ r.state = .staged ∨ r.state = .suspended ∨
           (r.state = .inbound ∧ s.hasEntry t .move = true) → refused .wrongState) ∧
       (r.state ≠ .fetching → r.state ≠ .staged → r.state ≠ .suspended →
           ¬(r.state = .inbound ∧ s.hasEntry t .move = true) →
         (∀ x, s.entry? t = some x → x.kind = .fetch →
           (tier = none ∨ x.tier ≤ tierByte → refused .already) ∧
           (tier ≠ none → tierByte < x.tier → taken fun q => q.upgradeCall t tierByte)) ∧
         (∀ x, s.entry? t = some x → x.kind = .move → taken fun q => q.newCall r call) ∧
         (s.entry? t = none →
           (64 ≤ s.jq.entries.length → refused .queueFull) ∧
           (s.jq.entries.length < 64 → taken fun q => q.newCall r call)))
     (∀ q, DeskNames s t e r →
       let c := Instr.call (.desk q) t tierByte due e
       ruled .desk (fun a => DeskReports c s a []) fun f => DeskAnswers c s (f s.begin) .done []) ∧
     ∀ h a, HandsetNames s h a t r →
       let c := Instr.call (.handset h) t tierByte due e
       (¬MayAct s a r → HandsetAnswers c s .notYours (some t) [] id) ∧
       (MayAct s a r →
         ruled .handset (fun x => HandsetAnswers c s x (some t) [] id) fun f => HandsetAnswers c s .done (some t) [] f)) ∧
  ∀ (s : State) (t tier : Nat) (x : Entry) (r : Record), s.entry? t = some x → s.record? t = some r →
    let q := s.upgradeCall t tier
    q.entry? t = some { x with tier := tier } ∧ (QueueOrdered s → QueueOrdered q) ∧
    q.record? t = some { r with call := r.call.map fun c => { c with tier := tier } } ∧
    (∀ u, u ≠ t → q.entry? u = s.entry? u ∧ q.record? u = s.record? u) ∧
    q.sm = s.sm ∧ q.kc = s.kc ∧ q.dr = s.dr ∧ q.km = s.km ∧ q.lk = s.lk ∧ q.sa = s.sa ∧ q.due.look = true

/-- What a new call does to its record and to the queue, by the record's state (R12, R99, R100): a STORED record keeps its
stall, a WAITING one leaves the wait list, a GRANTED one gives its MOVE entry and its stall up, an INBOUND one stays. The
FETCH entry is QUEUED, ordered by the due time where there is one and by the call time where not (R94). -/
def Obligations.NewCallMakesTheRecordCalledWithAFetchEntry : Prop :=
  ∀ (s : State) (r : Record) (call : CallField), s.record? r.ticket = some r →
    r.state = .stored ∨ r.state = .waiting ∨ r.state = .granted ∨ r.state = .inbound →
    (r.state ≠ .granted → s.entry? r.ticket = none) →
    let q := s.newCall r call
    (∃ r', q.record? r.ticket = some r' ∧ r'.call = some call ∧
      r'.state = (if r.state = .inbound then .inbound else .called) ∧
      (r.state = .granted → r'.stall = none) ∧ (r.state ≠ .granted → r'.stall = r.stall)) ∧
    (r.state = .waiting → r.ticket ∉ q.sm.waitList) ∧
    q.entry? r.ticket = some
      { kind := .fetch, ticket := r.ticket, slot := r.slot, status := .queued, attendant := none, tier := call.tier,
        time := call.due.getD call.time, due := call.due }

/-- CANCEL CALL from both ports: refused in order, or taken (R101, R127). What a taken one leaves (R13, R96, R124): the entry is
gone and the call field absent; a CALLED record with a stall is STORED in it, one without is WAITING at the tail of the wait
list with WAITLISTED raised, an INBOUND one stays INBOUND; an attendant offered the entry is IDLE at the front, told
WITHDRAWN with reason 0; no other record, entry, hook or stall holder changes. -/
def Obligations.CancelCallUndoesAStandingCall : Prop :=
  (∀ (s : State) (t e : Nat) (r : Record),
     let ruled (refused : Answer → Prop) (taken : Prop) : Prop :=
       (s.entry? t = none → refused .wrongState) ∧
       ∀ x, s.entry? t = some x →
         (x.kind = .move → refused .wrongState) ∧
         (x.kind = .fetch →
           (x.status = .taken → refused .tooLate) ∧
           (x.status ≠ .taken →
             (r.state = .called → r.stall = none → 24 ≤ s.sm.waitList.length → refused .waitlistFull) ∧
             (¬(r.state = .called ∧ r.stall = none ∧ 24 ≤ s.sm.waitList.length) → taken)))
     (∀ q, DeskNames s t e r →
       let c := Instr.cancelCall (.desk q) t e
       ruled (fun a => DeskReports c s a []) (DeskAnswers c s (s.begin.cancelCall r) .done [])) ∧
     ∀ h a, HandsetNames s h a t r →
       let c := Instr.cancelCall (.handset h) t e
       (¬MayAct s a r → HandsetAnswers c s .notYours (some t) [] id) ∧
       (MayAct s a r →
         ruled (fun x => HandsetAnswers c s x (some t) [] id)
           (HandsetAnswers c s .done (some t) [] fun q => q.cancelCall r))) ∧
  ∀ (s : State) (r : Record) (x : Entry), s.record? r.ticket = some r → s.entry? r.ticket = some x → x.kind = .fetch →
    x.status ≠ .taken →
    let t := r.ticket
    let q := s.cancelCall r
    let undone : Record := { r with call := none, parkMark := false, keyMark := false, park := none }
    (q.entry? t = none ∧ (∀ u, u ≠ t → q.entry? u = s.entry? u ∧ q.record? u = s.record? u) ∧ q.due.serve = true ∧
      q.kc = s.kc ∧ ∀ z i, (q.stall? z i).map Stall.holder = (s.stall? z i).map Stall.holder) ∧
    (r.state = .called → r.stall ≠ none →
      q.record? t = some { undone with state := .stored } ∧ q.sm.waitList = s.sm.waitList) ∧
    (r.state = .called → r.stall = none →
      q.record? t = some { undone with state := .waiting } ∧ q.sm.waitList = s.sm.waitList ++ [t] ∧
        (s.sa.causes.length = 14 → (q.sa.cell .waitlisted).latch = true)) ∧
    (r.state = .inbound → q.record? t = some { r with call := none } ∧ q.sm.waitList = s.sm.waitList) ∧
    (x.status = .queued → q.dr = s.dr ∧ q.lk = s.lk) ∧
    ∀ a, x.status = .offered → x.attendant = some a → q.dr = (s.idleFront a).dr ∧ WithdrawnSent s a t 0 q.lk.tx

/-- ENABLE BAY, DISABLE BAY, SET BAY FLAGS and CLEAR LANE; a rise of the usable bays is a readiness event (R132, R135,
R136); that a flag's byte is 1 for set and 0 for clear is the model's choice (DESIGN CHOICE, log entry 34). BEGIN PANEL
SERVICE and END PANEL SERVICE, with their checks in order; leaving service is a readiness event (R87, R89, R107). The
required latch position by the hook's state and its panel (R71). A change of a hook's entry that changes the required
position sends set latch, makes the position the latch pending and starts the 2 s repeat, and one that does not sends
nothing, the model's reading (R71; DEDUCED, log entry 19). A panel that enters or leaves service does the same at each
of its hooks, and nothing at another panel's (R87, R89). -/
def Obligations.BaysLanesAndPanelsFollowTheirCommands : Prop :=
  (∀ (s : State) (q b : Nat), s.running = true →
     let sets (c : Instr) (f : Bay → Bay) : Prop :=
       let p := s.begin.modBay b f
       DeskAnswers c s (p.lookIf (decide (s.usableBays < p.usableBays))) .done []
     ((s.bay b).inLayout = false →
       DeskReports (.enableBay q b) s .badField [] ∧ DeskReports (.disableBay q b) s .badField [] ∧
       ∀ n, DeskReports (.setBayFlags q b n) s .badField []) ∧
     ((s.bay b).inLayout = true →
       ((s.bay b).enabled = true → DeskReports (.enableBay q b) s .already []) ∧
       ((s.bay b).enabled = false → sets (.enableBay q b) fun x => { x with enabled := true }) ∧
       ((s.bay b).enabled = false → DeskReports (.disableBay q b) s .already []) ∧
       ((s.bay b).enabled = true → sets (.disableBay q b) fun x => { x with enabled := false }) ∧
       (∀ n, 1 < n → DeskReports (.setBayFlags q b n) s .badField []) ∧
       ∀ n : Bool, sets (.setBayFlags q b n.toNat) fun x => { x with night := n }) ∧
     ∀ l, (1 < l → DeskReports (.clearLane q l) s .badField []) ∧
       (l ≤ 1 → (s.lane l).fifo = [] → DeskReports (.clearLane q l) s .already []) ∧
       (l ≤ 1 → (s.lane l).fifo ≠ [] →
         DeskLeaves (.clearLane q l) s (s.begin.modLane l fun x => { x with fifo := [] }) .done [])) ∧
  (∀ (s : State) (q p : Nat), s.running = true →
     ((s.panel p).inLayout = false →
       DeskReports (.beginPanelService q p) s .badField [] ∧ DeskReports (.endPanelService q p) s .badField []) ∧
     ((s.panel p).inLayout = true →
       ((s.panel p).inService = true → DeskReports (.beginPanelService q p) s .already []) ∧
       ((s.panel p).inService = false →
         ((∃ k ∈ (s.panel p).hooks, k.state = .opened) → DeskReports (.beginPanelService q p) s .panelBusy []) ∧
         ((∀ k ∈ (s.panel p).hooks, k.state ≠ .opened) →
           DeskLeaves (.beginPanelService q p) s (s.begin.setPanelService p true) .done [])) ∧
       ((s.panel p).inService = false → DeskReports (.endPanelService q p) s .already []) ∧
       ((s.panel p).inService = true →
         DeskAnswers (.endPanelService q p) s ((s.begin.setPanelService p false).lookDue) .done []))) ∧
  (∀ (k : Hook) (service : Bool),
     (k.required service = .closed ↔ service = false ∧
       (k.state = .held ∨ (k.state = .opened ∧ (k.phase = .closing ∨ k.phase = .ending)))) ∧
     (k.required service ≠ .closed → k.required service = .opened)) ∧
  (∀ (s : State) (h : Nat) (k : Hook) (f : Hook → Hook), s.hook? h = some k →
     let q := s.updHook h f
     let position := (f k).required (s.hookInService h)
     (position = k.required (s.hookInService h) → q.hook? h = some (f k) ∧ q.kc.sent = s.kc.sent) ∧
     (position ≠ k.required (s.hookInService h) →
       q.hook? h = some { f k with latch := some position, repeatTimer := some ⟨0, 2⟩ } ∧
         q.kc.sent = s.kc.sent ++ [⟨h, position⟩]) ∧
     ∀ g, g ≠ h → q.hook? g = s.hook? g) ∧
  ∀ (s : State) (p : Nat) (b : Bool), p < s.kc.panels.length → (s.panel p).hooks.length ≤ 256 →
    let q := s.setPanelService p b
    let moves (k : Hook) : Prop := k.required b ≠ k.required (s.panel p).inService
    (q.panel p).inService = b ∧ (q.panel p).inLayout = (s.panel p).inLayout ∧
    (∀ n, n ≠ p → q.panel n = s.panel n) ∧
    (∀ h k, h / 256 = p → s.hook? h = some k →
      (¬moves k → q.hook? h = some k) ∧
      (moves k → q.hook? h = some { k with latch := some (k.required b), repeatTimer := some ⟨0, 2⟩ })) ∧
    ∀ m, m ∈ q.kc.sent ↔ m ∈ s.kc.sent ∨
      ∃ k, m.hook / 256 = p ∧ s.hook? m.hook = some k ∧ moves k ∧ m.latch = k.required b

/-! ### Site, attention, layout and service (chapters 8 to 10) -/

/-- CAPTURE SITE samples the straps once, SITE0 as the low digit, and answers ALREADY with the stored value after that;
the captured value stays through every command until a power-on (R146). -/
def Obligations.SiteIdentityIsCapturedOnceUntilPowerOn : Prop :=
  (∀ (s : State) (q : Nat) (site0 site1 : Bool), s.running = true →
     (s.lk.siteFixed = true → DeskReports (.captureSite q site0 site1) s .already [.byte s.lk.siteId]) ∧
     (s.lk.siteFixed = false →
       let v := site0.toNat + 2 * site1.toNat
       DeskLeaves (.captureSite q site0 site1) s
         { s.begin with
           lk := { s.lk with siteId := v, siteFixed := true }, pw := { s.pw with site0 := site0, site1 := site1 } }
         .done [.byte v])) ∧
  (∀ (c : Instr) (s t : State), exec c s = .next t → s.lk.siteFixed = true →
     (∀ b, c ≠ .powerOn b) → (c = .mainSupplyReturn → s.pw.lost = false) →
     t.lk.siteFixed = true ∧ t.lk.siteId = s.lk.siteId)

/-- The attention line (R164) is asserted exactly when the master enable is on and an enabled latch is set; it is
deasserted at power-on; a read of the causes leaves every latch and the line. A raising (R162) at the fourteen causes:
on a clear latch it sets the latch, whatever the enables, with its subject, and becomes the first cause if that was
empty; on a set latch nothing changes; no other cause changes. CLEAR ATTENTION
(R167): an empty set or a cause beyond the fourteen is BAD_FIELD; a set whose latches are all clear is ALREADY; otherwise each
named latch clears with its first subject, and the first cause becomes empty if it names one of them. -/
def Obligations.AttentionLineAndLatchesFollowRaisings : Prop :=
  ((∀ sa : Service, sa.line = true ↔ sa.master = true ∧ ∃ k ∈ sa.causes, k.latch = true ∧ k.enable = true) ∧
     (∀ pw pending, (State.poweredOn pw pending).sa.line = false) ∧
     ∀ (s t : State) (q : Nat), exec (.readAttention q) s = .next t → t.sa = s.sa) ∧
  (∀ (sa : Service) (c : Cause) (x : Option Nat), sa.causes.length = 14 →
     ((sa.cell c).latch = true → sa.raise c x = sa) ∧
     ((sa.cell c).latch = false →
       (sa.raise c x).cell c = { sa.cell c with latch := true, subject := x } ∧
       (sa.raise c x).first = (match sa.first with | none => some c | some f => some f) ∧
       (sa.raise c x).state = sa.state ∧ (sa.raise c x).master = sa.master) ∧
     ∀ d, d ≠ c → (sa.raise c x).cell d = sa.cell d) ∧
  ∀ (s : State) (q set : Nat), s.running = true → s.sa.causes.length = 14 →
    (set = 0 ∨ 16384 ≤ set → DeskReports (.clearAttention q set) s .badField []) ∧
    (set ≠ 0 → set < 16384 →
      ((∀ c : Cause, set.testBit c.index = true → (s.sa.cell c).latch = false) →
        DeskReports (.clearAttention q set) s .already []) ∧
      ((∃ c : Cause, set.testBit c.index = true ∧ (s.sa.cell c).latch = true) →
        ∃ sa, DeskLeaves (.clearAttention q set) s { s.begin with sa := sa } .done [] ∧
          (∀ c : Cause, sa.cell c =
            if set.testBit c.index then { s.sa.cell c with latch := false, subject := none } else s.sa.cell c) ∧
          sa.first = (s.sa.first.bind fun c => if set.testBit c.index then none else some c) ∧
          sa.master = s.sa.master ∧ sa.state = s.sa.state ∧ sa.clock = s.sa.clock ∧ sa.elapsed = s.sa.elapsed ∧
          sa.recovery = s.sa.recovery))

/-- SET ATTENTION ENABLES (R165): the fourteen enables and the master enable are written, and no latch, first subject or
first cause changes; the line follows R164 at once. -/
def Obligations.AttentionEnablesAreWrittenTogether : Prop :=
  ∀ (s : State) (q set : Nat), s.running = true → s.sa.causes.length = 14 →
    (∀ m, 1 < m ∨ 16384 ≤ set → DeskReports (.setAttentionEnables q set m) s .badField []) ∧
    (set < 16384 → ∀ m : Bool,
      ∃ sa, DeskLeaves (.setAttentionEnables q set m.toNat) s { s.begin with sa := sa } .done [] ∧
        (∀ c : Cause, sa.cell c = { s.sa.cell c with enable := set.testBit c.index }) ∧ sa.master = m ∧
        sa.first = s.sa.first ∧ sa.state = s.sa.state ∧ sa.clock = s.sa.clock ∧ sa.elapsed = s.sa.elapsed ∧
        sa.recovery = s.sa.recovery ∧
        (sa.line = true ↔ m = true ∧ ∃ c : Cause, (sa.cell c).latch = true ∧ (sa.cell c).enable = true))

/-- The layout commands outside COMMISSIONING are refused LAYOUT_FIXED, whatever their fields; in COMMISSIONING, what
each defines, and its refusals; FREEZE LAYOUT in every state (R174 to R177). A bay that DEFINE BAYS does not name is
left disabled and not night-flagged, with its loop's level, no holder and no timer, the model's choice (DESIGN CHOICE, log
entry 13); one it names anew is enabled (R133), one named before stays as it was. DEFINE ZONE leaves the zone and its stalls
at their creation values, its link NEVER, and no pair with the zone below it, and every other zone as it was but for
that pair (R30, R32). -/
def Obligations.LayoutIsDefinedUntilFrozen : Prop :=
  (∀ (s : State) (q : Nat), s.running = true → s.sa.state ≠ .commissioning →
     (∀ z n, DeskReports (.defineZone q z n) s .layoutFixed []) ∧
     (∀ z i a g, DeskReports (.defineFixedStall q z i a g) s .layoutFixed []) ∧
     (∀ p, DeskReports (.definePanel q p) s .layoutFixed []) ∧
     ∀ b, DeskReports (.defineBays q b) s .layoutFixed []) ∧
  (∀ (s : State) (q : Nat), s.running = true →
     (s.sa.state ≠ .commissioning → DeskReports (.freezeLayout q) s .already []) ∧
     (s.sa.state = .commissioning →
       let named (inLayout : Bool) (x : Bay) : Bay :=
         if inLayout = true ∧ x.inLayout = true then x
         else { inLayout := inLayout, enabled := inLayout, night := false, loop := x.loop, holder := none, dwell := none
                driveOff := none }
       DeskLeaves (.freezeLayout q) s { s.begin with sa := { s.sa with state := .closed } } .done [] ∧
       (∀ z n, 11 < z ∨ 96 < n ∨ 960 < n + s.otherStalls z → DeskReports (.defineZone q z n) s .badField []) ∧
       (∀ z n, z ≤ 11 → n ≤ 96 → n + s.otherStalls z ≤ 960 →
         DeskLeaves (.defineZone q z n) s (s.begin.defineZone z n) .done []) ∧
       (∀ z i a g, s.stall? z i = none ∨ 2 < a ∨ 15 < g → DeskReports (.defineFixedStall q z i a g) s .badField []) ∧
       (∀ z i x (a : Need) g, s.stall? z i = some x → g ≤ 15 →
         DeskLeaves (.defineFixedStall q z i a.code g) s
           (s.begin.modStall z i fun y => { y with source := .fixed g, attr := a, enabled := true }) .done []) ∧
       (∀ p, 3 < p → DeskReports (.definePanel q p) s .badField []) ∧
       (∀ p, p ≤ 3 → (s.panel p).inLayout = true → DeskReports (.definePanel q p) s .already []) ∧
       (∀ p, p ≤ 3 → (s.panel p).inLayout = false →
         DeskLeaves (.definePanel q p) s
           (s.begin.modPanel p fun _ =>
             { inLayout := true, inService := false, hooks := List.replicate 256 Hook.created }) .done []) ∧
       (∀ b, 255 < b → DeskReports (.defineBays q b) s .badField []) ∧
       ∀ b, b ≤ 255 →
         DeskLeaves (.defineBays q b) s
           { s.begin with km := { s.km with bays := s.km.bays.mapIdx fun i x => named (b.testBit i) x } } .done [])) ∧
  (∀ (s : State) (z n : Nat), z < s.sm.zones.length → z < s.zl.links.length →
     let q := s.defineZone z n
     q.zone z = { inLayout := true, isOpen := false, night := false, spill := false, paired := false, withdrawal := true,
                  stalls := List.replicate n
                    { source := .slot 1, attr := .none, enabled := true, sensed := .unknown, vacantRun := 0,
                      occupiedRun := 0, holder := none, stray := false } } ∧
     q.link z = { link := .never, silence := none } ∧
     (z % 2 = 1 → q.zone (z - 1) = { s.zone (z - 1) with paired := false }) ∧
     ∀ y, y ≠ z → (z % 2 = 1 → y ≠ z - 1) → q.zone y = s.zone y)

/-- SET SERVICE STATE (R172, R173): refused in order; leaving NIGHT is a serving trigger and a readiness event, and a
state that becomes OPEN or NIGHT is an event for the arbiter; that OPEN to NIGHT and NIGHT to OPEN are such events is
the model's reading (DEDUCED, log entry 21). CLEAR SITE (R178): its checks in order, what it returns to power-on values
and what it keeps; that CHAIN_OUT keeps its level, and what stands in a bay outside the layout, are the model's choice
(DESIGN CHOICE, log entries 3 and 13). -/
def Obligations.ServiceStateMovesAndClearSiteReturns : Prop :=
  (∀ (s : State) (q n : Nat), s.running = true →
     (s.sa.state = .commissioning ∨ s.sa.state = .recovery → DeskReports (.setServiceState q n) s .closed []) ∧
     (s.sa.state ≠ .commissioning → s.sa.state ≠ .recovery →
       (n = 0 ∨ 3 < n → DeskReports (.setServiceState q n) s .badField []) ∧
       (n = s.sa.state.code → DeskReports (.setServiceState q n) s .already []) ∧
       ∀ st : ServiceState, st = .closed ∨ st = .opened ∨ st = .night → st ≠ s.sa.state →
         DeskAnswers (.setServiceState q st.code) s
           ((({ s.begin with sa := { s.sa with state := st } } : State).serveIf (s.sa.state == .night)).lookIf
             (s.sa.state == .night || st == .opened || st == .night)) .done [])) ∧
  (∀ (s : State) (q v : Nat), s.running = true →
     (s.sa.state ≠ .closed → DeskReports (.clearSite q v) s .closed []) ∧
     (s.sa.state = .closed →
       (v ≠ 0x5A3C → DeskReports (.clearSite q v) s .badField []) ∧
       (v = 0x5A3C → s.ct.records ≠ [] → DeskReports (.clearSite q v) s .busy []) ∧
       (v = 0x5A3C → s.ct.records = [] →
         DeskLeaves (.clearSite q v) s
           { s.begin with
             ct := { s.ct with cursor := 0, parkLimit := 900 }, sm := State.reset.sm, zl := State.reset.zl
             kc := State.reset.kc, jq := State.reset.jq, dr := State.reset.dr
             km := Kerb.powerOn s.pw.lanes s.pw.bays, lk := { s.lk with tx := [], mask := 0 }
             sa := { s.sa with
               causes := s.sa.causes.map fun k => { k with latch := false, subject := none }
               first := none, state := .commissioning, recovery := none } } .done [])))

/-- SET CLOCK, SET CHAIN MASK and the ramp chain's edges: a write of the clock is a readiness event; a permit newly held is a
serving trigger and a readiness event (R42, R179, R181, R182). -/
def Obligations.ClockAndChainAreWritten : Prop :=
  ∀ s : State, s.running = true →
    (∀ q v, v < 4294967296 → DeskAnswers (.setClock q v) s
      (({ s.begin with sa := { s.sa with clock := BitVec.ofNat 32 v } } : State).lookDue) .done []) ∧
    (∀ q m, 4096 ≤ m → DeskReports (.setChainMask q m) s .badField []) ∧
    (∀ q m, m < 4096 →
      let p : State := { s.begin with lk := { s.lk with mask := BitVec.ofNat 12 m } }
      DeskAnswers (.setChainMask q m) s ((p.serveIf (permitGained s p)).lookIf (permitGained s p)) .done []) ∧
    (let p : State := { s.begin with lk := { s.lk with permits := s.lk.shift } }
     EventLeaves .chainLoad s ((p.serveIf (permitGained s p)).lookIf (permitGained s p))) ∧
    ∀ level, ∃ t, exec (.chainClkRisingEdge level) s = .next t ∧ t.lk.permits = s.lk.permits ∧
      t.lk.chainOut = s.lk.shift.getLsbD 11 ∧
      (∀ i < 12, t.lk.shift.getLsbD i = if i = 0 then level else s.lk.shift.getLsbD (i - 1)) ∧
      t = { s.begin with lk := t.lk, pw := { s.pw with chainIn := level } } ∧
      t.lk = { s.lk with shift := t.lk.shift, chainOut := t.lk.chainOut }

/-- What a warm restart leaves (R184), block by block: `p` is the state before the serving pass. Custody Table: the
fields of the records that the reconciliation does not touch, the counter, the park limit; the LIST cursor 0 (R25, R29).
Stall Map: kept, but every stall UNKNOWN with runs 0 (R67). Links: NEVER, timers stopped (R67). Cabinet: bindings, stray
tags, FORCED and, outside a window, state and attendant kept; windows ended; custody timers of R83; no panel in service;
set latch sent for every hook (R91). Queue: the entries of R110, all QUEUED, and the lead table. Roster OFF (R129).
Kerb: FIFOs empty, loops read, timers of held bays started (R144). Links, latches and RECOVERY (R156, R169, R170, R180,
R181, R186). That CHAIN_OUT keeps its level is log entry 3, the empty kept idle-since of a roster entry log entry 14
(DESIGN CHOICE). Then the one serving pass, where a stall has become offerable (R67) or a trigger of R50 fell in the
restart; which triggers a restart brings is the model's reading (DEDUCED, log entry 22). -/
def Obligations.WarmRestartResetsWhatIsVolatile : Prop :=
  ∀ s : State,
    let p := s.restarted
    let fixed (r : Record) :=
      (r.slot, r.ticket, r.grade, r.need, r.tier, r.plate, r.folio, r.stall, r.hook, r.bay, r.arrival, r.accepted, r.reparks)
    (p.ct.records.map fixed = s.ct.records.map fixed ∧ p.ct.cursor = 0 ∧ p.ct.counter = s.ct.counter ∧
      p.ct.parkLimit = s.ct.parkLimit) ∧
    p.sm = { s.sm with zones := s.sm.zones.map fun z =>
      { z with stalls := z.stalls.map fun x => { x with sensed := .unknown, vacantRun := 0, occupiedRun := 0 } } } ∧
    p.zl = { s.zl with links := s.zl.links.map fun _ => { link := .never, silence := none } } ∧
    (p.kc.windowTime = s.kc.windowTime ∧ p.kc.custodyLimit = s.kc.custodyLimit ∧
      (∀ n, (p.panel n).inLayout = (s.panel n).inLayout ∧ (p.panel n).inService = false ∧
        (p.panel n).hooks.length = (s.panel n).hooks.length) ∧
      (∀ h k, s.hook? h = some k →
        let ended : Prop := k.state = .opened ∨ (k.state = .held ∧ k.phase = .running)
        let timed : Prop := k.state = .out ∧ k.attendant ≠ none ∧
          ∃ t r, k.bound = some t ∧ s.record? t = some r ∧ r.state ≠ .staged
        let quiet : Hook := { k with window := none, warned := false, overdue := false, repeatTimer := some ⟨0, 2⟩ }
        (ended → p.hook? h = some { quiet with
          state := .held, phase := .none, count := 0, attendant := none, custody := none, latch := some .closed }) ∧
        (¬ended → timed → p.hook? h = some { quiet with custody := some ⟨0, s.kc.custodyLimit⟩, latch := some .opened }) ∧
        (¬ended → ¬timed → p.hook? h = some { quiet with
          custody := none, latch := some (if k.state = .held then .closed else .opened) })) ∧
      ((∀ q ∈ s.kc.panels, q.hooks.length ≤ 256) →
        ∀ m, m ∈ p.kc.sent ↔ ∃ k, p.hook? m.hook = some k ∧ k.latch = some m.latch)) ∧
    (p.jq.leads = s.jq.leads ∧ QueueOrdered p ∧
      (TableSound s → ∀ r ∈ p.ct.records,
        let entry (kind : JobKind) (tier : Nat) (time : Time) (due : Option Time) : Entry :=
          { kind := kind, ticket := r.ticket, slot := r.slot, status := .queued, attendant := none, tier := tier
            time := time, due := due }
        (∀ c, r.call = some c → r.state = .called ∨ r.state = .inbound →
          p.entry? r.ticket = some (entry .fetch c.tier (c.due.getD c.time) c.due)) ∧
        (r.state = .granted → p.entry? r.ticket = some (entry .move r.tier s.sa.clock none)) ∧
        (r.state ≠ .granted → r.call = none ∨ (r.state ≠ .called ∧ r.state ≠ .inbound) → p.entry? r.ticket = none)) ∧
      ∀ e ∈ p.jq.entries, e.status = .queued ∧ e.attendant = none ∧ ∃ r ∈ p.ct.records, r.ticket = e.ticket) ∧
    p.dr = { attendants := s.dr.attendants.map fun _ => Attendant.off, idle := [], ackTime := s.dr.ackTime } ∧
    (p.km.dwellTime = s.km.dwellTime ∧
      (∀ l < s.km.lanes.length, p.lane l = { loop := s.pw.lanes.getD l false, fifo := [] }) ∧
      ∀ b < s.km.bays.length, p.bay b = { s.bay b with
        loop := s.pw.bays.getD b false
        dwell := if (s.bay b).holder = none then none else some ⟨0, s.km.dwellTime⟩
        driveOff := if (s.bay b).holder = none ∨ s.pw.bays.getD b false = true then none else some ⟨0, 20⟩ }) ∧
    p.lk = { s.lk with tx := [], response := none, shift := 0, permits := 0 } ∧
    (p.sa.clock = s.sa.clock ∧ p.sa.elapsed = 0 ∧ p.sa.master = s.sa.master ∧ p.sa.first = some .restarted ∧
      (s.sa.causes.length = 14 → ∀ c, p.sa.cell c =
        { latch := c == .restarted, enable := (s.sa.cell c).enable, subject := none }) ∧
      (let zones := (List.range 12).filter fun z => (s.zone z).inLayout
       (s.sa.state = .commissioning → p.sa.state = .commissioning ∧ p.sa.recovery = none) ∧
       (s.sa.state ≠ .commissioning → zones = [] → p.sa.state = .closed ∧ p.sa.recovery = none) ∧
       (s.sa.state ≠ .commissioning → zones ≠ [] → p.sa.state = .recovery ∧
         p.sa.recovery = some { timer := ⟨0, s.zl.silenceTime⟩, unheard := zones }))) ∧
    (p.pw = s.pw ∧ p.pending = s.pending) ∧
    (let gained : Prop := ∃ z < 12, ∃ i x, p.stall? z i = some x ∧ p.offerable z x = true ∧
       ∀ y, s.stall? z i = some y → s.offerable z y = false
     let unsensed : Prop := ∃ z ∈ s.sm.zones, z.withdrawal = false ∧ ∃ x ∈ z.stalls, x.sensed ≠ .unknown
     let gone : Prop := ∃ e ∈ s.jq.entries, p.entry? e.ticket = none
     let serves : Prop := gained ∨ unsensed ∨ s.sa.state = .night ∨ gone
     (serves → s.warmRestart = { p.servePass with due := { serve := false, look := false } }) ∧
     (¬serves → s.warmRestart = { p with due := { serve := false, look := false } })) ∧
    (let q := s.warmRestart
     q.zl = p.zl ∧ q.kc = p.kc ∧ q.dr = p.dr ∧ q.km = p.km ∧ q.lk = p.lk ∧ q.sa.state = p.sa.state ∧
       q.sa.recovery = p.sa.recovery ∧ q.sa.first = some .restarted ∧ q.jq.leads = p.jq.leads ∧
       ∀ z i x t, p.stall? z i = some x → x.holder = some t → q.stall? z i = some x)

/-- Reconciliation at a warm restart (R25), for every live record, from its hook: `r'` is the record before the serving pass, and
after it too where the record is not on the wait list. An INBOUND record without a MOVE entry is reconciled whatever the state
of its hook; a WAITING record is among those of any other state. -/
def Obligations.WarmRestartReconcilesRecordsAgainstHooks : Prop :=
  ∀ (s : State) (r : Record) (k : Hook), TableSound s → r ∈ s.ct.records → s.hook? r.hook = some k →
    let move : Prop := ∃ e ∈ s.jq.entries, e.ticket = r.ticket ∧ e.kind = .move
    ∃ r', s.restarted.record? r.ticket = some r' ∧
      (r.ticket ∉ s.sm.waitList → s.warmRestart.record? r.ticket = some r') ∧
      r'.stall = r.stall ∧ r'.flags.keyOverdue = false ∧
      (r.state = .fetching → k.state = .out →
        r'.state = .suspended ∧ r'.reason = some .restart ∧ r'.call = none ∧ r'.attendant = k.attendant) ∧
      (r.state = .fetching → k.state = .held ∨ k.state = .opened →
        r'.state = .called ∧ r'.call = r.call ∧ r'.attendant = none) ∧
      (r.state = .inbound → move → k.state = .held ∨ k.state = .opened →
        r'.state = .granted ∧ r'.parkMark = false ∧ r'.keyMark = false ∧ r'.flags.inboundLate = false ∧
          r'.attendant = none) ∧
      (r.state = .inbound → ¬move ∨ k.state = .out →
        r'.state = .inbound ∧ r'.attendant = none ∧ r'.call = r.call ∧ r'.parkMark = r.parkMark ∧
          r'.keyMark = r.keyMark ∧ r'.park = some ⟨0, s.ct.parkLimit, false⟩) ∧
      (r.state ≠ .fetching → r.state ≠ .inbound →
        r' = { r with
          flags := { r.flags with keyOverdue := false }
          attendant := if r.state = .suspended then r.attendant else none })

/-! ### The handset messages (chapters 6 and 8) -/

/-- SIGN_ON, SIGN_OFF, BREAK and READY (R114 to R116); and the two ways into the idle list and the way out of it (R113):
at the back with the elapsed count as idle-since; at the front with the idle-since kept, before the first attendant with
a later one, so behind those with an equal one, the model's reading (DEDUCED, log entry 29), the values compared as the
numbers they are, the model's choice where the elapsed count has wrapped (DESIGN CHOICE, log entry 32); and out with neither
idle-since nor acknowledge timer. A site field above 3 is refused with the malformed fields, the model's reading (DEDUCED, log
entry 16). -/
def Obligations.RosterMessagesMoveTheAttendantInTheIdleList : Prop :=
  (∀ (s : State) (h : Handset),
     (3 < h.site → (s.running = true → s.siteAdmits h = true → ∀ n, HandsetAnswers (.signOn h n) s .badField none [] id) ∧
       ∀ a, SentBy s h a →
         HandsetAnswers (.signOff h) s .badField none [] id ∧ HandsetAnswers (.takeBreak h) s .badField none [] id ∧
         HandsetAnswers (.ready h) s .badField none [] id) ∧
     (s.running = true → s.siteAdmits h = true → h.site ≤ 3 → ∀ n,
       let here : Prop := s.signedOn n = true ∧ (s.attendant n).handset = some h.identity
       let taken : Prop := s.signedOn n = true ∨ s.boundTo? h.identity ≠ none
       (31 < n → HandsetAnswers (.signOn h n) s .badField none [] id) ∧
       (n ≤ 31 → here → HandsetAnswers (.signOn h n) s .already none [] id) ∧
       (n ≤ 31 → ¬here → taken → HandsetAnswers (.signOn h n) s .busy none [] id) ∧
       (n ≤ 31 → ¬taken →
         HandsetAnswers (.signOn h n) s .done none [.half (s.keysOut n)] fun q =>
           (q.modAttendant n fun e => { e with handset := some h.identity }).idleBack n)) ∧
     ∀ a, HeardFrom s h a →
       let st := (s.attendant a).state
       let off (q : State) : State := (q.leaveIdle a .off).modAttendant a fun e => { e with handset := none }
       (st = .idle ∨ st = .away → HandsetAnswers (.signOff h) s .done none [] off) ∧
       (st = .idle →
         HandsetAnswers (.takeBreak h) s .done none [] (fun q => q.leaveIdle a .away) ∧
         HandsetAnswers (.ready h) s .already none [] id) ∧
       (st = .away →
         HandsetAnswers (.takeBreak h) s .already none [] id ∧
         HandsetAnswers (.ready h) s .done none [] fun q => q.idleBack a) ∧
       (st ≠ .idle → st ≠ .away →
         HandsetAnswers (.signOff h) s .busy none [] id ∧ HandsetAnswers (.takeBreak h) s .busy none [] id ∧
         HandsetAnswers (.ready h) s .busy none [] id)) ∧
  (∀ (s : State) (a : Nat), a < s.dr.attendants.length →
     let others := s.dr.idle.filter (· != a)
     (let q := s.idleBack a
      q.dr.idle = others ++ [a] ∧ (q.attendant a).state = .idle ∧ (q.attendant a).idleSince = some s.sa.elapsed ∧
        (q.attendant a).ack = none) ∧
     (let q := s.idleFront a
      let since := (s.attendant a).keptSince
      (∃ before after, others = before ++ after ∧ q.dr.idle = before ++ a :: after ∧
         (∀ b ∈ before, (((s.attendant b).idleSince).getD 0).toNat ≤ since.toNat) ∧
         ∀ b ∈ after.head?, since.toNat < (((s.attendant b).idleSince).getD 0).toNat) ∧
        (q.attendant a).state = .idle ∧ (q.attendant a).idleSince = some since ∧ (q.attendant a).ack = none) ∧
     ∀ st, let q := s.leaveIdle a st
       q.dr.idle = others ∧ (q.attendant a).state = st ∧ (q.attendant a).idleSince = none ∧
         (q.attendant a).ack = none ∧ (q.attendant a).handset = (s.attendant a).handset)

/-- PARKED and KEY_AGAIN (R9, R79, R127), ACK and DECLINE against the record's entry (R102, R121), and ABANDON (R126),
each with its checks in order. That KEY_AGAIN has no check of the key limit is the model's reading of R79 beside R86
(DEDUCED, log entry 35). -/
def Obligations.RecordMessagesAreRuledInOrder : Prop :=
  (∀ (s : State) (h : Handset) (a t : Nat) (r : Record), HandsetNames s h a t r →
     (¬MayAct s a r → HandsetAnswers (.parked h t) s .notYours (some t) [] id) ∧
     (MayAct s a r →
       (r.state ≠ .inbound → HandsetAnswers (.parked h t) s .wrongState (some t) [] id) ∧
       (r.state = .inbound → r.parkMark = true → HandsetAnswers (.parked h t) s .already (some t) [] id) ∧
       (r.state = .inbound → r.parkMark = false →
         HandsetAnswers (.parked h t) s .done (some t) [] fun q => q.setMarks t true r.keyMark)) ∧
     ((s.hook? r.hook).bind Hook.attendant ≠ some a → HandsetAnswers (.keyAgain h t) s .notYours (some t) [] id) ∧
     ∀ k, s.hook? r.hook = some k → k.attendant = some a →
       (k.state = .opened → HandsetAnswers (.keyAgain h t) s .already (some t) [] id) ∧
       (k.state ≠ .opened → k.state ≠ .held ∨ k.count ≠ 1 →
         HandsetAnswers (.keyAgain h t) s .wrongState (some t) [] id) ∧
       (k.state = .held → k.count = 1 →
         HandsetAnswers (.keyAgain h t) s .done (some t) [] fun q => q.updHook r.hook fun x =>
           { x with state := .opened, attendant := some a, phase := .running, count := 1
                    window := some ⟨0, s.kc.windowTime⟩ })) ∧
  (∀ (s : State) (h : Handset) (a t : Nat) (r : Record), HandsetNames s h a t r →
     (s.entry? t = none ∨ (∃ x, s.entry? t = some x ∧ x.status = .queued) →
       HandsetAnswers (.ack h t) s .withdrawn (some t) [] id ∧
       HandsetAnswers (.decline h t) s .withdrawn (some t) [] id) ∧
     ∀ x, s.entry? t = some x → x.status ≠ .queued →
       (x.attendant ≠ some a →
         HandsetAnswers (.ack h t) s .notYours (some t) [] id ∧
         HandsetAnswers (.decline h t) s .notYours (some t) [] id) ∧
       (x.attendant = some a → x.status = .taken →
         HandsetAnswers (.ack h t) s .already (some t) [] id ∧
         HandsetAnswers (.decline h t) s .tooLate (some t) [] id) ∧
       (x.attendant = some a → x.status = .offered →
         HandsetAnswers (.ack h t) s .done (some t) [] (fun q => q.takeJob r x a) ∧
         HandsetAnswers (.decline h t) s .done (some t) [] fun q => (q.requeue t).idleBack a)) ∧
  (∀ (s : State) (h : Handset) (a t : Nat) (r : Record), HandsetNames s h a t r →
     (¬MayAct s a r → HandsetAnswers (.abandon h t) s .notYours (some t) [] id) ∧
     (MayAct s a r →
       (r.state ≠ .fetching → HandsetAnswers (.abandon h t) s .wrongState (some t) [] id) ∧
       (r.state = .fetching → r.stall = none → HandsetAnswers (.abandon h t) s .tooLate (some t) [] id) ∧
       (r.state = .fetching → r.stall ≠ none →
         HandsetAnswers (.abandon h t) s .done (some t) [] fun q =>
           ((((q.setState t .called).modRecord t fun x => { x with attendant := none }).modEntry t fun e =>
             { e with status := .queued, attendant := none }).lookDue).idleBack a)))

/-- Setting a mark of an INBOUND record: the first is kept, and with the second the record enters STORED, in one step: marks
clear, park timer stopped, no attendant, no MOVE entry, and CALLED at once after an early call (R9). KEY_HOME by the record's
state (R9, R10): KEY_OVERDUE and KEY_AWAY clear, in INBOUND too by the model's reading (DEDUCED, log entry 17); an INBOUND
record takes its key mark; a WAITING one triggers the serving pass; a SUSPENDED one names no attendant any more; a record with
an entry gives a readiness event (R107). -/
def Obligations.SecondMarkStoresTheCar : Prop :=
  (∀ (s : State) (t : Nat) (r : Record) (park key : Bool), s.record? t = some r → r.state = .inbound →
     let q := s.setMarks t park key
     ((park && key) = false →
       ∃ r', q.record? t = some r' ∧ r' = { r with parkMark := park, keyMark := key }) ∧
     ((park && key) = true →
       (∃ r', q.record? t = some r' ∧ r'.state = (if r.call = none then .stored else .called) ∧ r'.parkMark = false ∧
         r'.keyMark = false ∧ r'.park = none ∧ r'.flags.inboundLate = false ∧ r'.attendant = none ∧
         r'.stall = r.stall ∧ r'.call = r.call) ∧
       (∀ e, s.entry? t = some e → e.kind = .move → q.entry? t = none))) ∧
  ∀ (s : State) (t : Nat) (r : Record), s.record? t = some r →
    let q := s.keyHome t
    let home : Record := { r with flags := { r.flags with keyOverdue := false, keyAway := false } }
    (r.state = .inbound → r.keyMark = false → r.parkMark = false → q.record? t = some { home with keyMark := true }) ∧
    (r.state = .inbound → r.keyMark = false → r.parkMark = true →
      ∃ r', q.record? t = some r' ∧ r'.state = (if r.call = none then .stored else .called) ∧ r'.stall = r.stall ∧
        r'.flags = { home.flags with inboundLate := false }) ∧
    (r.state = .suspended → q.record? t = some { home with attendant := none }) ∧
    (r.state ≠ .suspended → r.state ≠ .inbound ∨ r.keyMark = true → q.record? t = some home) ∧
    (r.state = .waiting → q.due.serve = true) ∧ (s.entry? t ≠ none → q.due.look = true) ∧
    (r.state ≠ .inbound → q.jq = s.jq ∧ q.dr = s.dr ∧ q.sm = s.sm ∧ q.sa = s.sa) ∧
    ∀ u, u ≠ t → q.record? u = s.record? u

/-- An acknowledged job: the entry is TAKEN, the attendant FETCHING or MOVING with its timer stopped, the record FETCHING or
INBOUND naming it, and the hook OPEN for it, or, with the key out and no attendant, the key passed to it (R14, R75, R121). -/
def Obligations.AcknowledgedJobOpensTheHook : Prop :=
  ∀ (s : State) (r : Record) (x : Entry) (a : Nat),
    s.record? r.ticket = some r → s.entry? r.ticket = some x → a < s.dr.attendants.length →
    (x.kind = .fetch ∧ r.state = .called) ∨ (x.kind = .move ∧ r.state = .granted) →
    let q := s.takeJob r x a
    q.entry? r.ticket = some { x with status := .taken } ∧
    (q.attendant a).state = (if x.kind = .fetch then .fetching else .moving) ∧ (q.attendant a).ack = none ∧
    (∃ r', q.record? r.ticket = some r' ∧ r'.state = (if x.kind = .fetch then .fetching else .inbound) ∧
      r'.attendant = some a ∧ r'.stall = r.stall ∧ r'.call = r.call ∧ r'.parkMark = false ∧ r'.keyMark = false) ∧
    ∀ k, s.hook? r.hook = some k →
      (k.state = .held → ∃ k', q.hook? r.hook = some k' ∧ k'.state = .opened ∧ k'.attendant = some a ∧
        k'.phase = .running ∧ k'.count = 0 ∧ k'.window = some ⟨0, s.kc.windowTime⟩ ∧ k'.bound = k.bound) ∧
      (k.state = .out → k.attendant = none → ∃ k', q.hook? r.hook = some k' ∧ k'.state = .out ∧
        k'.attendant = some a ∧ k'.custody = some ⟨0, s.kc.custodyLimit⟩)

/-- STAGED (R138) and REPARK (R18, R117), each with its checks in order. -/
def Obligations.StagedAndReparkAreCheckedInOrder : Prop :=
  (∀ (s : State) (h : Handset) (a t b : Nat) (r : Record), HandsetNames s h a t r →
     let bay := s.bay b
     let takes : Prop := bay.inLayout = true ∧ bay.enabled = true ∧ (s.sa.state = .night → bay.night = true) ∧
       bay.loop = true ∧ bay.holder = none
     (7 < b → HandsetAnswers (.staged h t b) s .badField (some t) [] id) ∧
     (b ≤ 7 →
       (¬MayAct s a r → HandsetAnswers (.staged h t b) s .notYours (some t) [] id) ∧
       (MayAct s a r →
         (r.state = .staged → r.bay = some b → HandsetAnswers (.staged h t b) s .already (some t) [] id) ∧
         (r.state ≠ .fetching → ¬(r.state = .staged ∧ r.bay = some b) →
           HandsetAnswers (.staged h t b) s .wrongState (some t) [] id) ∧
         (r.state = .fetching → ¬takes → HandsetAnswers (.staged h t b) s .badBay (some t) [] id) ∧
         (r.state = .fetching → takes →
           HandsetAnswers (.staged h t b) s .done (some t) [] fun q => q.stagedOk t b)))) ∧
  (∀ (s : State) (h : Handset) (a t : Nat) (r : Record), HandsetNames s h a t r →
     let ruled (x : Answer) (f : State → State) : Prop := HandsetAnswers (.repark h t) s x (some t) [.stall none] f
     ((s.attendant a).state ≠ .idle → ruled .busy id) ∧
     ((s.attendant a).state = .idle →
       (r.state ≠ .staged ∨ 3 ≤ r.reparks → ruled .wrongState id) ∧
       (r.state = .staged → r.reparks < 3 →
         let others : Prop := (s.hook? r.hook).bind Hook.attendant ≠ some a
         (others → 3 ≤ s.keysOut a + s.openFor a → ruled .keyLimit id) ∧
         (¬others ∨ s.keysOut a + s.openFor a < 3 →
           let found := s.allocate r.grade r.need r.tier
           (found = none → 24 ≤ s.sm.waitList.length → ruled .waitlistFull id) ∧
           (found ≠ none ∨ s.sm.waitList.length < 24 →
             HandsetAnswers (.repark h t) s .done (some t) [.stall (found.map Prod.fst)] fun q =>
               q.reparkCar r a found)))))

/-- The step of an accepted STAGED at the record, its entry, its bay, its stall and its key (R16, R139). -/
def Obligations.StagingBindsTheBayAndEndsTheFetch : Prop :=
  ∀ (s : State) (t b : Nat) (r : Record), s.record? t = some r → b < s.km.bays.length →
    let q := s.stagedOk t b
    (∃ r', q.record? t = some r' ∧ r'.state = .staged ∧ r'.bay = some b ∧ r'.call = none ∧ r'.attendant = none ∧
      r'.stall = none ∧ r'.flags.keyOverdue = false ∧
      r'.flags.departureUnconfirmed = (r.stall.isSome || r.flags.departureUnconfirmed)) ∧
    q.entry? t = none ∧
    q.bay b = { s.bay b with holder := some t, dwell := some ⟨0, s.km.dwellTime⟩, driveOff := none } ∧
    (∀ st x, r.stall = some st → s.stall? st.zone st.index = some x →
      (q.stall? st.zone st.index).map Stall.holder = some none) ∧
    ∀ k, s.hook? r.hook = some k →
      ∃ k', q.hook? r.hook = some k' ∧ k'.state = k.state ∧ k'.attendant = k.attendant ∧ k'.custody = none ∧
        k'.warned = false ∧ k'.overdue = false

/-- What an accepted REPARK leaves: the bay free, one more repark, the key with the sender or its hook open for the sender,
and the record INBOUND in the stall found, which it holds, with its sender PARKING, or WAITING at the tail of the wait list with
its sender as it was (R18, R33, R86, R122, R142). -/
def Obligations.ReparkTakesTheCarBack : Prop :=
  ∀ (s : State) (a : Nat) (r : Record) (found : Option (StallId × Bool)), s.record? r.ticket = some r →
    r.state = .staged → r.stall = none →
    let q := s.reparkCar r a found
    (∃ r', q.record? r.ticket = some r' ∧ r'.bay = none ∧ r'.reparks = r.reparks + 1 ∧
      r'.flags.departureUnconfirmed = false ∧ r'.flags.dwellExpired = false ∧ r'.parkMark = false ∧
      r'.keyMark = false ∧
      match found with
      | some (st, fallback) => r'.state = .inbound ∧ r'.stall = some st ∧ r'.attendant = some a ∧
          r'.flags.chargeUnmet = fallback ∧ r'.park = some ⟨0, s.ct.parkLimit, false⟩ ∧
          q.sm.waitList = s.sm.waitList
      | none => r'.state = .waiting ∧ r'.stall = none ∧ r'.park = none ∧
          q.sm.waitList = s.sm.waitList ++ [r.ticket]) ∧
    (∀ st fallback x, found = some (st, fallback) → s.stall? st.zone st.index = some x →
      q.stall? st.zone st.index = some { x with holder := some r.ticket, vacantRun := 0, occupiedRun := 0 }) ∧
    (found ≠ none → a < s.dr.attendants.length →
      (q.attendant a).state = .parking ∧ (q.attendant a).idleSince = none ∧
        q.dr.idle = s.dr.idle.filter (· != a)) ∧
    (found = none → q.dr = s.dr) ∧
    (∀ b, r.bay = some b → q.bay b = { s.bay b with holder := none, dwell := none, driveOff := none }) ∧
    ∀ k, s.hook? r.hook = some k →
      (k.state = .out → ∃ k', q.hook? r.hook = some k' ∧ k'.state = .out ∧ k'.attendant = some a ∧
        k'.custody = some ⟨0, s.kc.custodyLimit⟩ ∧ k'.warned = false ∧ k'.overdue = false) ∧
      (k.state = .held → ∃ k', q.hook? r.hook = some k' ∧ k'.state = .opened ∧ k'.attendant = some a ∧
        k'.phase = .running ∧ k'.count = 0 ∧ k'.window = some ⟨0, s.kc.windowTime⟩)

/-- The frame of the commands that move cars: no handset message, no panel message and no expiry of a timer but RECOVERY's
changes the layout, a setting, the service state, a clock, the site identity, the ramp chain, the response slot, the supplies
or the waiting commands, and no desk command that names a record, nor a desk ACCEPT, changes any of them but the response
slot. -/
def Obligations.CommandsThatMoveCarsKeepEverySetting : Prop :=
  (∀ (c : Instr) (s t : State), (handsetHeader c).isSome = true ∨ movesOnly c = true → exec c s = .next t →
    settings t = settings s) ∧
  ∀ (c : Instr) (s t : State),
    (namedRecord c).isSome = true ∨ (∃ q grade need tier plate folio lane,
      c = .accept (.desk q) grade need tier plate folio lane) → exec c s = .next t →
    settings t = settings { s with lk := { s.lk with response := t.lk.response } }

/-! ### Reports, timers and lines (chapters 3, 4 and 10) -/

/-- A zone report is heard exactly when its check holds and its zone is in the layout; it is then taken whole, with its
serving pass and its look, and then RECOVERY may end; a dropped report changes nothing (R54, R55, R186). A heard report makes
its zone LIVE with the silence timer at zero, a trigger for the serving pass where the zone was not LIVE, and then takes every
stall in index order (R55, R56, R57). In RECOVERY it takes its zone from the set of those unheard, and RECOVERY ends in CLOSED
when none is left (R186). A cabinet message acts by its hook's state, stray tag and panel; one for no hook of the layout, or
with an encoding of no value, is dropped (R69, R71, R73, R74, R188). -/
def Obligations.ReportsActByTheStateTheyFind : Prop :=
  (∀ s : State, s.running = true →
     (∀ z occupied check,
       let heard : Prop := (byteSum (byteOf z :: occupancyBytes occupied) + check) % 65536 = 65535 ∧ z ≤ 11 ∧
         (s.zone z).inLayout = true
       (heard → exec (.zoneReport z occupied check) s =
         .next (((s.begin.takeReport z occupied).finish).heardInRecovery z)) ∧
       (¬heard → exec (.zoneReport z occupied check) s = .next s)) ∧
     (∀ bytes, exec (.cabinetMessageDropped bytes) s = .next s) ∧
     (∀ p i v, 255 < i ∨ s.hook? (256 * p + i) = none →
       exec (.hookLoaded p i v) s = .next s ∧ exec (.hookEmptied p i v) s = .next s ∧
       exec (.latchDone p i v) s = .next s) ∧
     (∀ p i v, 999999 < v → exec (.hookLoaded p i v) s = .next s) ∧
     (∀ p i v, 1 < v → exec (.hookEmptied p i v) s = .next s ∧ exec (.latchDone p i v) s = .next s) ∧
     ∀ p i k, i ≤ 255 → s.hook? (256 * p + i) = some k →
       let h := 256 * p + i
       (∀ tag, tag ≤ 999999 →
         let c := Instr.hookLoaded p i tag
         (k.strayTag ≠ none ∨ k.state = .held ∨ k.state = .opened → EventLeaves c s s.begin) ∧
         (k.strayTag = none → k.state = .await ∨ k.state = .out → k.bound = some tag →
           EventLeaves c s ((s.begin.updHook h fun x =>
             { x with state := .held, attendant := none, custody := none, forced := false, warned := false,
                      overdue := false }).keyHome tag)) ∧
         (k.strayTag = none → k.state = .free ∨ ((k.state = .await ∨ k.state = .out) ∧ k.bound ≠ some tag) →
           EventLeaves c s ((s.begin.updHook h fun x => { x with strayTag := some tag }).raise .keyMishung (some h)))) ∧
       (∀ latched : Bool,
         let c := Instr.hookEmptied p i latched.toNat
         (k.strayTag ≠ none → EventLeaves c s (s.begin.updHook h fun x => { x with strayTag := none })) ∧
         (k.strayTag = none →
           (k.state = .free ∨ k.state = .await ∨ k.state = .out → EventLeaves c s s.begin) ∧
           (k.state = .opened → latched = false ∨ s.hookInService h = true → EventLeaves c s (s.begin.takeKey h k)) ∧
           ((k.state = .opened ∧ latched = true ∨ k.state = .held) → s.hookInService h = false →
             EventLeaves c s (s.begin.forceKey h k)) ∧
           (k.state = .held → s.hookInService h = true → EventLeaves c s (s.begin.serviceKey h k)))) ∧
       ∀ l : Latch,
         let c := Instr.latchDone p i l.code
         let q := s.begin.updHook h fun x => { x with latch := none, repeatTimer := none }
         (k.latch ≠ some l → EventLeaves c s s.begin) ∧
         (k.latch = some l →
           (l = .closed → k.state = .opened → k.phase = .closing → EventLeaves c s (q.completeLapse h k)) ∧
           (l = .closed → k.state = .opened → k.phase = .ending → EventLeaves c s (q.updHook h fun x =>
             { x with state := .held, phase := .none, count := 0, attendant := none, window := none })) ∧
           (l = .opened ∨ k.state ≠ .opened ∨ (k.phase ≠ .closing ∧ k.phase ≠ .ending) → EventLeaves c s q))) ∧
  (∀ (s : State) (z : Nat) (occupied : BitVec 96),
     s.takeReport z occupied =
       (List.range (s.zone z).stalls.length).foldl (fun q i => State.takeStall z occupied q i) (s.hearZone z) ∧
     (z < s.zl.links.length → (s.hearZone z).link z = { link := .live, silence := some ⟨0, s.zl.silenceTime⟩ }) ∧
     (∀ y, y ≠ z → (s.hearZone z).link y = s.link y) ∧
     s.hearZone z = { s with
       zl := (s.hearZone z).zl, due := { s.due with serve := s.due.serve || (s.link z).link != .live } } ∧
     (s.hearZone z).zl.silenceTime = s.zl.silenceTime) ∧
  ∀ (s : State) (z : Nat),
    (s.sa.recovery = none → s.heardInRecovery z = s) ∧
    ∀ rc, s.sa.recovery = some rc →
      ((∀ y ∈ rc.unheard, y = z) →
        s.heardInRecovery z = { s with sa := { s.sa with state := .closed, recovery := none } }) ∧
      ((∃ y ∈ rc.unheard, y ≠ z) →
        s.heardInRecovery z = { s with sa := { s.sa with
          recovery := some { rc with unheard := rc.unheard.filter fun y => y != z } } })

/-- One stall of a heard report: the sensed state follows the report; a held stall acts at its second vacant report in a row,
an unheld one becomes stray at its second occupied one and is no longer stray at a vacant one (R60 to R66). -/
def Obligations.StallsActAtTheSecondReport : Prop :=
  ∀ (s : State) (z i : Nat) (x : Stall) (occupied : BitVec 96), s.stall? z i = some x →
    let named := occupied.getLsbD i
    let q := State.takeStall z occupied s i
    ((q.stall? z i).map Stall.sensed = some (if named then .occupied else .vacant)) ∧
    (x.holder = none → named = true →
      q.stall? z i = some { x with
        sensed := .occupied, occupiedRun := if x.occupiedRun < 2 then x.occupiedRun + 1 else x.occupiedRun
        stray := x.stray || x.occupiedRun == 1 } ∧ q.ct = s.ct ∧ q.jq = s.jq) ∧
    (x.holder = none → named = false →
      q.stall? z i = some { x with sensed := .vacant, occupiedRun := 0, stray := false } ∧ q.ct = s.ct ∧ q.sa = s.sa) ∧
    ∀ t r, x.holder = some t → s.record? t = some r →
      (named = true →
        (r.state ≠ .inbound ∨ r.parkMark = true →
          q.stall? z i = some { x with sensed := .occupied, vacantRun := 0 } ∧ q.ct = s.ct) ∧
        (r.state = .inbound → r.parkMark = false → r.keyMark = false →
          q.record? t = some { r with parkMark := true })) ∧
      (named = false →
        (x.vacantRun ≠ 1 ∨ (r.state ≠ .fetching ∧ r.state ≠ .stored ∧ r.state ≠ .called) →
          q.stall? z i = some { x with
            sensed := .vacant, vacantRun := if x.vacantRun < 2 then x.vacantRun + 1 else x.vacantRun } ∧
          q.ct = s.ct) ∧
        (x.vacantRun = 1 → r.stall = some ⟨z, i⟩ → r.state = .fetching →
          q.stall? z i = some { x with sensed := .vacant, vacantRun := 0, occupiedRun := 0, holder := none } ∧
          ∃ r', q.record? t = some r' ∧ r'.state = .fetching ∧ r'.stall = none) ∧
        (x.vacantRun = 1 → r.stall = some ⟨z, i⟩ → r.state = .stored ∨ r.state = .called →
          q.stall? z i = some { x with sensed := .vacant, vacantRun := 0, occupiedRun := 0 } ∧
          ∃ r', q.record? t = some r' ∧ r'.state = .suspended ∧ r'.reason = some .stallEmpty ∧
            r'.stall = some ⟨z, i⟩))

/-- The removals of a key: taken in a window, forced, or in panel service; and a lapse of a window (R15, R76, R77, R82,
R88). The second lapse undoes the job of a FETCHING record, or the move of an INBOUND record with a MOVE entry: the record is
CALLED or GRANTED again, its entry QUEUED with no attendant, and the attendant AWAY and told WITHDRAWN with reason 2; an INBOUND
record without a MOVE entry stays (R15, R97, R125, R152). -/
def Obligations.RemovalsAndLapsesSettleTheHook : Prop :=
  ∀ (s : State) (h : Nat) (k : Hook), s.hook? h = some k →
    (∃ k', (s.takeKey h k).hook? h = some k' ∧ k'.state = .out ∧ k'.attendant = k.attendant ∧ k'.phase = .none ∧
      k'.count = 0 ∧ k'.window = none ∧ k'.custody = some ⟨0, s.kc.custodyLimit⟩ ∧ k'.warned = false ∧
      k'.overdue = false ∧ k'.bound = k.bound) ∧
    (∃ k', (s.forceKey h k).hook? h = some k' ∧ k'.state = .out ∧ k'.attendant = none ∧ k'.forced = true ∧
      k'.phase = .none ∧ k'.count = 0 ∧ k'.window = none ∧ k'.custody = k.custody) ∧
    (∀ t r, k.bound = some t → s.record? t = some r → r.hook = h →
      (r.state = .staged → (s.forceKey h k).record? t = some r) ∧
      (r.state ≠ .staged → ∃ r', (s.forceKey h k).record? t = some r' ∧ r'.state = .suspended ∧
        r'.reason = some .keyForced ∧ r'.stall = r.stall) ∧
      (s.sa.causes.length = 14 → ((s.forceKey h k).sa.cell .keyForced).latch = true) ∧
      ∃ r', (s.serviceKey h k).record? t = some r' ∧ r'.flags.keyAway = true) ∧
    (∃ k', (s.serviceKey h k).hook? h = some k' ∧ k'.state = .out ∧ k'.attendant = none ∧ k'.forced = k.forced ∧
      k'.custody = k.custody ∧ (k.phase = .running → k'.phase = .none ∧ k'.count = 2 ∧ k'.window = none)) ∧
    (k.count = 0 → ∃ k', (s.completeLapse h k).hook? h = some k' ∧ k'.state = .held ∧ k'.count = 1 ∧
      k'.phase = .running ∧ k'.attendant = k.attendant ∧ k'.window = some ⟨0, s.kc.windowTime⟩) ∧
    (k.count = 1 →
      (∃ k', (s.completeLapse h k).hook? h = some k' ∧ k'.state = .held ∧ k'.count = 2 ∧ k'.phase = .none ∧
        k'.attendant = none ∧ k'.window = none) ∧
      ∀ t r, k.bound = some t → s.record? t = some r →
        let q := s.completeLapse h k
        let undone : Prop := r.state = .fetching ∨ (r.state = .inbound ∧ s.hasEntry t .move = true)
        (undone →
          (∃ r', q.record? t = some r' ∧ r'.state = (if r.state = .fetching then .called else .granted) ∧
            r'.attendant = none ∧ r'.parkMark = false ∧ r'.keyMark = false ∧ r'.park = none ∧ r'.call = r.call ∧
            r'.stall = r.stall) ∧
          (∀ x, s.entry? t = some x → q.entry? t = some { x with status := .queued, attendant := none }) ∧
          (∀ a, r.attendant = some a → WithdrawnSent s a t 2 q.lk.tx ∧
            (a < s.dr.attendants.length → (q.attendant a).state = .away ∧ (q.attendant a).idleSince = none)) ∧
          q.due.look = true) ∧
        (¬undone → q.record? t = some r ∧ q.jq = s.jq ∧ q.dr = s.dr ∧ q.lk = s.lk))

/-- The ten expiries (R6, R58, R71, R77, R84, R121, R140, R141, R186): each acts when its timer runs and has reached its
length. One sent while its timer is stopped or short changes nothing, the model's choice (DESIGN CHOICE, log entry 6). -/
def Obligations.ExpiriesActAtTheirLength : Prop :=
  ∀ s : State, s.running = true →
    let reached (x : Option Timer) : Prop := ∃ d, x = some d ∧ d.length ≤ d.elapsed
    (∀ z,
      ((s.link z).link = .live → reached (s.link z).silence →
        EventLeaves (.silenceTimerExpiry z) s
          (((s.begin.setLink z { link := .silent, silence := none }).raise .zoneSilent (some z)).modZone z fun y =>
            { y with stalls := y.stalls.map fun x => { x with vacantRun := 0, occupiedRun := 0 } })) ∧
      (¬((s.link z).link = .live ∧ reached (s.link z).silence) → exec (.silenceTimerExpiry z) s = .next s)) ∧
    (∀ h, s.hook? h = none →
      exec (.latchRepeat h) s = .next s ∧ exec (.windowTimerExpiry h) s = .next s ∧
      exec (.keyWarningPoint h) s = .next s ∧ exec (.custodyLimitReached h) s = .next s) ∧
    (∀ h k, s.hook? h = some k →
      (∀ l, k.latch = some l → reached k.repeatTimer → EventLeaves (.latchRepeat h) s (s.begin.sendLatch h l)) ∧
      (¬(k.latch ≠ none ∧ reached k.repeatTimer) → exec (.latchRepeat h) s = .next s) ∧
      (¬reached k.window → exec (.windowTimerExpiry h) s = .next s) ∧
      (reached k.window →
        (k.state = .opened → s.hookInService h = false →
          EventLeaves (.windowTimerExpiry h) s (s.begin.updHook h fun x =>
            { x with window := none, phase := .closing })) ∧
        (k.state = .held ∨ (k.state = .opened ∧ s.hookInService h = true) →
          EventLeaves (.windowTimerExpiry h) s (s.begin.completeLapse h k)) ∧
        (k.state ≠ .held → k.state ≠ .opened →
          EventLeaves (.windowTimerExpiry h) s (s.begin.updHook h fun x => { x with window := none }))) ∧
      let warns : Prop := k.warned = false ∧ ∃ d, k.custody = some d ∧ d.length * 3 / 4 ≤ d.elapsed
      (¬warns → exec (.keyWarningPoint h) s = .next s) ∧
      (warns → ∀ t d, k.bound = some t → k.custody = some d →
        let q := (s.begin.updHook h fun x => { x with warned := true }).raise .keyWarning (some t)
        EventLeaves (.keyWarningPoint h) s
          (match k.attendant with
           | none => q
           | some a => q.sendTo a 0x85 [.ticket t, .half h, .word (BitVec.ofNat 32 (d.length - d.length * 3 / 4))])) ∧
      let passed : Prop := k.overdue = false ∧ reached k.custody
      (¬passed → exec (.custodyLimitReached h) s = .next s) ∧
      (passed → ∀ t, k.bound = some t →
        EventLeaves (.custodyLimitReached h) s
          (((s.begin.updHook h fun x => { x with overdue := true }).modRecord t fun r =>
            { r with flags := { r.flags with keyOverdue := true } }).raise .keyOverdue (some t)))) ∧
    (∀ t,
      let late : Prop := ∃ r d, s.record? t = some r ∧ r.park = some d ∧ d.reached = false ∧ d.length ≤ d.elapsed
      (late → EventLeaves (.parkLimitReached t) s ((s.begin.modRecord t fun r =>
        { r with park := r.park.map fun d => { d with reached := true }
                 flags := { r.flags with inboundLate := true } }).raise .inboundLate (some t))) ∧
      (¬late → exec (.parkLimitReached t) s = .next s)) ∧
    (∀ a,
      let timeout : Prop := (s.attendant a).state = .offered ∧ reached (s.attendant a).ack
      (timeout → ∀ e, s.entryOf a = some e →
        EventLeaves (.ackTimerExpiry a) s
          ((((s.begin.modEntry e.ticket fun g => { g with status := .queued, attendant := none }).lookDue).leaveIdle a
            .away).raise .ackTimeout (some a))) ∧
      (¬timeout → exec (.ackTimerExpiry a) s = .next s)) ∧
    (∀ b,
      (reached (s.bay b).dwell → ∀ t, (s.bay b).holder = some t →
        EventLeaves (.dwellTimerExpiry b) s (((s.begin.modBay b fun x => { x with dwell := none }).modRecord t fun r =>
          { r with flags := { r.flags with dwellExpired := true } }).raise .dwellExpired (some t))) ∧
      (¬reached (s.bay b).dwell → exec (.dwellTimerExpiry b) s = .next s) ∧
      (reached (s.bay b).driveOff → ∀ t r, (s.bay b).holder = some t → s.record? t = some r →
        let q := (s.begin.modBay b fun x => { x with driveOff := none }).raise .driveOff (some t)
        EventLeaves (.driveOffTimerExpiry b) s (if r.state = .staged then q.retireRecord t else q)) ∧
      (¬reached (s.bay b).driveOff → exec (.driveOffTimerExpiry b) s = .next s)) ∧
    ((∃ rc, s.sa.recovery = some rc ∧ rc.timer.length ≤ rc.timer.elapsed) →
      EventLeaves .recoveryTimerExpiry s { s.begin with sa := { s.sa with state := .closed, recovery := none } }) ∧
    (¬(∃ rc, s.sa.recovery = some rc ∧ rc.timer.length ≤ rc.timer.elapsed) →
      exec .recoveryTimerExpiry s = .next s)

/-- An elapsed second advances both clocks and every running timer, and is an event for the arbiter; a loop's change of
level captures the time on a lane's rising edge while the FIFO has room, and starts and stops the drive-off timer of a held
bay (R107, R130, R134, R179, R180). -/
def Obligations.SecondsAndLoopsAreTaken : Prop :=
  ∀ s : State, s.running = true →
    (EventLeaves .elapsedSecond s s.begin.tickSecond ∧
      let q := s.begin.tickSecond
      let next (d : Timer) : Timer := { d with elapsed := d.elapsed + 1 }
      q.sa.elapsed = s.sa.elapsed + 1 ∧ q.sa.clock = s.sa.clock + 1 ∧ q.due.look = true ∧ q.due.serve = false ∧
      q.ct.records = s.ct.records.map (fun r =>
        { r with park := r.park.map fun p => { p with elapsed := p.elapsed + 1 } }) ∧
      q.zl.links = s.zl.links.map (fun l => { l with silence := l.silence.map next }) ∧
      q.kc.panels = s.kc.panels.map (fun p => { p with hooks := p.hooks.map fun k =>
        { k with repeatTimer := k.repeatTimer.map next, window := k.window.map next
                 custody := k.custody.map next } }) ∧
      q.dr.attendants = s.dr.attendants.map (fun a => { a with ack := a.ack.map next }) ∧
      q.km.bays = s.km.bays.map (fun b => { b with dwell := b.dwell.map next, driveOff := b.driveOff.map next }) ∧
      q.sa.recovery = s.sa.recovery.map (fun rc => { rc with timer := next rc.timer }) ∧
      q.sm = s.sm ∧ q.jq = s.jq ∧ q.lk = s.lk) ∧
    (∀ l level,
      let p : State := { s with pw := { s.pw with lanes := s.pw.lanes.set l level } }
      ((s.lane l).loop = level → exec (.laneLoopChange l level) s = .next p) ∧
      ((s.lane l).loop ≠ level → EventLeaves (.laneLoopChange l level) s (p.begin.modLane l fun x =>
        { loop := level
          fifo := if level = true ∧ x.loop = false ∧ x.fifo.length < 4 then x.fifo ++ [s.sa.clock] else x.fifo }))) ∧
    ∀ b level,
      let p : State := { s with pw := { s.pw with bays := s.pw.bays.set b level } }
      ((s.bay b).loop = level → exec (.bayLoopChange b level) s = .next p) ∧
      ((s.bay b).loop ≠ level → EventLeaves (.bayLoopChange b level) s (p.begin.modBay b fun x =>
        { x with
          loop := level
          driveOff := if x.holder = none then x.driveOff else if level then none else
            match x.driveOff with
            | none => some ⟨0, 20⟩
            | some d => some d }))

/-! ### The rules of the shared operations -/

/-- The offer condition, item by item, and fit (R41 to R44, R47). -/
def Obligations.OfferConditionAndFitAreJudgedItemByItem : Prop :=
  ∀ (s : State) (z : Nat) (x : Stall),
    let upper : Prop := z % 2 = 1 ∧ (s.zone (z - 1)).paired = true
    let g := if z % 2 = 1 ∧ (s.zone (z - 1)).paired = true then z - 1 else z
    let withdrawn (y : Nat) : Prop := (s.link y).link ≠ .live ∧ (s.zone y).withdrawal = true
    (s.offerable z x = true ↔
      (s.zone g).isOpen = true ∧
      ¬(withdrawn g ∨ ((s.zone g).paired = true ∧ withdrawn (g + 1))) ∧
      (s.lk.mask.getLsbD g = true → s.lk.permits.getLsbD g = true) ∧
      x.enabled = true ∧
      (x.sensed = .vacant ∨ (x.sensed = .unknown ∧ (s.zone z).withdrawal = false)) ∧
      x.holder = none ∧ x.stray = false ∧ (s.sa.state = .night → (s.zone g).night = true)) ∧
    (∀ grade need fallback, s.fits grade need fallback z x = true ↔
      grade ≤ s.gradeOf x ∧
      match need with
      | .secure => x.attr = .secure
      | .charger => x.attr = if fallback then .none else .charger
      | .none => x.attr = .none ∨ (s.zone g).spill = true) ∧
    (upper → s.governing z = z - 1) ∧ (¬upper → s.governing z = z)

/-- Allocation (R45 to R47): the stall found is offerable and fits, and stands in the first zone or pair of the tier's list
with such a stall; of the stalls of that zone or pair that could be chosen it has the smallest grade, and the earliest place
among equals; a CHARGER record falls back only where no charger stall was to be had; nothing is found only when no listed
zone or pair has an offerable stall that fits. -/
def Obligations.AllocationTakesTheSmallestFittingStall : Prop :=
  ∀ (s : State) (grade : Nat) (need : Need) (tier : Nat),
    let prefs := s.sm.prefs.getD tier []
    let searched (z : Nat) : Prop := (s.zone z).inLayout = true ∧ s.isUpper z = false
    let may (fallback : Bool) (z : Nat) (y : StallId) (x : Stall) : Prop :=
      y.zone ∈ s.members z ∧ s.stall? y.zone y.index = some x ∧ s.offerable y.zone x = true ∧
        s.fits grade need fallback y.zone x = true
    (∀ st fallback, s.allocate grade need tier = some (st, fallback) →
      (fallback = true → need = .charger ∧ ∀ z ∈ prefs, searched z → ∀ y w, ¬may false z y w) ∧
      ∃ earlier z later x, prefs = earlier ++ z :: later ∧ searched z ∧ may fallback z st x ∧
        (∀ z' ∈ earlier, searched z' → ∀ y w, ¬may fallback z' y w) ∧
        ∀ y w, may fallback z y w →
          let better : Prop := s.gradeOf x < s.gradeOf w ∨ (s.gradeOf x = s.gradeOf w ∧
            (st.zone < y.zone ∨ (st.zone = y.zone ∧ st.index ≤ y.index)))
          (need ≠ .none ∨ w.attr = .none → (need = .none → x.attr = .none) ∧ better) ∧
          (need = .none → x.attr ≠ .none → w.attr ≠ .none ∧ better)) ∧
    (s.allocate grade need tier = none →
      ∀ z ∈ prefs, searched z → ∀ y x, ¬may false z y x ∧ (need = .charger → ¬may true z y x))

/-- Readiness, item by item, with the first item unmet as the reason; when an entry is due; the kerb budget; eligibility
(R103 to R106, R117). -/
def Obligations.ReadinessAndEligibilityAreJudgedItemByItem : Prop :=
  ∀ (s : State) (e : Entry) (r : Record), s.record? e.ticket = some r →
    let held : Prop := ∃ k, s.hook? r.hook = some k ∧ k.state = .held
    let ramp : Prop := ∀ st, r.stall = some st →
      s.lk.mask.getLsbD (s.governing st.zone) = true → s.lk.permits.getLsbD (s.governing st.zone) = true
    let panel : Prop := (s.panel (r.hook / 256)).inService = false
    let due : Prop := ∀ d st, e.due = some d → r.stall = some st →
      d.toNat ≤ s.sa.clock.toNat + s.jq.leads.getD (s.governing st.zone) 0
    let room : Prop := (s.jq.entries.filter fun g => g.kind == .fetch && g.status != .queued).length +
      (s.km.bays.filter fun b => b.holder.isSome).length <
        (s.km.bays.filter fun b => b.inLayout && b.enabled && (s.sa.state != .night || b.night)).length
    (e.kind = .fetch →
      (s.ready e = true ↔ e.status = .queued ∧ r.state = .called ∧ due ∧ held ∧ r.flags.keyAway = false ∧ ramp ∧
        panel ∧ room) ∧
      (s.unmet e = some .notCalled ↔ r.state ≠ .called) ∧
      (s.unmet e = some .notDue ↔ r.state = .called ∧ ¬due) ∧
      (s.unmet e = some .keyNotHome ↔ r.state = .called ∧ due ∧ ¬held) ∧
      (s.unmet e = some .keyAway ↔ r.state = .called ∧ due ∧ held ∧ r.flags.keyAway = true) ∧
      (s.unmet e = some .ramp ↔ r.state = .called ∧ due ∧ held ∧ r.flags.keyAway = false ∧ ¬ramp) ∧
      (s.unmet e = some .panel ↔
        r.state = .called ∧ due ∧ held ∧ r.flags.keyAway = false ∧ ramp ∧ ¬panel) ∧
      (s.unmet e = some .kerb ↔
        r.state = .called ∧ due ∧ held ∧ r.flags.keyAway = false ∧ ramp ∧ panel ∧ ¬room)) ∧
    (e.kind = .move →
      (s.ready e = true ↔ e.status = .queued ∧ r.state = .granted ∧ held ∧ ramp ∧ panel) ∧
      (s.unmet e = some .notGranted ↔ r.state ≠ .granted) ∧
      (s.unmet e = some .keyNotHome ↔ r.state = .granted ∧ ¬held) ∧
      (s.unmet e = some .ramp ↔ r.state = .granted ∧ held ∧ ¬ramp) ∧
      (s.unmet e = some .panel ↔ r.state = .granted ∧ held ∧ ramp ∧ ¬panel)) ∧
    ∀ a, s.eligible a = true ↔ (s.attendant a).state = .idle ∧ s.keysOut a + s.openFor a < 3

/-- A look of the arbiter in OPEN and NIGHT offers the first ready entry to the first eligible attendant and goes on
until no ready entry or no eligible attendant is left; in every other service state it changes nothing (R118, R119). One
offer: the entry OFFERED to the attendant, the attendant OFFERED and off the idle list with its timer at zero, and OFFER
in the transmit buffer where there is room; no record changes. -/
def Obligations.LookOffersUntilNoPairIsLeft : Prop :=
  (∀ s : State,
     (s.sa.state = .opened ∨ s.sa.state = .night →
       (∀ e a, s.jq.entries.find? s.ready = some e → s.dr.idle.find? s.eligible = some a →
         s.look = (s.offer e a).look) ∧
       ((∀ e ∈ s.look.jq.entries, s.look.ready e = false) ∨ (∀ a ∈ s.look.dr.idle, s.look.eligible a = false))) ∧
     (s.sa.state ≠ .opened → s.sa.state ≠ .night → s.look = s)) ∧
  (∀ (s : State) (e : Entry) (a : Nat) (r : Record), s.entry? e.ticket = some e → s.record? e.ticket = some r →
     a < s.dr.attendants.length →
     let q := s.offer e a
     q.entry? e.ticket = some { e with status := .offered, attendant := some a } ∧
     (q.attendant a).state = .offered ∧ (q.attendant a).idleSince = none ∧ (q.attendant a).ack = some ⟨0, s.dr.ackTime⟩ ∧
     q.dr.idle = s.dr.idle.filter (· != a) ∧ q.ct = s.ct ∧ q.kc = s.kc ∧
     ∀ identity, (s.attendant a).handset = some identity → s.lk.tx.length < 64 →
       q.lk.tx = s.lk.tx ++ [{ site := if s.lk.siteFixed then s.lk.siteId else 0, identity := identity, kind := 0x82,
                               req := 0, body :=
         [.ticket r.ticket, .plate r.plate, .byte e.kind.code, .stall r.stall, .optWord e.due, .half r.hook,
          .word (BitVec.ofNat 32 s.dr.ackTime)] }])

/-- A grant (R11, R52): off the wait list, the stall held, the record GRANTED naming it, and its MOVE entry QUEUED with the
record's tier and the service time; QUEUE_HIGH raised where it leaves the queue at 56 entries or more (R95); STALL_GRANT to
every attendant signed on, in roster order, while the transmit buffer has room (R150, R153, R155). A serving pass (R51): from
the front of the list as it was at its start, it stops where the queue holds 64 entries, passes over a record whose key is not
home or for which allocation finds nothing, and grants any other before it goes on. The end of an event (R50, R118): one pass
where a trigger fell due, then one look where an event for the arbiter did. -/
def Obligations.GrantGivesAStallAndAMoveEntry : Prop :=
  (∀ (s : State) (r : Record) (st : StallId) (x : Stall) (fallback : Bool), s.record? r.ticket = some r →
     s.stall? st.zone st.index = some x → s.entry? r.ticket = none →
     let q := s.grant r st fallback
     (∃ r', q.record? r.ticket = some r' ∧ r'.state = .granted ∧ r'.stall = some st ∧
       r'.flags.chargeUnmet = fallback) ∧
     (q.stall? st.zone st.index).map Stall.holder = some (some r.ticket) ∧
     q.sm.waitList = s.sm.waitList.filter (· != r.ticket) ∧
     q.entry? r.ticket = some
       { kind := .move, ticket := r.ticket, slot := r.slot, status := .queued, attendant := none, tier := r.tier,
         time := s.sa.clock, due := none } ∧
     q.jq.entries.length = s.jq.entries.length + 1 ∧
     (55 ≤ s.jq.entries.length → s.sa.causes.length = 14 → (q.sa.cell .queueHigh).latch = true) ∧
     (s.jq.entries.length < 55 → q.sa = s.sa) ∧
     (s.lk.tx.length ≤ 64 → q.lk.tx = (s.lk.tx ++ (List.range 32).filterMap fun a =>
       if (s.attendant a).state = AttendantState.off then none
       else (s.attendant a).handset.map fun identity =>
         ({ site := if s.lk.siteFixed then s.lk.siteId else 0, identity := identity, kind := 0x84, req := 0
            body := [.ticket r.ticket, .plate r.plate, .stall (some st), .half r.hook] } : HandsetFrame)).take 64)) ∧
  (∀ s : State, s.servePass = s.serveList s.sm.waitList ∧ s.serveList [] = s ∧
     s.servePass.sm.waitList.Sublist s.sm.waitList ∧
     (s.jq.entries.length ≤ 64 → s.servePass.jq.entries.length ≤ 64)) ∧
  (∀ (s : State) (t : Nat) (rest : List Nat),
     (64 ≤ s.jq.entries.length → s.serveList (t :: rest) = s) ∧
     (s.jq.entries.length < 64 → ∀ r, s.record? t = some r →
       let home : Prop := ∃ k, s.hook? r.hook = some k ∧ k.state = .held
       (¬home → s.serveList (t :: rest) = s.serveList rest) ∧
       (home → s.allocate r.grade r.need r.tier = none → s.serveList (t :: rest) = s.serveList rest) ∧
       ∀ st fallback, home → s.allocate r.grade r.need r.tier = some (st, fallback) →
         s.serveList (t :: rest) = (s.grant r st fallback).serveList rest)) ∧
  ∀ s : State,
    let p := if s.due.serve = true then s.servePass else s
    (p.due.look = true → s.finish = { p.look with due := { serve := false, look := false } }) ∧
    (p.due.look = false → s.finish = { p with due := { serve := false, look := false } }) ∧
    (s.due.look = true → p.due.look = true) ∧ (s.due.look = false → p.jq = s.jq → p.due.look = false)

/-! ### Invariants -/

/-- Every step keeps the bounds of the transmit buffer, the lane FIFOs and the wait list (R49, R130, R155). -/
def Obligations.EveryStepKeepsTheListBounds : Prop :=
  ∀ s t : State, BuffersBounded s ∧ WaitListBounded s → step s = .next t → BuffersBounded t ∧ WaitListBounded t

/-- Every step keeps the table: slots below 1,024 in slot order, distinct slots, distinct tickets (R1). -/
def Obligations.EveryStepKeepsTheTable : Prop := ∀ s t : State, TableSound s → step s = .next t → TableSound t

/-- Every step keeps the attention causes: a first cause is latched, a first subject stands only under a set latch (R161,
R163). -/
def Obligations.EveryStepKeepsTheAttentionCauses : Prop :=
  ∀ s t : State, AttentionSound s → step s = .next t → AttentionSound t

/-- Every step keeps COMMISSIONING without live records (R171). -/
def Obligations.EveryStepKeepsCommissioningEmpty : Prop :=
  ∀ s t : State, CommissioningEmpty s → step s = .next t → CommissioningEmpty t

/-- Every step keeps the job queue in queue order (R94). -/
def Obligations.EveryStepKeepsTheQueueInOrder : Prop :=
  ∀ s t : State, QueueOrdered s → step s = .next t → QueueOrdered t

/-- Every step keeps the idle list exactly the IDLE attendants, each once, and every attendant named on the roster (R111,
R113). -/
def Obligations.EveryStepKeepsTheIdleListExact : Prop :=
  ∀ s t : State, IdleListExact s → step s = .next t → IdleListExact t

/-- Every step keeps the wait list exactly the WAITING records, each once and none naming a stall, and every record and its
stall naming each other; the table and COMMISSIONING are as their own invariants say (R33, R49, R66). -/
def Obligations.EveryStepKeepsTheWaitListAndTheHolders : Prop :=
  ∀ s t : State, TableSound s → CommissioningEmpty s → WaitListExact s → StallsAgree s → step s = .next t →
    WaitListExact t ∧ StallsAgree t

/-- Every step keeps every live record and its hook bound to each other, and the FREE hooks exactly those bound to nothing
(R69, R70, R72); the table is as its own invariant says. -/
def Obligations.EveryStepKeepsTheHookBindings : Prop :=
  ∀ s t : State, TableSound s → HooksAgree s → step s = .next t → HooksAgree t

/-- Every step keeps the job queue at 64 entries or fewer, one for each record that owes one, in agreement with the records and
with the attendants at work; the table and the wait list are as their own invariants say (R92, R93). -/
def Obligations.EveryStepKeepsTheJobQueueInAgreement : Prop :=
  ∀ s t : State, TableSound s → WaitListExact s → JobsAgree s → step s = .next t → JobsAgree t
end

