-- ==== Sys2Proof/Laws/State.lean ====
section
/-! SUPPORT. What one update leaves: for each operation that changes a block, the blocks it does not touch, as rewrite rules;
then the fields of a block that the operation on one of its tables leaves. -/

namespace Sys2Proof.Machine

variable (s : State)

@[simp] theorem State.serveDue_frame :
    (s.serveDue).ct = s.ct ∧ (s.serveDue).sm = s.sm ∧ (s.serveDue).zl = s.zl ∧
      (s.serveDue).kc = s.kc ∧ (s.serveDue).jq = s.jq ∧ (s.serveDue).dr = s.dr ∧
      (s.serveDue).km = s.km ∧ (s.serveDue).lk = s.lk ∧ (s.serveDue).sa = s.sa ∧
      (s.serveDue).pw = s.pw ∧ (s.serveDue).pending = s.pending :=
  ⟨rfl, rfl, rfl, rfl, rfl, rfl, rfl, rfl, rfl, rfl, rfl⟩

@[simp] theorem State.lookDue_frame :
    (s.lookDue).ct = s.ct ∧ (s.lookDue).sm = s.sm ∧ (s.lookDue).zl = s.zl ∧
      (s.lookDue).kc = s.kc ∧ (s.lookDue).jq = s.jq ∧ (s.lookDue).dr = s.dr ∧
      (s.lookDue).km = s.km ∧ (s.lookDue).lk = s.lk ∧ (s.lookDue).sa = s.sa ∧
      (s.lookDue).pw = s.pw ∧ (s.lookDue).pending = s.pending :=
  ⟨rfl, rfl, rfl, rfl, rfl, rfl, rfl, rfl, rfl, rfl, rfl⟩

@[simp] theorem State.serveIf_frame (b : Bool) :
    (s.serveIf b).ct = s.ct ∧ (s.serveIf b).sm = s.sm ∧ (s.serveIf b).zl = s.zl ∧
      (s.serveIf b).kc = s.kc ∧ (s.serveIf b).jq = s.jq ∧ (s.serveIf b).dr = s.dr ∧
      (s.serveIf b).km = s.km ∧ (s.serveIf b).lk = s.lk ∧ (s.serveIf b).sa = s.sa ∧
      (s.serveIf b).pw = s.pw ∧ (s.serveIf b).pending = s.pending :=
  by
  unfold State.serveIf; (repeat' split) <;> simp

@[simp] theorem State.lookIf_frame (b : Bool) :
    (s.lookIf b).ct = s.ct ∧ (s.lookIf b).sm = s.sm ∧ (s.lookIf b).zl = s.zl ∧
      (s.lookIf b).kc = s.kc ∧ (s.lookIf b).jq = s.jq ∧ (s.lookIf b).dr = s.dr ∧
      (s.lookIf b).km = s.km ∧ (s.lookIf b).lk = s.lk ∧ (s.lookIf b).sa = s.sa ∧
      (s.lookIf b).pw = s.pw ∧ (s.lookIf b).pending = s.pending :=
  by
  unfold State.lookIf; (repeat' split) <;> simp

@[simp] theorem State.begin_frame :
    (s.begin).ct = s.ct ∧ (s.begin).sm = s.sm ∧ (s.begin).zl = s.zl ∧
      (s.begin).jq = s.jq ∧ (s.begin).dr = s.dr ∧ (s.begin).km = s.km ∧
      (s.begin).lk = s.lk ∧ (s.begin).sa = s.sa ∧ (s.begin).pw = s.pw ∧
      (s.begin).pending = s.pending :=
  ⟨rfl, rfl, rfl, rfl, rfl, rfl, rfl, rfl, rfl, rfl⟩

@[simp] theorem State.modRecord_frame (t : Nat) (f : Record → Record) :
    (s.modRecord t f).sm = s.sm ∧ (s.modRecord t f).zl = s.zl ∧ (s.modRecord t f).kc = s.kc ∧
      (s.modRecord t f).jq = s.jq ∧ (s.modRecord t f).dr = s.dr ∧ (s.modRecord t f).km = s.km ∧
      (s.modRecord t f).lk = s.lk ∧ (s.modRecord t f).sa = s.sa ∧ (s.modRecord t f).pw = s.pw ∧
      (s.modRecord t f).due = s.due ∧ (s.modRecord t f).pending = s.pending :=
  ⟨rfl, rfl, rfl, rfl, rfl, rfl, rfl, rfl, rfl, rfl, rfl⟩

@[simp] theorem State.addRecord_frame (r : Record) :
    (s.addRecord r).sm = s.sm ∧ (s.addRecord r).zl = s.zl ∧ (s.addRecord r).kc = s.kc ∧
      (s.addRecord r).jq = s.jq ∧ (s.addRecord r).dr = s.dr ∧ (s.addRecord r).km = s.km ∧
      (s.addRecord r).lk = s.lk ∧ (s.addRecord r).sa = s.sa ∧ (s.addRecord r).pw = s.pw ∧
      (s.addRecord r).due = s.due ∧ (s.addRecord r).pending = s.pending :=
  ⟨rfl, rfl, rfl, rfl, rfl, rfl, rfl, rfl, rfl, rfl, rfl⟩

@[simp] theorem State.dropRecord_frame (t : Nat) :
    (s.dropRecord t).sm = s.sm ∧ (s.dropRecord t).zl = s.zl ∧ (s.dropRecord t).kc = s.kc ∧
      (s.dropRecord t).jq = s.jq ∧ (s.dropRecord t).dr = s.dr ∧ (s.dropRecord t).km = s.km ∧
      (s.dropRecord t).lk = s.lk ∧ (s.dropRecord t).sa = s.sa ∧ (s.dropRecord t).pw = s.pw ∧
      (s.dropRecord t).due = s.due ∧ (s.dropRecord t).pending = s.pending :=
  ⟨rfl, rfl, rfl, rfl, rfl, rfl, rfl, rfl, rfl, rfl, rfl⟩

@[simp] theorem State.modZone_frame (z : Nat) (f : Zone → Zone) :
    (s.modZone z f).ct = s.ct ∧ (s.modZone z f).zl = s.zl ∧ (s.modZone z f).kc = s.kc ∧
      (s.modZone z f).jq = s.jq ∧ (s.modZone z f).dr = s.dr ∧ (s.modZone z f).km = s.km ∧
      (s.modZone z f).lk = s.lk ∧ (s.modZone z f).sa = s.sa ∧ (s.modZone z f).pw = s.pw ∧
      (s.modZone z f).due = s.due ∧ (s.modZone z f).pending = s.pending :=
  ⟨rfl, rfl, rfl, rfl, rfl, rfl, rfl, rfl, rfl, rfl, rfl⟩

@[simp] theorem State.modStall_frame (z i : Nat) (f : Stall → Stall) :
    (s.modStall z i f).ct = s.ct ∧ (s.modStall z i f).zl = s.zl ∧ (s.modStall z i f).kc = s.kc ∧
      (s.modStall z i f).jq = s.jq ∧ (s.modStall z i f).dr = s.dr ∧ (s.modStall z i f).km = s.km ∧
      (s.modStall z i f).lk = s.lk ∧ (s.modStall z i f).sa = s.sa ∧ (s.modStall z i f).pw = s.pw ∧
      (s.modStall z i f).due = s.due ∧ (s.modStall z i f).pending = s.pending :=
  ⟨rfl, rfl, rfl, rfl, rfl, rfl, rfl, rfl, rfl, rfl, rfl⟩

@[simp] theorem State.setLink_frame (z : Nat) (k : ZoneLink) :
    (s.setLink z k).ct = s.ct ∧ (s.setLink z k).sm = s.sm ∧ (s.setLink z k).kc = s.kc ∧
      (s.setLink z k).jq = s.jq ∧ (s.setLink z k).dr = s.dr ∧ (s.setLink z k).km = s.km ∧
      (s.setLink z k).lk = s.lk ∧ (s.setLink z k).sa = s.sa ∧ (s.setLink z k).pw = s.pw ∧
      (s.setLink z k).due = s.due ∧ (s.setLink z k).pending = s.pending :=
  ⟨rfl, rfl, rfl, rfl, rfl, rfl, rfl, rfl, rfl, rfl, rfl⟩

@[simp] theorem State.resetRuns_frame (st : Option StallId) :
    (s.resetRuns st).ct = s.ct ∧ (s.resetRuns st).zl = s.zl ∧ (s.resetRuns st).kc = s.kc ∧
      (s.resetRuns st).jq = s.jq ∧ (s.resetRuns st).dr = s.dr ∧ (s.resetRuns st).km = s.km ∧
      (s.resetRuns st).lk = s.lk ∧ (s.resetRuns st).sa = s.sa ∧ (s.resetRuns st).pw = s.pw ∧
      (s.resetRuns st).due = s.due ∧ (s.resetRuns st).pending = s.pending :=
  by
  unfold State.resetRuns; (repeat' split) <;> simp

@[simp] theorem State.setWaitList_frame (l : List Nat) :
    (s.setWaitList l).ct = s.ct ∧ (s.setWaitList l).zl = s.zl ∧ (s.setWaitList l).kc = s.kc ∧
      (s.setWaitList l).jq = s.jq ∧ (s.setWaitList l).dr = s.dr ∧ (s.setWaitList l).km = s.km ∧
      (s.setWaitList l).lk = s.lk ∧ (s.setWaitList l).sa = s.sa ∧ (s.setWaitList l).pw = s.pw ∧
      (s.setWaitList l).due = s.due ∧ (s.setWaitList l).pending = s.pending :=
  ⟨rfl, rfl, rfl, rfl, rfl, rfl, rfl, rfl, rfl, rfl, rfl⟩

@[simp] theorem State.leaveWaitList_frame (t : Nat) :
    (s.leaveWaitList t).ct = s.ct ∧ (s.leaveWaitList t).zl = s.zl ∧ (s.leaveWaitList t).kc = s.kc ∧
      (s.leaveWaitList t).jq = s.jq ∧ (s.leaveWaitList t).dr = s.dr ∧ (s.leaveWaitList t).km = s.km ∧
      (s.leaveWaitList t).lk = s.lk ∧ (s.leaveWaitList t).sa = s.sa ∧ (s.leaveWaitList t).pw = s.pw ∧
      (s.leaveWaitList t).due = s.due ∧ (s.leaveWaitList t).pending = s.pending :=
  ⟨rfl, rfl, rfl, rfl, rfl, rfl, rfl, rfl, rfl, rfl, rfl⟩

@[simp] theorem State.joinWaitList_frame (t : Nat) :
    (s.joinWaitList t).ct = s.ct ∧ (s.joinWaitList t).zl = s.zl ∧ (s.joinWaitList t).kc = s.kc ∧
      (s.joinWaitList t).jq = s.jq ∧ (s.joinWaitList t).dr = s.dr ∧ (s.joinWaitList t).km = s.km ∧
      (s.joinWaitList t).lk = s.lk ∧ (s.joinWaitList t).pw = s.pw ∧ (s.joinWaitList t).due = s.due ∧
      (s.joinWaitList t).pending = s.pending :=
  ⟨rfl, rfl, rfl, rfl, rfl, rfl, rfl, rfl, rfl, rfl⟩

@[simp] theorem State.modPanel_frame (p : Nat) (f : Panel → Panel) :
    (s.modPanel p f).ct = s.ct ∧ (s.modPanel p f).sm = s.sm ∧ (s.modPanel p f).zl = s.zl ∧
      (s.modPanel p f).jq = s.jq ∧ (s.modPanel p f).dr = s.dr ∧ (s.modPanel p f).km = s.km ∧
      (s.modPanel p f).lk = s.lk ∧ (s.modPanel p f).sa = s.sa ∧ (s.modPanel p f).pw = s.pw ∧
      (s.modPanel p f).due = s.due ∧ (s.modPanel p f).pending = s.pending :=
  ⟨rfl, rfl, rfl, rfl, rfl, rfl, rfl, rfl, rfl, rfl, rfl⟩

@[simp] theorem State.modHook_frame (h : Nat) (f : Hook → Hook) :
    (s.modHook h f).ct = s.ct ∧ (s.modHook h f).sm = s.sm ∧ (s.modHook h f).zl = s.zl ∧
      (s.modHook h f).jq = s.jq ∧ (s.modHook h f).dr = s.dr ∧ (s.modHook h f).km = s.km ∧
      (s.modHook h f).lk = s.lk ∧ (s.modHook h f).sa = s.sa ∧ (s.modHook h f).pw = s.pw ∧
      (s.modHook h f).due = s.due ∧ (s.modHook h f).pending = s.pending :=
  ⟨rfl, rfl, rfl, rfl, rfl, rfl, rfl, rfl, rfl, rfl, rfl⟩

@[simp] theorem State.modAttendant_frame (a : Nat) (f : Attendant → Attendant) :
    (s.modAttendant a f).ct = s.ct ∧ (s.modAttendant a f).sm = s.sm ∧ (s.modAttendant a f).zl = s.zl ∧
      (s.modAttendant a f).kc = s.kc ∧ (s.modAttendant a f).jq = s.jq ∧ (s.modAttendant a f).km = s.km ∧
      (s.modAttendant a f).lk = s.lk ∧ (s.modAttendant a f).sa = s.sa ∧ (s.modAttendant a f).pw = s.pw ∧
      (s.modAttendant a f).due = s.due ∧ (s.modAttendant a f).pending = s.pending :=
  ⟨rfl, rfl, rfl, rfl, rfl, rfl, rfl, rfl, rfl, rfl, rfl⟩

@[simp] theorem State.setIdle_frame (l : List Nat) :
    (s.setIdle l).ct = s.ct ∧ (s.setIdle l).sm = s.sm ∧ (s.setIdle l).zl = s.zl ∧
      (s.setIdle l).kc = s.kc ∧ (s.setIdle l).jq = s.jq ∧ (s.setIdle l).km = s.km ∧
      (s.setIdle l).lk = s.lk ∧ (s.setIdle l).sa = s.sa ∧ (s.setIdle l).pw = s.pw ∧
      (s.setIdle l).due = s.due ∧ (s.setIdle l).pending = s.pending :=
  ⟨rfl, rfl, rfl, rfl, rfl, rfl, rfl, rfl, rfl, rfl, rfl⟩

@[simp] theorem State.idleBack_frame (a : Nat) :
    (s.idleBack a).ct = s.ct ∧ (s.idleBack a).sm = s.sm ∧ (s.idleBack a).zl = s.zl ∧
      (s.idleBack a).kc = s.kc ∧ (s.idleBack a).jq = s.jq ∧ (s.idleBack a).km = s.km ∧
      (s.idleBack a).lk = s.lk ∧ (s.idleBack a).sa = s.sa ∧ (s.idleBack a).pw = s.pw ∧
      (s.idleBack a).pending = s.pending :=
  ⟨rfl, rfl, rfl, rfl, rfl, rfl, rfl, rfl, rfl, rfl⟩

@[simp] theorem State.idleFront_frame (a : Nat) :
    (s.idleFront a).ct = s.ct ∧ (s.idleFront a).sm = s.sm ∧ (s.idleFront a).zl = s.zl ∧
      (s.idleFront a).kc = s.kc ∧ (s.idleFront a).jq = s.jq ∧ (s.idleFront a).km = s.km ∧
      (s.idleFront a).lk = s.lk ∧ (s.idleFront a).sa = s.sa ∧ (s.idleFront a).pw = s.pw ∧
      (s.idleFront a).pending = s.pending :=
  ⟨rfl, rfl, rfl, rfl, rfl, rfl, rfl, rfl, rfl, rfl⟩

@[simp] theorem State.leaveIdle_frame (a : Nat) (st : AttendantState) :
    (s.leaveIdle a st).ct = s.ct ∧ (s.leaveIdle a st).sm = s.sm ∧ (s.leaveIdle a st).zl = s.zl ∧
      (s.leaveIdle a st).kc = s.kc ∧ (s.leaveIdle a st).jq = s.jq ∧ (s.leaveIdle a st).km = s.km ∧
      (s.leaveIdle a st).lk = s.lk ∧ (s.leaveIdle a st).sa = s.sa ∧ (s.leaveIdle a st).pw = s.pw ∧
      (s.leaveIdle a st).due = s.due ∧ (s.leaveIdle a st).pending = s.pending :=
  ⟨rfl, rfl, rfl, rfl, rfl, rfl, rfl, rfl, rfl, rfl, rfl⟩

@[simp] theorem State.modBay_frame (b : Nat) (f : Bay → Bay) :
    (s.modBay b f).ct = s.ct ∧ (s.modBay b f).sm = s.sm ∧ (s.modBay b f).zl = s.zl ∧
      (s.modBay b f).kc = s.kc ∧ (s.modBay b f).jq = s.jq ∧ (s.modBay b f).dr = s.dr ∧
      (s.modBay b f).lk = s.lk ∧ (s.modBay b f).sa = s.sa ∧ (s.modBay b f).pw = s.pw ∧
      (s.modBay b f).due = s.due ∧ (s.modBay b f).pending = s.pending :=
  ⟨rfl, rfl, rfl, rfl, rfl, rfl, rfl, rfl, rfl, rfl, rfl⟩

@[simp] theorem State.modLane_frame (l : Nat) (f : Lane → Lane) :
    (s.modLane l f).ct = s.ct ∧ (s.modLane l f).sm = s.sm ∧ (s.modLane l f).zl = s.zl ∧
      (s.modLane l f).kc = s.kc ∧ (s.modLane l f).jq = s.jq ∧ (s.modLane l f).dr = s.dr ∧
      (s.modLane l f).lk = s.lk ∧ (s.modLane l f).sa = s.sa ∧ (s.modLane l f).pw = s.pw ∧
      (s.modLane l f).due = s.due ∧ (s.modLane l f).pending = s.pending :=
  ⟨rfl, rfl, rfl, rfl, rfl, rfl, rfl, rfl, rfl, rfl, rfl⟩

@[simp] theorem State.pushFrame_frame (f : HandsetFrame) :
    (s.pushFrame f).ct = s.ct ∧ (s.pushFrame f).sm = s.sm ∧ (s.pushFrame f).zl = s.zl ∧
      (s.pushFrame f).kc = s.kc ∧ (s.pushFrame f).jq = s.jq ∧ (s.pushFrame f).dr = s.dr ∧
      (s.pushFrame f).km = s.km ∧ (s.pushFrame f).sa = s.sa ∧ (s.pushFrame f).pw = s.pw ∧
      (s.pushFrame f).due = s.due ∧ (s.pushFrame f).pending = s.pending :=
  by
  unfold State.pushFrame; (repeat' split) <;> simp

@[simp] theorem State.sendTo_frame (a kind : Nat) (body : List Value) :
    (s.sendTo a kind body).ct = s.ct ∧ (s.sendTo a kind body).sm = s.sm ∧ (s.sendTo a kind body).zl = s.zl ∧
      (s.sendTo a kind body).kc = s.kc ∧ (s.sendTo a kind body).jq = s.jq ∧ (s.sendTo a kind body).dr = s.dr ∧
      (s.sendTo a kind body).km = s.km ∧ (s.sendTo a kind body).sa = s.sa ∧ (s.sendTo a kind body).pw = s.pw ∧
      (s.sendTo a kind body).due = s.due ∧ (s.sendTo a kind body).pending = s.pending :=
  by
  unfold State.sendTo; (repeat' split) <;> simp

@[simp] theorem State.sendWithdrawn_frame (a t reason : Nat) :
    (s.sendWithdrawn a t reason).ct = s.ct ∧ (s.sendWithdrawn a t reason).sm = s.sm ∧ (s.sendWithdrawn a t reason).zl = s.zl ∧
      (s.sendWithdrawn a t reason).kc = s.kc ∧ (s.sendWithdrawn a t reason).jq = s.jq ∧ (s.sendWithdrawn a t reason).dr = s.dr ∧
      (s.sendWithdrawn a t reason).km = s.km ∧ (s.sendWithdrawn a t reason).sa = s.sa ∧ (s.sendWithdrawn a t reason).pw = s.pw ∧
      (s.sendWithdrawn a t reason).due = s.due ∧ (s.sendWithdrawn a t reason).pending = s.pending :=
  by
  simp [State.sendWithdrawn]

@[simp] theorem State.raise_frame (c : Cause) (x : Option Nat) :
    (s.raise c x).ct = s.ct ∧ (s.raise c x).sm = s.sm ∧ (s.raise c x).zl = s.zl ∧
      (s.raise c x).kc = s.kc ∧ (s.raise c x).jq = s.jq ∧ (s.raise c x).dr = s.dr ∧
      (s.raise c x).km = s.km ∧ (s.raise c x).lk = s.lk ∧ (s.raise c x).pw = s.pw ∧
      (s.raise c x).due = s.due ∧ (s.raise c x).pending = s.pending :=
  ⟨rfl, rfl, rfl, rfl, rfl, rfl, rfl, rfl, rfl, rfl, rfl⟩

@[simp] theorem State.setEntries_frame (l : List Entry) :
    (s.setEntries l).ct = s.ct ∧ (s.setEntries l).sm = s.sm ∧ (s.setEntries l).zl = s.zl ∧
      (s.setEntries l).kc = s.kc ∧ (s.setEntries l).dr = s.dr ∧ (s.setEntries l).km = s.km ∧
      (s.setEntries l).lk = s.lk ∧ (s.setEntries l).sa = s.sa ∧ (s.setEntries l).pw = s.pw ∧
      (s.setEntries l).due = s.due ∧ (s.setEntries l).pending = s.pending :=
  ⟨rfl, rfl, rfl, rfl, rfl, rfl, rfl, rfl, rfl, rfl, rfl⟩

@[simp] theorem State.modEntry_frame (t : Nat) (f : Entry → Entry) :
    (s.modEntry t f).ct = s.ct ∧ (s.modEntry t f).sm = s.sm ∧ (s.modEntry t f).zl = s.zl ∧
      (s.modEntry t f).kc = s.kc ∧ (s.modEntry t f).dr = s.dr ∧ (s.modEntry t f).km = s.km ∧
      (s.modEntry t f).lk = s.lk ∧ (s.modEntry t f).sa = s.sa ∧ (s.modEntry t f).pw = s.pw ∧
      (s.modEntry t f).due = s.due ∧ (s.modEntry t f).pending = s.pending :=
  ⟨rfl, rfl, rfl, rfl, rfl, rfl, rfl, rfl, rfl, rfl, rfl⟩

@[simp] theorem State.sendLatch_frame (h : Nat) (p : Latch) :
    (s.sendLatch h p).ct = s.ct ∧ (s.sendLatch h p).sm = s.sm ∧ (s.sendLatch h p).zl = s.zl ∧
      (s.sendLatch h p).jq = s.jq ∧ (s.sendLatch h p).dr = s.dr ∧ (s.sendLatch h p).km = s.km ∧
      (s.sendLatch h p).lk = s.lk ∧ (s.sendLatch h p).sa = s.sa ∧ (s.sendLatch h p).pw = s.pw ∧
      (s.sendLatch h p).due = s.due ∧ (s.sendLatch h p).pending = s.pending :=
  ⟨rfl, rfl, rfl, rfl, rfl, rfl, rfl, rfl, rfl, rfl, rfl⟩

/-! ### Fields of a touched block -/

@[simp] theorem State.serveIf_look (b : Bool) : (s.serveIf b).due.look = s.due.look := by
  cases b <;> rfl

@[simp] theorem State.lookIf_serve (b : Bool) : (s.lookIf b).due.serve = s.due.serve := by
  cases b <;> rfl

@[simp] theorem State.modRecord_ct (t : Nat) (f : Record → Record) :
    (s.modRecord t f).ct.counter = s.ct.counter ∧ (s.modRecord t f).ct.cursor = s.ct.cursor ∧
      (s.modRecord t f).ct.parkLimit = s.ct.parkLimit := ⟨rfl, rfl, rfl⟩

@[simp] theorem State.modStall_sm (z i : Nat) (f : Stall → Stall) :
    (s.modStall z i f).sm.gradeSlots = s.sm.gradeSlots ∧ (s.modStall z i f).sm.prefs = s.sm.prefs ∧
      (s.modStall z i f).sm.waitList = s.sm.waitList := ⟨rfl, rfl, rfl⟩

@[simp] theorem State.modZone_sm (z : Nat) (f : Zone → Zone) :
    (s.modZone z f).sm.gradeSlots = s.sm.gradeSlots ∧ (s.modZone z f).sm.prefs = s.sm.prefs ∧
      (s.modZone z f).sm.waitList = s.sm.waitList := ⟨rfl, rfl, rfl⟩

@[simp] theorem State.resetRuns_sm (st : Option StallId) :
    (s.resetRuns st).sm.gradeSlots = s.sm.gradeSlots ∧ (s.resetRuns st).sm.prefs = s.sm.prefs ∧
      (s.resetRuns st).sm.waitList = s.sm.waitList := by
  unfold State.resetRuns; split <;> simp

@[simp] theorem State.setWaitList_sm (l : List Nat) :
    (s.setWaitList l).sm.zones = s.sm.zones ∧ (s.setWaitList l).sm.gradeSlots = s.sm.gradeSlots ∧
      (s.setWaitList l).sm.prefs = s.sm.prefs ∧ (s.setWaitList l).sm.waitList = l := ⟨rfl, rfl, rfl, rfl⟩

@[simp] theorem State.leaveWaitList_sm (t : Nat) :
    (s.leaveWaitList t).sm.zones = s.sm.zones ∧ (s.leaveWaitList t).sm.gradeSlots = s.sm.gradeSlots ∧
      (s.leaveWaitList t).sm.prefs = s.sm.prefs ∧
      (s.leaveWaitList t).sm.waitList = s.sm.waitList.filter (· != t) := ⟨rfl, rfl, rfl, rfl⟩

@[simp] theorem State.joinWaitList_sm (t : Nat) :
    (s.joinWaitList t).sm.zones = s.sm.zones ∧ (s.joinWaitList t).sm.gradeSlots = s.sm.gradeSlots ∧
      (s.joinWaitList t).sm.prefs = s.sm.prefs ∧
      (s.joinWaitList t).sm.waitList = s.sm.waitList ++ [t] := ⟨rfl, rfl, rfl, rfl⟩

@[simp] theorem State.modHook_kc (h : Nat) (f : Hook → Hook) :
    (s.modHook h f).kc.windowTime = s.kc.windowTime ∧ (s.modHook h f).kc.custodyLimit = s.kc.custodyLimit ∧
      (s.modHook h f).kc.sent = s.kc.sent := ⟨rfl, rfl, rfl⟩

@[simp] theorem State.sendLatch_kc (h : Nat) (p : Latch) :
    (s.sendLatch h p).kc.windowTime = s.kc.windowTime ∧ (s.sendLatch h p).kc.custodyLimit = s.kc.custodyLimit ∧
      (s.sendLatch h p).kc.sent = s.kc.sent ++ [⟨h, p⟩] := ⟨rfl, rfl, rfl⟩

@[simp] theorem State.begin_kc :
    s.begin.kc.panels = s.kc.panels ∧ s.begin.kc.windowTime = s.kc.windowTime ∧
      s.begin.kc.custodyLimit = s.kc.custodyLimit ∧ s.begin.kc.sent = [] ∧ s.begin.due = .clear :=
  ⟨rfl, rfl, rfl, rfl, rfl⟩

@[simp] theorem State.setEntries_jq (l : List Entry) :
    (s.setEntries l).jq.entries = l ∧ (s.setEntries l).jq.leads = s.jq.leads := ⟨rfl, rfl⟩

@[simp] theorem State.modEntry_jq (t : Nat) (f : Entry → Entry) :
    (s.modEntry t f).jq.entries = s.jq.entries.map (fun e => if e.ticket = t then f e else e) ∧
      (s.modEntry t f).jq.leads = s.jq.leads := ⟨rfl, rfl⟩

@[simp] theorem State.modAttendant_dr (a : Nat) (f : Attendant → Attendant) :
    (s.modAttendant a f).dr.idle = s.dr.idle ∧ (s.modAttendant a f).dr.ackTime = s.dr.ackTime := ⟨rfl, rfl⟩

@[simp] theorem State.setIdle_dr (l : List Nat) :
    (s.setIdle l).dr.attendants = s.dr.attendants ∧ (s.setIdle l).dr.ackTime = s.dr.ackTime ∧
      (s.setIdle l).dr.idle = l := ⟨rfl, rfl, rfl⟩

@[simp] theorem State.leaveIdle_dr (a : Nat) (st : AttendantState) :
    (s.leaveIdle a st).dr.idle = s.dr.idle.filter (· != a) ∧ (s.leaveIdle a st).dr.ackTime = s.dr.ackTime :=
  ⟨rfl, rfl⟩

@[simp] theorem State.idleBack_dr (a : Nat) :
    (s.idleBack a).dr.idle = s.dr.idle.filter (· != a) ++ [a] ∧ (s.idleBack a).dr.ackTime = s.dr.ackTime ∧
      (s.idleBack a).due.look = true ∧ (s.idleBack a).due.serve = s.due.serve := ⟨rfl, rfl, rfl, rfl⟩

@[simp] theorem State.modBay_km (b : Nat) (f : Bay → Bay) :
    (s.modBay b f).km.lanes = s.km.lanes ∧ (s.modBay b f).km.dwellTime = s.km.dwellTime := ⟨rfl, rfl⟩

@[simp] theorem State.modLane_km (l : Nat) (f : Lane → Lane) :
    (s.modLane l f).km.bays = s.km.bays ∧ (s.modLane l f).km.dwellTime = s.km.dwellTime := ⟨rfl, rfl⟩

/-- A frame joins the buffer or is discarded; nothing else of the links changes (R155). -/
@[simp] theorem State.pushFrame_lk (f : HandsetFrame) :
    (s.pushFrame f).lk.siteId = s.lk.siteId ∧ (s.pushFrame f).lk.siteFixed = s.lk.siteFixed ∧
      (s.pushFrame f).lk.response = s.lk.response ∧ (s.pushFrame f).lk.shift = s.lk.shift ∧
      (s.pushFrame f).lk.permits = s.lk.permits ∧ (s.pushFrame f).lk.mask = s.lk.mask ∧
      (s.pushFrame f).lk.chainOut = s.lk.chainOut := by
  unfold State.pushFrame; split <;> simp

/-- A message on the controller's own account changes the transmit buffer alone (R150, R155). -/
@[simp] theorem State.sendTo_lk (a kind : Nat) (body : List Value) :
    (s.sendTo a kind body).lk.siteId = s.lk.siteId ∧ (s.sendTo a kind body).lk.siteFixed = s.lk.siteFixed ∧
      (s.sendTo a kind body).lk.response = s.lk.response ∧ (s.sendTo a kind body).lk.shift = s.lk.shift ∧
      (s.sendTo a kind body).lk.permits = s.lk.permits ∧ (s.sendTo a kind body).lk.mask = s.lk.mask ∧
      (s.sendTo a kind body).lk.chainOut = s.lk.chainOut := by
  unfold State.sendTo; split <;> simp

@[simp] theorem Service.raise_frame (sa : Service) (c : Cause) (x : Option Nat) :
    (sa.raise c x).state = sa.state ∧ (sa.raise c x).clock = sa.clock ∧ (sa.raise c x).elapsed = sa.elapsed ∧
      (sa.raise c x).master = sa.master ∧ (sa.raise c x).recovery = sa.recovery ∧
      (sa.raise c x).causes.length = sa.causes.length := by
  unfold Service.raise; split <;> simp

@[simp] theorem State.raise_sa (c : Cause) (x : Option Nat) : (s.raise c x).sa = s.sa.raise c x := rfl

end Sys2Proof.Machine
end

