-- ==== Sys2Proof/Laws/Frames.lean ====
section
/-! SUPPORT. The blocks that each shared operation of several updates leaves as they were, so that a proof about one block
passes over the operations on the others. -/

set_option linter.unusedTactic false
set_option linter.unnecessarySeqFocus false

namespace Sys2Proof.Machine

variable (s : State)

@[simp] theorem State.updHook_frame (h : Nat) (f : Hook → Hook) :
    (s.updHook h f).ct = s.ct ∧ (s.updHook h f).sm = s.sm ∧ (s.updHook h f).zl = s.zl ∧
      (s.updHook h f).jq = s.jq ∧ (s.updHook h f).dr = s.dr ∧ (s.updHook h f).km = s.km ∧
      (s.updHook h f).lk = s.lk ∧ (s.updHook h f).sa = s.sa ∧ (s.updHook h f).pw = s.pw ∧
      (s.updHook h f).pending = s.pending := by
  unfold State.updHook; (try dsimp only); (repeat' split) <;> simp

@[simp] theorem State.bindHook_frame (h t : Nat) :
    (s.bindHook h t).ct = s.ct ∧ (s.bindHook h t).sm = s.sm ∧ (s.bindHook h t).zl = s.zl ∧
      (s.bindHook h t).jq = s.jq ∧ (s.bindHook h t).dr = s.dr ∧ (s.bindHook h t).km = s.km ∧
      (s.bindHook h t).lk = s.lk ∧ (s.bindHook h t).sa = s.sa ∧ (s.bindHook h t).pw = s.pw ∧
      (s.bindHook h t).pending = s.pending := by
  unfold State.bindHook; (try dsimp only); (repeat' split) <;> simp

@[simp] theorem State.unbindHook_frame (h t : Nat) :
    (s.unbindHook h t).ct = s.ct ∧ (s.unbindHook h t).sm = s.sm ∧ (s.unbindHook h t).zl = s.zl ∧
      (s.unbindHook h t).jq = s.jq ∧ (s.unbindHook h t).dr = s.dr ∧ (s.unbindHook h t).km = s.km ∧
      (s.unbindHook h t).lk = s.lk ∧ (s.unbindHook h t).sa = s.sa ∧ (s.unbindHook h t).pw = s.pw ∧
      (s.unbindHook h t).pending = s.pending := by
  unfold State.unbindHook; (try dsimp only); (repeat' split) <;> simp

@[simp] theorem State.requestWindow_frame (h a : Nat) :
    (s.requestWindow h a).ct = s.ct ∧ (s.requestWindow h a).sm = s.sm ∧ (s.requestWindow h a).zl = s.zl ∧
      (s.requestWindow h a).jq = s.jq ∧ (s.requestWindow h a).dr = s.dr ∧ (s.requestWindow h a).km = s.km ∧
      (s.requestWindow h a).lk = s.lk ∧ (s.requestWindow h a).sa = s.sa ∧ (s.requestWindow h a).pw = s.pw ∧
      (s.requestWindow h a).pending = s.pending := by
  unfold State.requestWindow; (try dsimp only); (repeat' split) <;> simp

@[simp] theorem State.endWindow_frame (h : Nat) :
    (s.endWindow h).ct = s.ct ∧ (s.endWindow h).sm = s.sm ∧ (s.endWindow h).zl = s.zl ∧
      (s.endWindow h).jq = s.jq ∧ (s.endWindow h).dr = s.dr ∧ (s.endWindow h).km = s.km ∧
      (s.endWindow h).lk = s.lk ∧ (s.endWindow h).sa = s.sa ∧ (s.endWindow h).pw = s.pw ∧
      (s.endWindow h).pending = s.pending := by
  unfold State.endWindow; (try dsimp only); (repeat' split) <;> simp

@[simp] theorem State.reparkHook_frame (h a : Nat) :
    (s.reparkHook h a).ct = s.ct ∧ (s.reparkHook h a).sm = s.sm ∧ (s.reparkHook h a).zl = s.zl ∧
      (s.reparkHook h a).jq = s.jq ∧ (s.reparkHook h a).dr = s.dr ∧ (s.reparkHook h a).km = s.km ∧
      (s.reparkHook h a).lk = s.lk ∧ (s.reparkHook h a).sa = s.sa ∧ (s.reparkHook h a).pw = s.pw ∧
      (s.reparkHook h a).pending = s.pending := by
  unfold State.reparkHook; (try dsimp only); (repeat' split) <;> simp

@[simp] theorem State.addEntry_frame (e : Entry) :
    (s.addEntry e).ct = s.ct ∧ (s.addEntry e).sm = s.sm ∧ (s.addEntry e).zl = s.zl ∧
      (s.addEntry e).kc = s.kc ∧ (s.addEntry e).dr = s.dr ∧ (s.addEntry e).km = s.km ∧
      (s.addEntry e).lk = s.lk ∧ (s.addEntry e).pw = s.pw ∧ (s.addEntry e).pending = s.pending := by
  unfold State.addEntry; (try dsimp only); (repeat' split) <;> simp

@[simp] theorem State.removeEntry_frame (t : Nat) :
    (s.removeEntry t).ct = s.ct ∧ (s.removeEntry t).sm = s.sm ∧ (s.removeEntry t).zl = s.zl ∧
      (s.removeEntry t).kc = s.kc ∧ (s.removeEntry t).dr = s.dr ∧ (s.removeEntry t).km = s.km ∧
      (s.removeEntry t).lk = s.lk ∧ (s.removeEntry t).sa = s.sa ∧ (s.removeEntry t).pw = s.pw ∧
      (s.removeEntry t).pending = s.pending := by
  unfold State.removeEntry; (try dsimp only); (repeat' split) <;> simp

@[simp] theorem State.requeue_frame (t : Nat) :
    (s.requeue t).ct = s.ct ∧ (s.requeue t).sm = s.sm ∧ (s.requeue t).zl = s.zl ∧
      (s.requeue t).kc = s.kc ∧ (s.requeue t).dr = s.dr ∧ (s.requeue t).km = s.km ∧
      (s.requeue t).lk = s.lk ∧ (s.requeue t).sa = s.sa ∧ (s.requeue t).pw = s.pw ∧
      (s.requeue t).pending = s.pending := by
  unfold State.requeue; (try dsimp only); (repeat' split) <;> simp

@[simp] theorem State.upgradeEntry_frame (t tier : Nat) :
    (s.upgradeEntry t tier).ct = s.ct ∧ (s.upgradeEntry t tier).sm = s.sm ∧ (s.upgradeEntry t tier).zl = s.zl ∧
      (s.upgradeEntry t tier).kc = s.kc ∧ (s.upgradeEntry t tier).dr = s.dr ∧ (s.upgradeEntry t tier).km = s.km ∧
      (s.upgradeEntry t tier).lk = s.lk ∧ (s.upgradeEntry t tier).sa = s.sa ∧ (s.upgradeEntry t tier).pw = s.pw ∧
      (s.upgradeEntry t tier).pending = s.pending := by
  unfold State.upgradeEntry; (try dsimp only); (repeat' split) <;> simp

@[simp] theorem State.withdrawOffer_frame (a t : Nat) :
    (s.withdrawOffer a t).ct = s.ct ∧ (s.withdrawOffer a t).sm = s.sm ∧ (s.withdrawOffer a t).zl = s.zl ∧
      (s.withdrawOffer a t).kc = s.kc ∧ (s.withdrawOffer a t).jq = s.jq ∧ (s.withdrawOffer a t).km = s.km ∧
      (s.withdrawOffer a t).sa = s.sa ∧ (s.withdrawOffer a t).pw = s.pw ∧ (s.withdrawOffer a t).pending = s.pending := by
  unfold State.withdrawOffer; (try dsimp only); (repeat' split) <;> simp

@[simp] theorem State.suspendJob_frame (a t : Nat) :
    (s.suspendJob a t).ct = s.ct ∧ (s.suspendJob a t).sm = s.sm ∧ (s.suspendJob a t).zl = s.zl ∧
      (s.suspendJob a t).kc = s.kc ∧ (s.suspendJob a t).jq = s.jq ∧ (s.suspendJob a t).km = s.km ∧
      (s.suspendJob a t).sa = s.sa ∧ (s.suspendJob a t).pw = s.pw ∧ (s.suspendJob a t).pending = s.pending := by
  unfold State.suspendJob; (try dsimp only); (repeat' split) <;> simp

@[simp] theorem State.dropEntry_frame (t : Nat) :
    (s.dropEntry t).ct = s.ct ∧ (s.dropEntry t).sm = s.sm ∧ (s.dropEntry t).zl = s.zl ∧
      (s.dropEntry t).kc = s.kc ∧ (s.dropEntry t).km = s.km ∧ (s.dropEntry t).sa = s.sa ∧
      (s.dropEntry t).pw = s.pw ∧ (s.dropEntry t).pending = s.pending := by
  unfold State.dropEntry; (try dsimp only); (repeat' split) <;> simp

@[simp] theorem State.offer_frame (e : Entry) (a : Nat) :
    (s.offer e a).ct = s.ct ∧ (s.offer e a).sm = s.sm ∧ (s.offer e a).zl = s.zl ∧
      (s.offer e a).kc = s.kc ∧ (s.offer e a).km = s.km ∧ (s.offer e a).sa = s.sa ∧
      (s.offer e a).pw = s.pw ∧ (s.offer e a).due = s.due ∧ (s.offer e a).pending = s.pending := by
  unfold State.offer; (try dsimp only); (repeat' split) <;> simp

@[simp] theorem State.lookLoop_frame (n : Nat) :
    (s.lookLoop n).ct = s.ct ∧ (s.lookLoop n).sm = s.sm ∧ (s.lookLoop n).zl = s.zl ∧
      (s.lookLoop n).kc = s.kc ∧ (s.lookLoop n).km = s.km ∧ (s.lookLoop n).sa = s.sa ∧
      (s.lookLoop n).pw = s.pw ∧ (s.lookLoop n).due = s.due ∧ (s.lookLoop n).pending = s.pending := by
  induction n generalizing s with
  | zero => simp [State.lookLoop]
  | succ n ih =>
    unfold State.lookLoop
    split
    · simp [ih]
    · simp

@[simp] theorem State.look_frame :
    (s.look).ct = s.ct ∧ (s.look).sm = s.sm ∧ (s.look).zl = s.zl ∧
      (s.look).kc = s.kc ∧ (s.look).km = s.km ∧ (s.look).sa = s.sa ∧
      (s.look).pw = s.pw ∧ (s.look).due = s.due ∧ (s.look).pending = s.pending := by
  unfold State.look; (try dsimp only); (repeat' split) <;> simp

@[simp] theorem State.holdStall_frame (t : Nat) (st : StallId) :
    (s.holdStall t st).zl = s.zl ∧ (s.holdStall t st).kc = s.kc ∧ (s.holdStall t st).jq = s.jq ∧
      (s.holdStall t st).dr = s.dr ∧ (s.holdStall t st).km = s.km ∧ (s.holdStall t st).lk = s.lk ∧
      (s.holdStall t st).sa = s.sa ∧ (s.holdStall t st).pw = s.pw ∧ (s.holdStall t st).due = s.due ∧
      (s.holdStall t st).pending = s.pending := by
  unfold State.holdStall; (try dsimp only); (repeat' split) <;> simp

@[simp] theorem State.releaseStall_frame (t : Nat) :
    (s.releaseStall t).zl = s.zl ∧ (s.releaseStall t).kc = s.kc ∧ (s.releaseStall t).jq = s.jq ∧
      (s.releaseStall t).dr = s.dr ∧ (s.releaseStall t).km = s.km ∧ (s.releaseStall t).lk = s.lk ∧
      (s.releaseStall t).sa = s.sa ∧ (s.releaseStall t).pw = s.pw ∧ (s.releaseStall t).pending = s.pending := by
  unfold State.releaseStall; (try dsimp only); (repeat' split) <;> simp

@[simp] theorem State.noteFallback_frame (t : Nat) (b : Bool) :
    (s.noteFallback t b).sm = s.sm ∧ (s.noteFallback t b).zl = s.zl ∧ (s.noteFallback t b).kc = s.kc ∧
      (s.noteFallback t b).jq = s.jq ∧ (s.noteFallback t b).dr = s.dr ∧ (s.noteFallback t b).km = s.km ∧
      (s.noteFallback t b).lk = s.lk ∧ (s.noteFallback t b).sa = s.sa ∧ (s.noteFallback t b).pw = s.pw ∧
      (s.noteFallback t b).due = s.due ∧ (s.noteFallback t b).pending = s.pending := by
  unfold State.noteFallback; (try dsimp only); (repeat' split) <;> simp

@[simp] theorem State.compareGrade_frame (st : Stall) :
    (s.compareGrade st).sm = s.sm ∧ (s.compareGrade st).zl = s.zl ∧ (s.compareGrade st).kc = s.kc ∧
      (s.compareGrade st).jq = s.jq ∧ (s.compareGrade st).dr = s.dr ∧ (s.compareGrade st).km = s.km ∧
      (s.compareGrade st).lk = s.lk ∧ (s.compareGrade st).pw = s.pw ∧ (s.compareGrade st).due = s.due ∧
      (s.compareGrade st).pending = s.pending := by
  unfold State.compareGrade; (try dsimp only); (repeat' split) <;> simp

@[simp] theorem State.setState_frame (t : Nat) (st : RecordState) :
    (s.setState t st).zl = s.zl ∧ (s.setState t st).kc = s.kc ∧ (s.setState t st).jq = s.jq ∧
      (s.setState t st).dr = s.dr ∧ (s.setState t st).km = s.km ∧ (s.setState t st).lk = s.lk ∧
      (s.setState t st).sa = s.sa ∧ (s.setState t st).pw = s.pw ∧ (s.setState t st).due = s.due ∧
      (s.setState t st).pending = s.pending := by
  unfold State.setState; (try dsimp only); (repeat' split) <;> simp

@[simp] theorem State.enterStored_frame (t : Nat) :
    (s.enterStored t).zl = s.zl ∧ (s.enterStored t).kc = s.kc ∧ (s.enterStored t).km = s.km ∧
      (s.enterStored t).lk = s.lk ∧ (s.enterStored t).sa = s.sa ∧ (s.enterStored t).pw = s.pw ∧
      (s.enterStored t).pending = s.pending := by
  unfold State.enterStored; (try dsimp only); (repeat' split) <;> simp

@[simp] theorem State.setMarks_frame (t : Nat) (p k : Bool) :
    (s.setMarks t p k).zl = s.zl ∧ (s.setMarks t p k).kc = s.kc ∧ (s.setMarks t p k).km = s.km ∧
      (s.setMarks t p k).lk = s.lk ∧ (s.setMarks t p k).sa = s.sa ∧ (s.setMarks t p k).pw = s.pw ∧
      (s.setMarks t p k).pending = s.pending := by
  unfold State.setMarks; (try dsimp only); (repeat' split) <;> simp

@[simp] theorem State.parkConfirmed_frame (t : Nat) :
    (s.parkConfirmed t).zl = s.zl ∧ (s.parkConfirmed t).kc = s.kc ∧ (s.parkConfirmed t).km = s.km ∧
      (s.parkConfirmed t).lk = s.lk ∧ (s.parkConfirmed t).sa = s.sa ∧ (s.parkConfirmed t).pw = s.pw ∧
      (s.parkConfirmed t).pending = s.pending := by
  unfold State.parkConfirmed; (try dsimp only); (repeat' split) <;> simp

@[simp] theorem State.keyHome_frame (t : Nat) :
    (s.keyHome t).zl = s.zl ∧ (s.keyHome t).kc = s.kc ∧ (s.keyHome t).km = s.km ∧
      (s.keyHome t).lk = s.lk ∧ (s.keyHome t).sa = s.sa ∧ (s.keyHome t).pw = s.pw ∧
      (s.keyHome t).pending = s.pending := by
  unfold State.keyHome; (try dsimp only); (repeat' split) <;> simp

@[simp] theorem State.keyTaken_frame (t a : Nat) :
    (s.keyTaken t a).sm = s.sm ∧ (s.keyTaken t a).zl = s.zl ∧ (s.keyTaken t a).kc = s.kc ∧
      (s.keyTaken t a).jq = s.jq ∧ (s.keyTaken t a).dr = s.dr ∧ (s.keyTaken t a).km = s.km ∧
      (s.keyTaken t a).lk = s.lk ∧ (s.keyTaken t a).sa = s.sa ∧ (s.keyTaken t a).pw = s.pw ∧
      (s.keyTaken t a).due = s.due ∧ (s.keyTaken t a).pending = s.pending := by
  unfold State.keyTaken; (try dsimp only); (repeat' split) <;> simp

@[simp] theorem State.undoJob_frame (t : Nat) (st : RecordState) :
    (s.undoJob t st).zl = s.zl ∧ (s.undoJob t st).kc = s.kc ∧ (s.undoJob t st).dr = s.dr ∧
      (s.undoJob t st).km = s.km ∧ (s.undoJob t st).lk = s.lk ∧ (s.undoJob t st).sa = s.sa ∧
      (s.undoJob t st).pw = s.pw ∧ (s.undoJob t st).pending = s.pending := by
  unfold State.undoJob; (try dsimp only); (repeat' split) <;> simp

@[simp] theorem State.lapseAttendant_frame (t : Nat) (o : Option Nat) :
    (s.lapseAttendant t o).ct = s.ct ∧ (s.lapseAttendant t o).sm = s.sm ∧ (s.lapseAttendant t o).zl = s.zl ∧
      (s.lapseAttendant t o).kc = s.kc ∧ (s.lapseAttendant t o).jq = s.jq ∧ (s.lapseAttendant t o).km = s.km ∧
      (s.lapseAttendant t o).sa = s.sa ∧ (s.lapseAttendant t o).pw = s.pw ∧ (s.lapseAttendant t o).due = s.due ∧
      (s.lapseAttendant t o).pending = s.pending := by
  unfold State.lapseAttendant; (try dsimp only); (repeat' split) <;> simp

@[simp] theorem State.windowLapsed_frame (t : Nat) :
    (s.windowLapsed t).zl = s.zl ∧ (s.windowLapsed t).kc = s.kc ∧ (s.windowLapsed t).km = s.km ∧
      (s.windowLapsed t).sa = s.sa ∧ (s.windowLapsed t).pw = s.pw ∧ (s.windowLapsed t).pending = s.pending := by
  unfold State.windowLapsed; (try dsimp only); (repeat' split) <;> simp

@[simp] theorem State.startParking_frame (o : Option Nat) :
    (s.startParking o).ct = s.ct ∧ (s.startParking o).sm = s.sm ∧ (s.startParking o).zl = s.zl ∧
      (s.startParking o).kc = s.kc ∧ (s.startParking o).jq = s.jq ∧ (s.startParking o).km = s.km ∧
      (s.startParking o).lk = s.lk ∧ (s.startParking o).sa = s.sa ∧ (s.startParking o).pw = s.pw ∧
      (s.startParking o).due = s.due ∧ (s.startParking o).pending = s.pending := by
  unfold State.startParking; (try dsimp only); (repeat' split) <;> simp

@[simp] theorem State.suspendParker_frame (r : Record) :
    (s.suspendParker r).ct = s.ct ∧ (s.suspendParker r).sm = s.sm ∧ (s.suspendParker r).zl = s.zl ∧
      (s.suspendParker r).kc = s.kc ∧ (s.suspendParker r).jq = s.jq ∧ (s.suspendParker r).km = s.km ∧
      (s.suspendParker r).sa = s.sa ∧ (s.suspendParker r).pw = s.pw ∧ (s.suspendParker r).pending = s.pending := by
  unfold State.suspendParker; (try dsimp only); (repeat' split) <;> simp

@[simp] theorem State.suspend_frame (t : Nat) (w : SuspendReason) :
    (s.suspend t w).zl = s.zl ∧ (s.suspend t w).km = s.km ∧ (s.suspend t w).sa = s.sa ∧
      (s.suspend t w).pw = s.pw ∧ (s.suspend t w).pending = s.pending := by
  unfold State.suspend; (try dsimp only); (repeat' split) <;> simp

@[simp] theorem State.keyForced_frame (t : Nat) :
    (s.keyForced t).zl = s.zl ∧ (s.keyForced t).km = s.km ∧ (s.keyForced t).sa = s.sa ∧
      (s.keyForced t).pw = s.pw ∧ (s.keyForced t).pending = s.pending := by
  unfold State.keyForced; (try dsimp only); (repeat' split) <;> simp

@[simp] theorem State.stallEmpty_frame (t z : Nat) :
    (s.stallEmpty t z).zl = s.zl ∧ (s.stallEmpty t z).km = s.km ∧ (s.stallEmpty t z).pw = s.pw ∧
      (s.stallEmpty t z).pending = s.pending := by
  unfold State.stallEmpty; (try dsimp only); (repeat' split) <;> simp

@[simp] theorem State.takeKey_frame (h : Nat) (k : Hook) :
    (s.takeKey h k).sm = s.sm ∧ (s.takeKey h k).zl = s.zl ∧ (s.takeKey h k).jq = s.jq ∧
      (s.takeKey h k).dr = s.dr ∧ (s.takeKey h k).km = s.km ∧ (s.takeKey h k).lk = s.lk ∧
      (s.takeKey h k).sa = s.sa ∧ (s.takeKey h k).pw = s.pw ∧ (s.takeKey h k).pending = s.pending := by
  unfold State.takeKey; (try dsimp only); (repeat' split) <;> simp

@[simp] theorem State.forceKey_frame (h : Nat) (k : Hook) :
    (s.forceKey h k).zl = s.zl ∧ (s.forceKey h k).km = s.km ∧ (s.forceKey h k).pw = s.pw ∧
      (s.forceKey h k).pending = s.pending := by
  unfold State.forceKey; (try dsimp only); (repeat' split) <;> simp

@[simp] theorem State.completeLapse_frame (h : Nat) (k : Hook) :
    (s.completeLapse h k).zl = s.zl ∧ (s.completeLapse h k).km = s.km ∧ (s.completeLapse h k).sa = s.sa ∧
      (s.completeLapse h k).pw = s.pw ∧ (s.completeLapse h k).pending = s.pending := by
  unfold State.completeLapse; (try dsimp only); (repeat' split) <;> simp

@[simp] theorem State.serviceKey_frame (h : Nat) (k : Hook) :
    (s.serviceKey h k).zl = s.zl ∧ (s.serviceKey h k).km = s.km ∧ (s.serviceKey h k).sa = s.sa ∧
      (s.serviceKey h k).pw = s.pw ∧ (s.serviceKey h k).pending = s.pending := by
  unfold State.serviceKey; (try dsimp only); (repeat' split) <;> simp

@[simp] theorem State.freeBay_frame (b : Option Nat) :
    (s.freeBay b).ct = s.ct ∧ (s.freeBay b).sm = s.sm ∧ (s.freeBay b).zl = s.zl ∧
      (s.freeBay b).kc = s.kc ∧ (s.freeBay b).jq = s.jq ∧ (s.freeBay b).dr = s.dr ∧
      (s.freeBay b).lk = s.lk ∧ (s.freeBay b).sa = s.sa ∧ (s.freeBay b).pw = s.pw ∧
      (s.freeBay b).pending = s.pending := by
  unfold State.freeBay; (try dsimp only); (repeat' split) <;> simp

@[simp] theorem State.retireRecord_frame (t : Nat) :
    (s.retireRecord t).zl = s.zl ∧ (s.retireRecord t).jq = s.jq ∧ (s.retireRecord t).dr = s.dr ∧
      (s.retireRecord t).lk = s.lk ∧ (s.retireRecord t).sa = s.sa ∧ (s.retireRecord t).pw = s.pw ∧
      (s.retireRecord t).pending = s.pending := by
  unfold State.retireRecord; (try dsimp only); (repeat' split) <;> simp

@[simp] theorem State.stagedOk_frame (t b : Nat) :
    (s.stagedOk t b).zl = s.zl ∧ (s.stagedOk t b).lk = s.lk ∧ (s.stagedOk t b).sa = s.sa ∧
      (s.stagedOk t b).pw = s.pw ∧ (s.stagedOk t b).pending = s.pending := by
  unfold State.stagedOk; (try dsimp only); (repeat' split) <;> simp

@[simp] theorem State.enterWaiting_frame (t : Nat) :
    (s.enterWaiting t).zl = s.zl ∧ (s.enterWaiting t).kc = s.kc ∧ (s.enterWaiting t).jq = s.jq ∧
      (s.enterWaiting t).dr = s.dr ∧ (s.enterWaiting t).km = s.km ∧ (s.enterWaiting t).lk = s.lk ∧
      (s.enterWaiting t).pw = s.pw ∧ (s.enterWaiting t).due = s.due ∧ (s.enterWaiting t).pending = s.pending := by
  unfold State.enterWaiting; (try dsimp only); (repeat' split) <;> simp

@[simp] theorem State.announceGrant_frame (r : Record) (st : StallId) :
    (s.announceGrant r st).ct = s.ct ∧ (s.announceGrant r st).sm = s.sm ∧ (s.announceGrant r st).zl = s.zl ∧
      (s.announceGrant r st).kc = s.kc ∧ (s.announceGrant r st).jq = s.jq ∧ (s.announceGrant r st).dr = s.dr ∧
      (s.announceGrant r st).km = s.km ∧ (s.announceGrant r st).sa = s.sa ∧ (s.announceGrant r st).pw = s.pw ∧
      (s.announceGrant r st).due = s.due ∧ (s.announceGrant r st).pending = s.pending := by
  unfold State.announceGrant
  generalize List.range Config.attendants = l
  induction l generalizing s with
  | nil => simp
  | cons a l ih => rw [List.foldl_cons]; simpa using ih (s.sendTo a 0x84 _)

@[simp] theorem State.grant_frame (r : Record) (st : StallId) (b : Bool) :
    (s.grant r st b).zl = s.zl ∧ (s.grant r st b).kc = s.kc ∧ (s.grant r st b).dr = s.dr ∧
      (s.grant r st b).km = s.km ∧ (s.grant r st b).pw = s.pw ∧ (s.grant r st b).pending = s.pending := by
  unfold State.grant; (try dsimp only); (repeat' split) <;> simp

@[simp] theorem State.serveList_frame (l : List Nat) :
    (s.serveList l).zl = s.zl ∧ (s.serveList l).kc = s.kc ∧ (s.serveList l).dr = s.dr ∧
      (s.serveList l).km = s.km ∧ (s.serveList l).pw = s.pw ∧ (s.serveList l).pending = s.pending := by
  induction l generalizing s with
  | nil => simp [State.serveList]
  | cons t ts ih => unfold State.serveList; (repeat' split) <;> simp [ih]

@[simp] theorem State.servePass_frame :
    (s.servePass).zl = s.zl ∧ (s.servePass).kc = s.kc ∧ (s.servePass).dr = s.dr ∧
      (s.servePass).km = s.km ∧ (s.servePass).pw = s.pw ∧ (s.servePass).pending = s.pending := by
  unfold State.servePass; (try dsimp only); (repeat' split) <;> simp

@[simp] theorem State.serveStep_frame :
    (s.serveStep).zl = s.zl ∧ (s.serveStep).kc = s.kc ∧ (s.serveStep).dr = s.dr ∧
      (s.serveStep).km = s.km ∧ (s.serveStep).pw = s.pw ∧ (s.serveStep).pending = s.pending := by
  unfold State.serveStep; (try dsimp only); (repeat' split) <;> simp

@[simp] theorem State.lookStep_frame :
    (s.lookStep).ct = s.ct ∧ (s.lookStep).sm = s.sm ∧ (s.lookStep).zl = s.zl ∧
      (s.lookStep).kc = s.kc ∧ (s.lookStep).km = s.km ∧ (s.lookStep).sa = s.sa ∧
      (s.lookStep).pw = s.pw ∧ (s.lookStep).due = s.due ∧ (s.lookStep).pending = s.pending := by
  unfold State.lookStep; (try dsimp only); (repeat' split) <;> simp

@[simp] theorem State.finish_frame :
    (s.finish).zl = s.zl ∧ (s.finish).kc = s.kc ∧ (s.finish).km = s.km ∧
      (s.finish).pw = s.pw ∧ (s.finish).pending = s.pending := by
  unfold State.finish; (try dsimp only); (repeat' split) <;> simp

end Sys2Proof.Machine
end

