-- ==== Sys2Proof/Laws/Lookups.lean ====
section
/-! SUPPORT. What each table shows after one of its rows has been changed: the changed row is the old one changed, and every
other row is as it was. Then the bounds and orders that single operations keep. -/

namespace Sys2Proof.Machine

variable (s : State)

/-! ### Records -/

theorem find_map_ticket (l : List Record) (t u : Nat) (f : Record → Record) (hf : ∀ r, (f r).ticket = r.ticket) :
    (l.map fun r => if r.ticket = t then f r else r).find? (fun r => r.ticket == u) =
      (l.find? fun r => r.ticket == u).map fun r => if r.ticket = t then f r else r := by
  induction l with
  | nil => rfl
  | cons r rs ih =>
    have h : (if r.ticket = t then f r else r).ticket = r.ticket := by split <;> simp [hf]
    simp only [List.map_cons, List.find?_cons, h]
    split <;> simp [ih]

/-- The changed record, where the change keeps tickets. -/
theorem record?_modRecord_self (t : Nat) (f : Record → Record) (hf : ∀ r, (f r).ticket = r.ticket) :
    (s.modRecord t f).record? t = (s.record? t).map f := by
  have h := find_map_ticket s.ct.records t t f hf
  simp only [State.record?, State.modRecord]
  rw [h]
  cases hr : s.ct.records.find? (fun r => r.ticket == t) with
  | none => rfl
  | some r =>
    have ht : r.ticket = t := by simpa using List.find?_some hr
    simp [ht]

/-- Every other record is as it was. -/
theorem record?_modRecord_other (t u : Nat) (f : Record → Record) (hf : ∀ r, (f r).ticket = r.ticket) (hu : u ≠ t) :
    (s.modRecord t f).record? u = s.record? u := by
  have h := find_map_ticket s.ct.records t u f hf
  simp only [State.record?, State.modRecord]
  rw [h]
  cases hr : s.ct.records.find? (fun r => r.ticket == u) with
  | none => rfl
  | some r =>
    have ht : r.ticket = u := by simpa using List.find?_some hr
    have : r.ticket ≠ t := by omega
    simp [this]

/-- The record a lookup gives carries the ticket looked up. -/
theorem record?_ticket (t : Nat) (r : Record) (h : s.record? t = some r) : r.ticket = t := by
  simpa using List.find?_some h

/-! ### Stalls, hooks, attendants, bays, links -/

theorem getD_modify_self {α : Type} (l : List α) (i : Nat) (f : α → α) (d : α) (h : i < l.length) :
    (l.modify i f).getD i d = f (l.getD i d) := by
  simp [List.getD_eq_getElem?_getD, List.getElem?_eq_getElem h]

theorem getD_modify_other {α : Type} (l : List α) (i j : Nat) (f : α → α) (d : α) (h : i ≠ j) :
    (l.modify i f).getD j d = l.getD j d := by
  simp [List.getD_eq_getElem?_getD, h]

theorem zone_modZone_self (z : Nat) (f : Zone → Zone) (h : z < s.sm.zones.length) :
    (s.modZone z f).zone z = f (s.zone z) := getD_modify_self _ _ _ _ h

theorem zone_modZone_other (z y : Nat) (f : Zone → Zone) (h : z ≠ y) : (s.modZone z f).zone y = s.zone y :=
  getD_modify_other _ _ _ _ _ h

theorem panel_modPanel_self (p : Nat) (f : Panel → Panel) (h : p < s.kc.panels.length) :
    (s.modPanel p f).panel p = f (s.panel p) := getD_modify_self _ _ _ _ h

theorem panel_modPanel_other (p q : Nat) (f : Panel → Panel) (h : p ≠ q) : (s.modPanel p f).panel q = s.panel q :=
  getD_modify_other _ _ _ _ _ h

theorem attendant_modAttendant_self (a : Nat) (f : Attendant → Attendant) (h : a < s.dr.attendants.length) :
    (s.modAttendant a f).attendant a = f (s.attendant a) := getD_modify_self _ _ _ _ h

theorem attendant_modAttendant_other (a b : Nat) (f : Attendant → Attendant) (h : a ≠ b) :
    (s.modAttendant a f).attendant b = s.attendant b := getD_modify_other _ _ _ _ _ h

theorem bay_modBay_self (b : Nat) (f : Bay → Bay) (h : b < s.km.bays.length) :
    (s.modBay b f).bay b = f (s.bay b) := getD_modify_self _ _ _ _ h

theorem bay_modBay_other (b c : Nat) (f : Bay → Bay) (h : b ≠ c) : (s.modBay b f).bay c = s.bay c :=
  getD_modify_other _ _ _ _ _ h

/-- A stall of the layout stands in a zone of the table. -/
theorem zone_of_stall {z i : Nat} {st : Stall} (h : s.stall? z i = some st) : z < s.sm.zones.length := by
  by_contra hz
  have hz' : s.sm.zones.length ≤ z := by omega
  have : s.zone z = Zone.absent := by
    simp [State.zone, List.getD_eq_getElem?_getD, List.getElem?_eq_none hz']
  simp [State.stall?, this, Zone.absent] at h

/-- The changed stall. -/
theorem stall?_modStall_self (z i : Nat) (f : Stall → Stall) (st : Stall) (h : s.stall? z i = some st) :
    (s.modStall z i f).stall? z i = some (f st) := by
  have hz := zone_of_stall s h
  simp only [State.stall?, State.modStall] at h ⊢
  rw [zone_modZone_self s z _ hz]
  simp [h]

/-- A hook of the layout stands on a panel of the table. -/
theorem panel_of_hook {h : Nat} {k : Hook} (hk : s.hook? h = some k) : panelOf h < s.kc.panels.length := by
  by_contra hp
  have hp' : s.kc.panels.length ≤ panelOf h := by omega
  have : s.panel (panelOf h) = Panel.absent := by
    simp [State.panel, List.getD_eq_getElem?_getD, List.getElem?_eq_none hp']
  simp [State.hook?, this, Panel.absent] at hk

/-- The changed hook. -/
theorem hook?_modHook_self (h : Nat) (f : Hook → Hook) (k : Hook) (hk : s.hook? h = some k) :
    (s.modHook h f).hook? h = some (f k) := by
  have hp := panel_of_hook s hk
  simp only [State.hook?, State.modHook] at hk ⊢
  rw [panel_modPanel_self s _ _ hp]
  simp [hk]

/-- Every other hook is as it was. -/
theorem hook?_modHook_other (h g : Nat) (f : Hook → Hook) (hg : g ≠ h) : (s.modHook h f).hook? g = s.hook? g := by
  simp only [State.hook?, State.modHook]
  by_cases hpan : panelOf h = panelOf g
  · have hm : h % Config.hooksPerPanel ≠ g % Config.hooksPerPanel := by
      intro he
      apply hg
      have h1 := Nat.div_add_mod h Config.hooksPerPanel
      have h2 := Nat.div_add_mod g Config.hooksPerPanel
      unfold panelOf at hpan
      rw [← h1, ← h2, hpan, he]
    by_cases hp : panelOf g < s.kc.panels.length
    · rw [hpan, panel_modPanel_self s _ _ hp]
      simp [hm]
    · have hp' : s.kc.panels.length ≤ panelOf g := by omega
      simp [State.panel, State.modPanel, List.getD_eq_getElem?_getD, List.getElem?_modify,
        List.getElem?_eq_none hp']
  · rw [panel_modPanel_other s _ _ _ hpan]

/-- A set latch message changes the pending command and the repeat timer of its hook, and nothing else of it. -/
theorem hook?_sendLatch_self (h : Nat) (p : Latch) (k : Hook) (hk : s.hook? h = some k) :
    (s.sendLatch h p).hook? h =
      some { k with latch := some p, repeatTimer := some (Timer.start Config.latchRepeat) } :=
  hook?_modHook_self s h _ k hk

/-- Whether a hook's panel is in service does not depend on the hooks. -/
@[simp] theorem hookInService_modHook (h g : Nat) (f : Hook → Hook) :
    (s.modHook h f).hookInService g = s.hookInService g := by
  simp only [State.hookInService, State.modHook]
  by_cases hpan : panelOf h = panelOf g
  · by_cases hp : panelOf g < s.kc.panels.length
    · rw [hpan, panel_modPanel_self s _ _ hp]
    · have hp' : s.kc.panels.length ≤ panelOf g := by omega
      simp [State.panel, State.modPanel, List.getD_eq_getElem?_getD, List.getElem?_modify,
        List.getElem?_eq_none hp']
  · rw [panel_modPanel_other s _ _ _ hpan]

/-- A changed hook, with the latch command its change may call for (R71). -/
theorem hook?_updHook_self (h : Nat) (f : Hook → Hook) (k : Hook) (hk : s.hook? h = some k) :
    (s.updHook h f).hook? h =
      some (if (f k).required (s.hookInService h) = k.required (s.hookInService h) then f k
        else { f k with
          latch := some ((f k).required (s.hookInService h)), repeatTimer := some (Timer.start Config.latchRepeat) }) := by
  have h1 := hook?_modHook_self s h f k hk
  simp only [State.updHook, hk]
  by_cases hr : (f k).required (s.hookInService h) = k.required (s.hookInService h)
  · simp only [hr, if_true]
    unfold State.lookIf; split <;> exact h1
  · simp only [hr, if_false]
    unfold State.lookIf; split <;> exact hook?_sendLatch_self _ h _ _ h1

/-! ### Bounds and orders -/

/-- A frame never takes the buffer beyond 64 (R155). -/
theorem pushFrame_bound (f : HandsetFrame) (h : s.lk.tx.length ≤ 64) : (s.pushFrame f).lk.tx.length ≤ 64 := by
  unfold State.pushFrame
  split
  · rename_i hlt
    have : s.lk.tx.length < 64 := hlt
    simp only [List.length_append, List.length_singleton]
    omega
  · exact h

/-- A raising leaves the latch it names set. -/
theorem raise_latch (sa : Service) (c : Cause) (x : Option Nat) (h : c.index < sa.causes.length) :
    ((sa.raise c x).cell c).latch = true := by
  unfold Service.raise
  split
  · assumption
  · simp [Service.cell, List.getD_eq_getElem?_getD, List.getElem?_eq_getElem h]

/-- A set latch stays set through a raising. -/
theorem raise_keeps (sa : Service) (c d : Cause) (x : Option Nat) (h : (sa.cell d).latch = true) :
    ((sa.raise c x).cell d).latch = true := by
  unfold Service.raise
  split
  · exact h
  · simp only [Service.cell, List.getD_eq_getElem?_getD, List.getElem?_modify] at h ⊢
    cases hd : sa.causes[d.index]? with
    | none => simp [hd, CauseCell.powerOn] at h
    | some k =>
      rw [hd] at h
      simp only [Option.getD_some] at h
      simp only [Option.map_some, Option.map_eq_map, Option.getD_some]
      split <;> simp [h]

/-- Of two entries at most one comes before the other (R94). -/
theorem before_asymm (e g : Entry) (h : e.before g = true) : g.before e = false := by
  by_contra hc
  have hc : g.before e = true := by simpa using hc
  simp only [Entry.before, Bool.or_eq_true, Bool.and_eq_true, decide_eq_true_eq, beq_iff_eq,
    ← BitVec.toNat_inj] at h hc
  omega

/-- An entry joins without being lost, and the others stay. -/
theorem mem_insertEntry (e g : Entry) (l : List Entry) : g ∈ insertEntry e l ↔ g = e ∨ g ∈ l := by
  induction l with
  | nil => simp [insertEntry]
  | cons a as ih =>
    unfold insertEntry
    split
    · simp
    · simp only [List.mem_cons, ih]; tauto

/-- One more entry. -/
theorem length_insertEntry (e : Entry) (l : List Entry) : (insertEntry e l).length = l.length + 1 := by
  induction l with
  | nil => rfl
  | cons a as ih => unfold insertEntry; split <;> simp [ih]

end Sys2Proof.Machine
end

