-- ==== Sys2Proof/Laws/Settings.lean ====
section
/-! SUPPORT. No shared operation of the records, keys, jobs, attendants and bays changes a setting: each leaves
`Safety.settings` of the state as it was. -/

set_option linter.unusedTactic false
set_option linter.unnecessarySeqFocus false

namespace Sys2Proof.Machine

open Sys2Proof.Safety

variable (s : State)

theorem map_modify_of_fixed {α β : Type} (g : α → β) (f : α → α) (h : ∀ x, g (f x) = g x) (l : List α) (i : Nat) :
    (l.modify i f).map g = l.map g := by
  apply List.ext_getElem?
  intro n
  rw [List.getElem?_map, List.getElem?_modify, List.getElem?_map]
  cases l[n]? with
  | none => rfl
  | some x => simp only [Option.map_some]; split <;> simp [h]

theorem settings_modStall (z i : Nat) (f : Stall → Stall) (h : ∀ x, stallSettings (f x) = stallSettings x) :
    settings (s.modStall z i f) = settings s := by
  have hz : ((s.sm.zones.modify z fun zn => { zn with stalls := zn.stalls.modify i f }).map zoneSettings) =
      s.sm.zones.map zoneSettings :=
    map_modify_of_fixed _ _ (fun zn => by simp [zoneSettings, map_modify_of_fixed stallSettings f h]) _ _
  simp only [settings, State.modStall, State.modZone, hz]

theorem settings_modBay (b : Nat) (f : Bay → Bay) (h : ∀ x, baySettings (f x) = baySettings x) :
    settings (s.modBay b f) = settings s := by
  simp only [settings, State.modBay, map_modify_of_fixed baySettings f h]

@[simp] theorem settings_modHook (h : Nat) (f : Hook → Hook) : settings (s.modHook h f) = settings s := by
  have hp : ((s.kc.panels.modify (panelOf h) fun p =>
      { p with hooks := p.hooks.modify (h % Config.hooksPerPanel) f }).map panelSettings) =
      s.kc.panels.map panelSettings :=
    map_modify_of_fixed _ _ (fun p => by simp [panelSettings]) _ _
  simp only [settings, State.modHook, State.modPanel, hp]

@[simp] theorem settings_serveDue : settings s.serveDue = settings s := rfl
@[simp] theorem settings_lookDue : settings s.lookDue = settings s := rfl
@[simp] theorem settings_serveIf (b : Bool) : settings (s.serveIf b) = settings s := by cases b <;> rfl
@[simp] theorem settings_lookIf (b : Bool) : settings (s.lookIf b) = settings s := by cases b <;> rfl
@[simp] theorem settings_begin : settings s.begin = settings s := rfl
@[simp] theorem settings_modRecord (t : Nat) (f : Record → Record) : settings (s.modRecord t f) = settings s := rfl
@[simp] theorem settings_addRecord (r : Record) : settings (s.addRecord r) = settings s := rfl
@[simp] theorem settings_dropRecord (t : Nat) : settings (s.dropRecord t) = settings s := rfl
@[simp] theorem settings_setLink (z : Nat) (k : ZoneLink) : settings (s.setLink z k) = settings s := rfl
@[simp] theorem settings_setWaitList (l : List Nat) : settings (s.setWaitList l) = settings s := rfl
@[simp] theorem settings_leaveWaitList (t : Nat) : settings (s.leaveWaitList t) = settings s := rfl
@[simp] theorem settings_setEntries (l : List Entry) : settings (s.setEntries l) = settings s := rfl
@[simp] theorem settings_modEntry (t : Nat) (f : Entry → Entry) : settings (s.modEntry t f) = settings s := rfl
@[simp] theorem settings_modAttendant (a : Nat) (f : Attendant → Attendant) :
    settings (s.modAttendant a f) = settings s := rfl
@[simp] theorem settings_setIdle (l : List Nat) : settings (s.setIdle l) = settings s := rfl
@[simp] theorem settings_idleBack (a : Nat) : settings (s.idleBack a) = settings s := rfl
@[simp] theorem settings_idleFront (a : Nat) : settings (s.idleFront a) = settings s := rfl
@[simp] theorem settings_leaveIdle (a : Nat) (st : AttendantState) : settings (s.leaveIdle a st) = settings s := rfl
@[simp] theorem settings_modLane (l : Nat) (f : Lane → Lane) : settings (s.modLane l f) = settings s := rfl
@[simp] theorem settings_sendLatch (h : Nat) (p : Latch) : settings (s.sendLatch h p) = settings s :=
  settings_modHook s h _

@[simp] theorem settings_pushFrame (f : HandsetFrame) : settings (s.pushFrame f) = settings s := by
  unfold State.pushFrame; split <;> rfl

@[simp] theorem settings_sendTo (a kind : Nat) (body : List Value) : settings (s.sendTo a kind body) = settings s := by
  unfold State.sendTo; split <;> simp

@[simp] theorem settings_sendWithdrawn (a t reason : Nat) : settings (s.sendWithdrawn a t reason) = settings s := by
  simp [State.sendWithdrawn]

@[simp] theorem settings_raise (c : Cause) (x : Option Nat) : settings (s.raise c x) = settings s := by
  have h : (s.sa.raise c x).causes.map causeSettings = s.sa.causes.map causeSettings := by
    unfold Service.raise
    split
    · rfl
    · exact map_modify_of_fixed causeSettings (fun k => { k with latch := true, subject := x }) (fun _ => rfl) _ _
  simp only [settings, State.raise_frame, State.raise_sa, h]
  unfold Service.raise; split <;> rfl

@[simp] theorem settings_joinWaitList (t : Nat) : settings (s.joinWaitList t) = settings s := by
  simp [State.joinWaitList]

@[simp] theorem settings_resetRuns (st : Option StallId) : settings (s.resetRuns st) = settings s := by
  unfold State.resetRuns; split
  · rfl
  · exact settings_modStall s _ _ _ (fun _ => rfl)

@[simp] theorem settings_setState (t : Nat) (st : RecordState) : settings (s.setState t st) = settings s := by
  unfold State.setState; (try dsimp only); (repeat' split) <;> simp

@[simp] theorem settings_holdStall (t : Nat) (st : StallId) : settings (s.holdStall t st) = settings s := by
  unfold State.holdStall
  rw [settings_modRecord]
  exact settings_modStall s _ _ _ (fun _ => rfl)

@[simp] theorem settings_releaseStall (t : Nat) : settings (s.releaseStall t) = settings s := by
  unfold State.releaseStall; split
  · rfl
  · rw [settings_serveDue, settings_modRecord]; exact settings_modStall s _ _ _ (fun _ => rfl)

@[simp] theorem settings_noteFallback (t : Nat) (b : Bool) : settings (s.noteFallback t b) = settings s := by
  unfold State.noteFallback; (try dsimp only); (repeat' split) <;> simp

@[simp] theorem settings_compareGrade (st : Stall) : settings (s.compareGrade st) = settings s := by
  unfold State.compareGrade; (try dsimp only); (repeat' split) <;> simp

@[simp] theorem settings_updHook (h : Nat) (f : Hook → Hook) : settings (s.updHook h f) = settings s := by
  unfold State.updHook; (try dsimp only); (repeat' split) <;> simp

@[simp] theorem settings_bindHook (h t : Nat) : settings (s.bindHook h t) = settings s := by
  unfold State.bindHook; (try dsimp only); (repeat' split) <;> simp

@[simp] theorem settings_unbindHook (h t : Nat) : settings (s.unbindHook h t) = settings s := by
  unfold State.unbindHook; (try dsimp only); (repeat' split) <;> simp

@[simp] theorem settings_requestWindow (h a : Nat) : settings (s.requestWindow h a) = settings s := by
  unfold State.requestWindow; (try dsimp only); (repeat' split) <;> simp

@[simp] theorem settings_endWindow (h : Nat) : settings (s.endWindow h) = settings s := by
  unfold State.endWindow; (try dsimp only); (repeat' split) <;> simp

@[simp] theorem settings_reparkHook (h a : Nat) : settings (s.reparkHook h a) = settings s := by
  unfold State.reparkHook; (try dsimp only); (repeat' split) <;> simp

@[simp] theorem settings_addEntry (e : Entry) : settings (s.addEntry e) = settings s := by
  unfold State.addEntry; (try dsimp only); (repeat' split) <;> simp

@[simp] theorem settings_removeEntry (t : Nat) : settings (s.removeEntry t) = settings s := by
  unfold State.removeEntry; (try dsimp only); (repeat' split) <;> simp

@[simp] theorem settings_requeue (t : Nat) : settings (s.requeue t) = settings s := by
  unfold State.requeue; (try dsimp only); (repeat' split) <;> simp

@[simp] theorem settings_upgradeEntry (t tier : Nat) : settings (s.upgradeEntry t tier) = settings s := by
  unfold State.upgradeEntry; (try dsimp only); (repeat' split) <;> simp

@[simp] theorem settings_withdrawOffer (a t : Nat) : settings (s.withdrawOffer a t) = settings s := by
  unfold State.withdrawOffer; (try dsimp only); (repeat' split) <;> simp

@[simp] theorem settings_suspendJob (a t : Nat) : settings (s.suspendJob a t) = settings s := by
  unfold State.suspendJob; (try dsimp only); (repeat' split) <;> simp

@[simp] theorem settings_dropEntry (t : Nat) : settings (s.dropEntry t) = settings s := by
  unfold State.dropEntry; (try dsimp only); (repeat' split) <;> simp

@[simp] theorem settings_offer (e : Entry) (a : Nat) : settings (s.offer e a) = settings s := by
  unfold State.offer; (try dsimp only); (repeat' split) <;> simp

@[simp] theorem settings_lookLoop (n : Nat) : settings (s.lookLoop n) = settings s := by
  induction n generalizing s with
  | zero => simp [State.lookLoop]
  | succ n ih =>
    unfold State.lookLoop
    split <;> simp [ih]

@[simp] theorem settings_look : settings (s.look) = settings s := by
  unfold State.look; (try dsimp only); (repeat' split) <;> simp

@[simp] theorem settings_enterStored (t : Nat) : settings (s.enterStored t) = settings s := by
  unfold State.enterStored; (try dsimp only); (repeat' split) <;> simp

@[simp] theorem settings_setMarks (t : Nat) (p k : Bool) : settings (s.setMarks t p k) = settings s := by
  unfold State.setMarks; (try dsimp only); (repeat' split) <;> simp

@[simp] theorem settings_parkConfirmed (t : Nat) : settings (s.parkConfirmed t) = settings s := by
  unfold State.parkConfirmed; (try dsimp only); (repeat' split) <;> simp

@[simp] theorem settings_keyHome (t : Nat) : settings (s.keyHome t) = settings s := by
  unfold State.keyHome; (try dsimp only); (repeat' split) <;> simp

@[simp] theorem settings_keyTaken (t a : Nat) : settings (s.keyTaken t a) = settings s := by
  unfold State.keyTaken; (try dsimp only); (repeat' split) <;> simp

@[simp] theorem settings_undoJob (t : Nat) (st : RecordState) : settings (s.undoJob t st) = settings s := by
  unfold State.undoJob; (try dsimp only); (repeat' split) <;> simp

@[simp] theorem settings_lapseAttendant (t : Nat) (o : Option Nat) : settings (s.lapseAttendant t o) = settings s := by
  unfold State.lapseAttendant; (try dsimp only); (repeat' split) <;> simp

@[simp] theorem settings_windowLapsed (t : Nat) : settings (s.windowLapsed t) = settings s := by
  unfold State.windowLapsed; (try dsimp only); (repeat' split) <;> simp

@[simp] theorem settings_startParking (o : Option Nat) : settings (s.startParking o) = settings s := by
  unfold State.startParking; (try dsimp only); (repeat' split) <;> simp

@[simp] theorem settings_suspendParker (r : Record) : settings (s.suspendParker r) = settings s := by
  unfold State.suspendParker; (try dsimp only); (repeat' split) <;> simp

@[simp] theorem settings_suspend (t : Nat) (w : SuspendReason) : settings (s.suspend t w) = settings s := by
  unfold State.suspend; (try dsimp only); (repeat' split) <;> simp

@[simp] theorem settings_keyForced (t : Nat) : settings (s.keyForced t) = settings s := by
  unfold State.keyForced; (try dsimp only); (repeat' split) <;> simp

@[simp] theorem settings_stallEmpty (t z : Nat) : settings (s.stallEmpty t z) = settings s := by
  unfold State.stallEmpty; (try dsimp only); (repeat' split) <;> simp

@[simp] theorem settings_takeKey (h : Nat) (k : Hook) : settings (s.takeKey h k) = settings s := by
  unfold State.takeKey; (try dsimp only); (repeat' split) <;> simp

@[simp] theorem settings_forceKey (h : Nat) (k : Hook) : settings (s.forceKey h k) = settings s := by
  unfold State.forceKey; (try dsimp only); (repeat' split) <;> simp

@[simp] theorem settings_completeLapse (h : Nat) (k : Hook) : settings (s.completeLapse h k) = settings s := by
  unfold State.completeLapse; (try dsimp only); (repeat' split) <;> simp

@[simp] theorem settings_serviceKey (h : Nat) (k : Hook) : settings (s.serviceKey h k) = settings s := by
  unfold State.serviceKey; (try dsimp only); (repeat' split) <;> simp

@[simp] theorem settings_freeBay (b : Option Nat) : settings (s.freeBay b) = settings s := by
  unfold State.freeBay; split
  · rfl
  · rw [settings_lookDue]; exact settings_modBay s _ _ (fun _ => rfl)

@[simp] theorem settings_retireRecord (t : Nat) : settings (s.retireRecord t) = settings s := by
  unfold State.retireRecord; (try dsimp only); (repeat' split) <;> simp

@[simp] theorem settings_stagedOk (t b : Nat) : settings (s.stagedOk t b) = settings s := by
  unfold State.stagedOk; split
  · rfl
  · dsimp only
    split <;> simp only [settings_idleBack, settings_updHook, settings_removeEntry, settings_releaseStall,
      settings_modRecord, settings_setState] <;> exact settings_modBay s _ _ (fun _ => rfl)

@[simp] theorem settings_enterWaiting (t : Nat) : settings (s.enterWaiting t) = settings s := by
  unfold State.enterWaiting; (try dsimp only); (repeat' split) <;> simp

@[simp] theorem settings_announceGrant (r : Record) (st : StallId) : settings (s.announceGrant r st) = settings s := by
  unfold State.announceGrant
  generalize List.range Config.attendants = l
  induction l generalizing s with
  | nil => simp
  | cons a l ih => rw [List.foldl_cons, ih]; simp

@[simp] theorem settings_grant (r : Record) (st : StallId) (b : Bool) : settings (s.grant r st b) = settings s := by
  unfold State.grant; (try dsimp only); (repeat' split) <;> simp

@[simp] theorem settings_serveList (l : List Nat) : settings (s.serveList l) = settings s := by
  induction l generalizing s with
  | nil => simp [State.serveList]
  | cons t ts ih => unfold State.serveList; (repeat' split) <;> simp [ih]

@[simp] theorem settings_servePass : settings (s.servePass) = settings s := by
  unfold State.servePass; (try dsimp only); (repeat' split) <;> simp

@[simp] theorem settings_serveStep : settings (s.serveStep) = settings s := by
  unfold State.serveStep; (try dsimp only); (repeat' split) <;> simp

@[simp] theorem settings_lookStep : settings (s.lookStep) = settings s := by
  unfold State.lookStep; (try dsimp only); (repeat' split) <;> simp

@[simp] theorem settings_finish : settings (s.finish) = settings s := by
  have h : settings (s.serveStep.lookStep) = settings s := by simp
  exact h

end Sys2Proof.Machine
end

