-- ==== Sys2Proof/Tests/Slice0.lean ====
section
/-! SUPPORT. Tests of the model on one small garage: the WellFormed smoke tests; one or two steps of every command, whose
expected answers come from the rules named in the docstrings and from the worked sequences of chapter 12; and, for each
statement with hypotheses, a witness that meets them. -/

namespace Sys2Proof.Tests

open Sys2Proof Sys2Proof.Machine Sys2Proof.Safety

/-! ### WellFormed: a term that passes each check and one that the check refuses -/

/-- A handset header. -/
def phone : Handset := ⟨0, 9, 1⟩

theorem test_wf_byte_fields : (Instr.readZone 255 255).wellFormed = true ∧ (Instr.readZone 256 0).wellFormed = false ∧
    (Instr.readZone 0 256).wellFormed = false := by decide

theorem test_wf_half_fields : (Instr.readHook 1 65535).wellFormed = true ∧
    (Instr.readHook 1 65536).wellFormed = false := by decide

theorem test_wf_ticket_fields : (Instr.hold 1 16777215 255).wellFormed = true ∧
    (Instr.hold 1 16777216 255).wellFormed = false := by decide

theorem test_wf_word_fields : (Instr.setClock 1 4294967295).wellFormed = true ∧
    (Instr.setClock 1 4294967296).wellFormed = false := by decide

theorem test_wf_handset_header : (Instr.signOff ⟨255, 255, 255⟩).wellFormed = true ∧
    (Instr.signOff ⟨256, 0, 0⟩).wellFormed = false ∧ (Instr.signOff ⟨0, 256, 0⟩).wellFormed = false ∧
    (Instr.signOff ⟨0, 0, 256⟩).wellFormed = false := by decide

theorem test_wf_plate_field : (Instr.findPlate 1 PlateField.absent 0).wellFormed = true ∧
    (Instr.findPlate 1 ⟨0, List.replicate 9 0⟩ 0).wellFormed = false ∧
    (Instr.findPlate 1 ⟨0, List.replicate 10 256⟩ 0).wellFormed = false := by decide

theorem test_wf_preference_field : (Instr.setPreference 1 0 0 (List.replicate 12 0)).wellFormed = true ∧
    (Instr.setPreference 1 0 0 (List.replicate 11 0)).wellFormed = false := by decide

theorem test_wf_optional_word : (Instr.findFolio 1 ⟨1, 5⟩ 0).wellFormed = true ∧
    (Instr.findFolio 1 ⟨256, 5⟩ 0).wellFormed = false := by decide

theorem test_wf_handset_expects_nothing : (Instr.handover (.handset phone) 1 255).wellFormed = true ∧
    (Instr.handover (.handset phone) 1 6).wellFormed = false := by decide

theorem test_wf_unknown_codes : (Instr.deskUnknownCommand 1 0x1D).wellFormed = true ∧
    (Instr.deskUnknownCommand 1 0x1C).wellFormed = false ∧ (Instr.handsetUnknownKind phone 16).wellFormed = true ∧
    (Instr.handsetUnknownKind phone 15).wellFormed = false := by decide

theorem test_wf_ignored_transaction : (Instr.deskIgnoredTransaction [0xA3#8]).wellFormed = true ∧
    (Instr.deskIgnoredTransaction [0xA1#8]).wellFormed = false ∧
    (Instr.deskIgnoredTransaction [0xA2#8]).wellFormed = false := by decide

theorem test_wf_timers : (Instr.silenceTimerExpiry 11).wellFormed = true ∧ (Instr.silenceTimerExpiry 12).wellFormed = false ∧
    (Instr.latchRepeat 1024).wellFormed = false ∧ (Instr.windowTimerExpiry 1024).wellFormed = false ∧
    (Instr.keyWarningPoint 1024).wellFormed = false ∧ (Instr.custodyLimitReached 1024).wellFormed = false ∧
    (Instr.parkLimitReached 0).wellFormed = false ∧ (Instr.ackTimerExpiry 32).wellFormed = false ∧
    (Instr.dwellTimerExpiry 8).wellFormed = false ∧ (Instr.driveOffTimerExpiry 8).wellFormed = false := by decide

theorem test_wf_loops : (Instr.laneLoopChange 1 true).wellFormed = true ∧ (Instr.laneLoopChange 2 true).wellFormed = false ∧
    (Instr.bayLoopChange 8 true).wellFormed = false := by decide

/-! ### A small garage -/

/-- Ticket 7: grade 5, in stall 0 of zone 0, its key on hook 0. -/
def car (st : RecordState) : Record :=
  { slot := 0, ticket := 7, state := st, grade := 5, need := .none, tier := 2, plate := [65], folio := some 9,
    stall := some ⟨0, 0⟩, hook := 0, bay := none, attendant := none, arrival := none, accepted := 0, call := none,
    flags := {}, reason := none, reparks := 0, parkMark := false, keyMark := false, park := none }

/-- Its key at home. -/
def keyHeld : Hook := { Hook.created with state := .held, bound := some 7 }

/-- Its key out with attendant 0. -/
def keyOut : Hook := { Hook.created with state := .out, bound := some 7, attendant := some 0, custody := some ⟨0, 900⟩ }

/-- A window of attendant 0 for it. -/
def keyOpen : Hook :=
  { Hook.created with state := .opened, bound := some 7, attendant := some 0, phase := .running, window := some ⟨0, 90⟩ }

/-- Zone 0 OPEN, stall 0 held by the record and stall 1 vacant; zone 1 with no stalls; panel 0 with hook 0 for the key and
hook 1 free; attendant 0 IDLE on handset 9; bay 0 with a car on its loop; the service OPEN. -/
def garage (r : Record) (k : Hook) : State :=
  let s := State.reset
  { s with
    ct := { s.ct with records := [r], counter := 7 }
    sm := { s.sm with zones := [{ Zone.created 2 with
              isOpen := true
              stalls := [{ Stall.created with sensed := .occupied, holder := some 7 },
                         { Stall.created with sensed := .vacant }] }, Zone.created 0] ++ List.replicate 10 Zone.absent }
    zl := { s.zl with links := [{ link := .live, silence := some ⟨0, 10⟩ }] ++ List.replicate 11 ZoneLink.never }
    kc := { s.kc with panels := [{ inLayout := true, inService := false, hooks := [k, Hook.created] }] ++
              List.replicate 3 Panel.absent }
    dr := { s.dr with
      attendants := [{ state := .idle, handset := some 9, idleSince := some 5, keptSince := 5, ack := none }] ++
        List.replicate 31 Attendant.off
      idle := [0] }
    km := { s.km with bays := [{ Bay.created true with loop := true }] ++ List.replicate 7 (Bay.absent false) }
    pw := { s.pw with bays := [true] ++ List.replicate 7 false }
    sa := { s.sa with state := .opened, elapsed := 50, clock := 1000 } }

/-- The garage with attendant 0 in a state. -/
def garageWith (st : AttendantState) (r : Record) (k : Hook) : State := (garage r k).leaveIdle 0 st

/-- The garage in a service state. -/
def inService (st : ServiceState) (s : State) : State := { s with sa := { s.sa with state := st } }

/-- An entry of the record's. -/
def job (k : JobKind) (st : EntryStatus) (a : Option Nat) : Entry :=
  { kind := k, ticket := 7, slot := 0, status := st, attendant := a, tier := 2, time := 10, due := none }

/-- The garage with that entry. -/
def withJob (e : Entry) (s : State) : State := s.setEntries [e]

/-- The state a command leaves. -/
def after (c : Instr) (s : State) : State :=
  match exec c s with
  | .next t => t
  | _ => s

/-- What the desk reads in the response slot. -/
def told (c : Instr) (s : State) : Option Answer := (after c s).lk.response.map Response.answer

/-- The outcome code that the RESULT carries. -/
def heard (c : Instr) (s : State) : Option Value := (after c s).lk.tx.head?.bind fun f => f.body[1]?

/-- What a record field is after a command. -/
def recordAfter {α : Type} (c : Instr) (s : State) (f : Record → α) : Option α := ((after c s).record? 7).map f

/-- What a hook field is after a command. -/
def hookAfter {α : Type} (c : Instr) (s : State) (f : Hook → α) : Option α := ((after c s).hook? 0).map f

/-- One plate of one character. -/
def plateA : PlateField := ⟨1, 65 :: List.replicate 9 0⟩

/-! ### Record commands -/

/-- R7, R8: a car of grade 9 fits stall 0/1 and is INBOUND with the next ticket in the lowest free slot; in CLOSED it is
refused. -/
theorem test_accept_parks_the_car :
    let c := Instr.accept (.desk 1) 9 255 255 plateA .absent 255
    told c (garage (car .stored) keyHeld) = some .done ∧ told c (inService .closed (garage (car .stored) keyHeld)) = some .closed ∧
    ((after c (garage (car .stored) keyHeld)).record? 8).map (fun r => (r.state, r.slot, r.stall, r.hook)) =
      some (.inbound, 1, some ⟨0, 1⟩, 1) := by decide

/-- R8, R49: a car of grade 10 fits no stall and waits; R122: a handset's sender becomes PARKING when a stall is found. -/
theorem test_accept_waits_and_parking :
    let s := garage (car .stored) keyHeld
    (after (.accept (.desk 1) 10 255 255 .absent .absent 255) s).sm.waitList = [8] ∧
    (after (.accept (.handset phone) 9 255 255 .absent .absent 255) s).attendant 0 =
      { state := .parking, handset := some 9, idleSince := none, keptSince := 5, ack := none } := by decide

/-- R17: HANDOVER retires a STAGED record. -/
theorem test_handover : told (.handover (.desk 1) 7 255) (garage (car .staged) keyOut) = some .done ∧
    (after (.handover (.desk 1) 7 255) (garage (car .staged) keyOut)).ct.records = [] ∧
    told (.handover (.desk 1) 7 255) (garage (car .stored) keyHeld) = some .wrongState := by decide

/-- R21, R19: HOLD suspends with reason DESK_HOLD; R26: an expected state that differs is NOT_AS_EXPECTED. -/
theorem test_hold : recordAfter (.hold 1 7 3) (garage (car .stored) keyHeld) (fun r => (r.state, r.reason)) =
      some (.suspended, some .deskHold) ∧
    told (.hold 1 7 4) (garage (car .stored) keyHeld) = some .notAsExpected ∧
    told (.hold 1 8 255) (garage (car .stored) keyHeld) = some .notFound ∧
    told (.hold 1 0 255) (garage (car .stored) keyHeld) = some .badField := by decide

/-- 12.3: RESOLVE STORED is refused BUSY while the key is out, and DONE with the key home and the stall OCCUPIED. -/
theorem test_resolve_stored : told (.resolveStored 1 7 255) (garage (car .suspended) keyOut) = some .busy ∧
    told (.resolveStored 1 7 255) (garage (car .suspended) keyHeld) = some .done := by decide

/-- The garage with a stray car in stall 0/1. -/
def strayGarage : State := (garage (car .suspended) keyHeld).modStall 0 1 fun x => { x with stray := true, sensed := .occupied }

/-- R22: the record moves to the stray stall, which is no longer stray. -/
theorem test_resolve_move_to : recordAfter (.resolveMoveTo 1 7 0 1 255) strayGarage (fun r => (r.state, r.stall)) =
      some (.stored, some ⟨0, 1⟩) ∧
    told (.resolveMoveTo 1 7 0 1 255) (garage (car .suspended) keyHeld) = some .wrongState ∧
    told (.resolveMoveTo 1 7 12 0 255) strayGarage = some .badField := by decide

/-- R23: back to the wait list, without its stall; in CLOSED zone 0 no stall is granted at once. -/
theorem test_resolve_waiting :
    let s := (garage (car .suspended) keyHeld).modZone 0 fun z => { z with isOpen := false }
    recordAfter (.resolveWaiting 1 7 255) s (fun r => (r.state, r.stall)) = some (.waiting, none) ∧
    (after (.resolveWaiting 1 7 255) s).sm.waitList = [7] := by decide

/-- R24: RETIRE ends a SUSPENDED record; its hook with the key still on it becomes FREE with a stray key and its latch is
commanded open (R72). -/
theorem test_retire : told (.retire 1 7 255) (garage (car .suspended) keyHeld) = some .done ∧
    hookAfter (.retire 1 7 255) (garage (car .suspended) keyHeld) (fun k => (k.state, k.strayTag)) = some (.free, some 7) ∧
    (after (.retire 1 7 255) (garage (car .suspended) keyOpen)).kc.sent = [⟨0, .opened⟩] := by decide

/-- R27 and 11.7: the full record takes 56 bytes. -/
theorem test_get_record : told (.getRecord 1 7 255) (garage (car .stored) keyHeld) = some .done ∧
    (fieldBytes (car .stored).full).length = 56 := by decide

/-- R27: AMEND replaces the plate given and keeps the folio. -/
theorem test_amend :
    recordAfter (.amend 1 7 (some ⟨1, 66 :: List.replicate 9 0⟩) none 255) (garage (car .stored) keyHeld)
      (fun r => (r.plate, r.folio)) = some ([66], some 9) := by decide

/-- R28, 11.7: one match, its 15 bytes, and the end of the table. -/
theorem test_find_plate : told (.findPlate 1 plateA 0) (garage (car .stored) keyHeld) = some .done ∧
    told (.findPlate 1 .absent 0) (garage (car .stored) keyHeld) = some .badField ∧
    (fieldBytes (car .stored).summary).length = 15 := by decide

/-- R28: a folio search needs a folio. -/
theorem test_find_folio : told (.findFolio 1 ⟨1, 9⟩ 1023) (garage (car .stored) keyHeld) = some .done ∧
    told (.findFolio 1 ⟨0, 9⟩ 0) (garage (car .stored) keyHeld) = some .badField ∧
    told (.findFolio 1 ⟨1, 9⟩ 1024) (garage (car .stored) keyHeld) = some .badField := by decide

/-- R29: a page that ends the walk leaves the cursor at 1024. -/
theorem test_list : (after (.list 1 65535 255) (garage (car .stored) keyHeld)).ct.cursor = 1024 ∧
    told (.list 1 0 8) (garage (car .stored) keyHeld) = some .badField := by decide

/-! ### Settings at the ends of their ranges -/

/-- R6, R57, R81, R85, R120, R140: the first and last values of each range, and the ones beside them. -/
theorem test_setting_ranges :
    let s := garage (car .stored) keyHeld
    [told (.setParkLimit 1 119) s, told (.setParkLimit 1 3601) s, told (.setSilenceTime 1 3) s,
     told (.setSilenceTime 1 61) s, told (.setWindowTime 1 29) s, told (.setWindowTime 1 301) s,
     told (.setCustodyLimit 1 119) s, told (.setCustodyLimit 1 3601) s, told (.setAckTime 1 4) s,
     told (.setAckTime 1 61) s, told (.setDwellTime 1 59) s, told (.setDwellTime 1 3601) s,
     told (.setLeadTime 1 11 1801) s, told (.setLeadTime 1 12 0) s] = List.replicate 14 (some .badField) ∧
    [told (.setParkLimit 1 120) s, told (.setParkLimit 1 3600) s, told (.setSilenceTime 1 4) s,
     told (.setSilenceTime 1 60) s, told (.setWindowTime 1 30) s, told (.setWindowTime 1 300) s,
     told (.setCustodyLimit 1 120) s, told (.setCustodyLimit 1 3600) s, told (.setAckTime 1 5) s,
     told (.setAckTime 1 60) s, told (.setDwellTime 1 60) s, told (.setDwellTime 1 3600) s,
     told (.setLeadTime 1 11 1800) s, told (.setLeadTime 1 0 0) s] = List.replicate 14 (some .done) := by decide

/-- The settings stand where they belong. -/
theorem test_settings_written :
    let s := garage (car .stored) keyHeld
    (after (.setParkLimit 1 120) s).ct.parkLimit = 120 ∧ (after (.setSilenceTime 1 4) s).zl.silenceTime = 4 ∧
    (after (.setWindowTime 1 30) s).kc.windowTime = 30 ∧ (after (.setCustodyLimit 1 120) s).kc.custodyLimit = 120 ∧
    (after (.setAckTime 1 5) s).dr.ackTime = 5 ∧ (after (.setDwellTime 1 60) s).km.dwellTime = 60 ∧
    (after (.setLeadTime 1 0 77) s).jq.leads.head? = some 77 := by decide

/-! ### Stall map and cabinet -/

/-- R36. -/
theorem test_enable_disable_stall :
    let s := garage (car .stored) keyHeld
    told (.enableStall 1 0 1) s = some .already ∧ told (.disableStall 1 0 1) s = some .done ∧
    told (.enableStall 1 0 1) (after (.disableStall 1 0 1) s) = some .done ∧
    told (.disableStall 1 0 2) s = some .badField := by decide

/-- R37, R38, R59. -/
theorem test_zone_commands :
    let s := garage (car .stored) keyHeld
    told (.openZone 1 0) s = some .already ∧ told (.openZone 1 1) s = some .done ∧ told (.closeZone 1 1) s = some .already ∧
    told (.closeZone 1 0) s = some .done ∧ told (.setZoneFlags 1 0 1 1) s = some .done ∧
    told (.setZoneFlags 1 0 2 0) s = some .badField ∧ told (.setWithdrawal 1 0 1) s = some .already ∧
    told (.setWithdrawal 1 0 0) s = some .done ∧ told (.openZone 1 2) s = some .badField := by decide

/-- R45: twelve distinct zones at most; R39, R40: a pair is made and broken CLOSED. -/
theorem test_preference_and_pairs :
    let s := garage (car .stored) keyHeld
    let p := after (.closeZone 1 0) s
    told (.setPreference 1 3 2 ([9, 10] ++ List.replicate 10 0)) s = some .done ∧
    told (.setPreference 1 3 2 ([9, 9] ++ List.replicate 10 0)) s = some .badField ∧
    told (.setPreference 1 4 0 (List.replicate 12 0)) s = some .badField ∧
    told (.setPair 1 0) s = some .zoneOpen ∧ told (.setPair 1 0) p = some .done ∧ told (.unpair 1 0) p = some .already ∧
    told (.unpair 1 0) (after (.setPair 1 0) p) = some .done ∧ told (.setPair 1 1) p = some .badField := by decide

/-- 12.1 in small: lowering slot B below the record's grade sets MISFIT and raises it; R35 needs the zone CLOSED. -/
theorem test_grade_slots :
    let s := garage (car .stored) keyHeld
    recordAfter (.setSlot 1 1 4) s (fun r => r.flags.misfit) = some true ∧
    ((after (.setSlot 1 1 4) s).sa.cell .misfit).subject = some 7 ∧
    told (.setSlot 1 4 0) s = some .badField ∧ told (.setStallSlot 1 0 1 2) s = some .zoneOpen ∧
    told (.setStallSlot 1 0 1 2) (after (.closeZone 1 0) s) = some .done := by decide

/-- R53, R90, R109, R128, R143, R160, R166, R108: the reads answer DONE and keep the state. -/
theorem test_reads :
    let s := garage (car .stored) keyHeld
    let reads := [Instr.readZone 1 11, .readStall 1 0 1, .readWaitList 1, .readHook 1 1023, .readLeadTimes 1,
                  .readQueue 1 63, .readRoster 1, .readKerb 1, .readStatus 1, .readAttention 1]
    (reads.map fun c => told c s) = List.replicate 10 (some .done) ∧
    told (.readZone 1 12) s = some .badField ∧ told (.readStall 1 0 2) s = some .badField ∧
    told (.readHook 1 1024) s = some .badField ∧ told (.readQueue 1 64) s = some .badField := by decide

/-- R87, R89. -/
theorem test_panel_service :
    let s := garage (car .stored) keyHeld
    told (.beginPanelService 1 0) s = some .done ∧ told (.endPanelService 1 0) s = some .already ∧
    told (.beginPanelService 1 0) (garage (car .fetching) keyOpen) = some .panelBusy ∧
    told (.endPanelService 1 0) (after (.beginPanelService 1 0) s) = some .done ∧
    told (.beginPanelService 1 1) s = some .badField := by decide

/-! ### Calls -/

/-- 12.2: a desk CALL of a STORED record is DONE, and the look that ends it offers the entry to the IDLE attendant. -/
theorem test_call :
    let s := after (.call (.desk 1) 7 255 .absent 255) (garage (car .stored) keyHeld)
    (s.record? 7).map Record.state = some .called ∧ (s.entry? 7).map Entry.status = some .offered ∧
    (s.attendant 0).state = .offered ∧ s.lk.tx.map HandsetFrame.kind = [0x82] ∧
    told (.call (.desk 1) 7 255 .absent 255) (garage (car .staged) keyOut) = some .wrongState := by decide

/-- 12.2: CANCEL CALL of an OFFERED entry is DONE and the record STORED; of a TAKEN one it is TOO_LATE. -/
theorem test_cancel_call :
    let c := Instr.cancelCall (.desk 1) 7 255
    recordAfter c (withJob (job .fetch .offered (some 0)) (garageWith .offered (car .called) keyHeld)) Record.state =
      some .stored ∧
    ((after c (withJob (job .fetch .offered (some 0)) (garageWith .offered (car .called) keyHeld))).attendant 0).state =
      .idle ∧
    told c (withJob (job .fetch .taken (some 0)) (garageWith .fetching (car .fetching) keyOpen)) = some .tooLate := by
  decide

/-! ### Kerb, site and attention -/

/-- R136, R132. -/
theorem test_bays_and_lanes :
    let s := garage (car .stored) keyHeld
    told (.enableBay 1 0) s = some .already ∧ told (.disableBay 1 0) s = some .done ∧
    told (.enableBay 1 0) (after (.disableBay 1 0) s) = some .done ∧ told (.setBayFlags 1 0 1) s = some .done ∧
    told (.enableBay 1 1) s = some .badField ∧ told (.clearLane 1 1) s = some .already ∧
    told (.clearLane 1 2) s = some .badField ∧
    told (.clearLane 1 0) (after (.laneLoopChange 0 true) s) = some .done := by decide

/-- R146: SITE0 is the low digit; a second capture answers ALREADY with the first value. -/
theorem test_capture_site :
    let s := after (.captureSite 1 false true) (garage (car .stored) keyHeld)
    s.lk.siteId = 2 ∧ s.lk.siteFixed = true ∧ (told (.captureSite 1 true true) s) = some .already ∧
    (after (.captureSite 1 true true) s).lk.siteId = 2 := by decide

/-- R167, R165: clearing the first cause empties it; a disabled latch does not hold the line. -/
theorem test_attention :
    let s := (garage (car .stored) keyHeld).raise .restarted none
    s.sa.line = true ∧ told (.clearAttention 1 2) s = some .done ∧ (after (.clearAttention 1 2) s).sa.first = none ∧
    told (.clearAttention 1 1) s = some .already ∧ told (.clearAttention 1 16384) s = some .badField ∧
    (after (.setAttentionEnables 1 16381 1) s).sa.line = false ∧
    told (.setAttentionEnables 1 0 2) s = some .badField := by decide

/-! ### Layout, service state, clock, chain, restart -/

/-- R174 to R177 at reset, which is COMMISSIONING; after the freeze they are refused. -/
theorem test_layout :
    let s := State.reset
    told (.defineZone 1 11 96) s = some .done ∧ told (.defineZone 1 12 1) s = some .badField ∧
    told (.defineFixedStall 1 0 0 2 15) (after (.defineZone 1 0 1) s) = some .done ∧
    told (.defineBays 1 255) s = some .done ∧ told (.definePanel 1 4) s = some .badField ∧
    told (.freezeLayout 1) s = some .done ∧ told (.defineZone 1 0 1) (after (.freezeLayout 1) s) = some .layoutFixed ∧
    told (.freezeLayout 1) (after (.freezeLayout 1) s) = some .already := by decide

/-- R176, R70: a panel joins out of service, with its hooks FREE. -/
theorem test_define_panel : told (.definePanel 1 3) State.reset = some .done ∧
    ((after (.definePanel 1 3) State.reset).panel 3).hooks.head? = some Hook.created ∧
    ((after (.definePanel 1 3) State.reset).panel 3).inService = false := by decide

/-- R69: a panel has 256 hooks. -/
theorem test_panel_hooks : Panel.created.hooks.length = 256 := List.length_replicate

/-- R172, R178: CLOSED is left and entered; CLEAR SITE needs CLOSED, its confirm value and no live record. -/
theorem test_service_and_clear :
    let s := garage (car .stored) keyHeld
    told (.setServiceState 1 3) s = some .done ∧ told (.setServiceState 1 2) s = some .already ∧
    told (.setServiceState 1 4) s = some .badField ∧ told (.setServiceState 1 2) State.reset = some .closed ∧
    told (.clearSite 1 0x5A3C) s = some .closed ∧ told (.clearSite 1 0x5A3C) (inService .closed s) = some .busy ∧
    told (.clearSite 1 1) (inService .closed s) = some .badField ∧
    told (.clearSite 1 0x5A3C) (after (.freezeLayout 1) State.reset) = some .done := by decide

/-- R179, R182, R181: the clock, the mask, and the chain, whose position 0 takes CHAIN_IN. -/
theorem test_clock_and_chain :
    let s := garage (car .stored) keyHeld
    (after (.setClock 1 4294967295) s).sa.clock = 4294967295#32 ∧ (after (.setChainMask 1 4095) s).lk.mask = 4095#12 ∧
    told (.setChainMask 1 4096) s = some .badField ∧ (after (.chainClkRisingEdge true) s).lk.shift = 1#12 ∧
    (after .chainLoad (after (.chainClkRisingEdge true) s)).lk.permits = 1#12 := by decide

/-- 12.3: a restart leaves RECOVERY, RESTARTED as the first cause, everyone OFF; a FETCHING record whose key is OUT is
SUSPENDED, with reason RESTART. -/
theorem test_restart :
    let s := after (.restart 1 0x5A3C) (garageWith .fetching (car .fetching) keyOut)
    s.sa.state = .recovery ∧ s.sa.first = some .restarted ∧ s.dr.idle = [] ∧ s.lk.response = none ∧
    (s.record? 7).map (fun r => (r.state, r.reason, r.attendant)) = some (.suspended, some .restart, some 0) ∧
    told (.restart 1 0) (garage (car .stored) keyHeld) = some .badField := by decide

/-- A WAITING record that fits stall 0/1, in a zone with or without withdrawal. -/
def waiting (withdrawal : Bool) : State :=
  ((garage { car .waiting with stall := none } keyHeld).setWaitList [7]).modZone 0 fun z => { z with withdrawal := withdrawal }

/-- R50, R67: a restart serves the wait list where stalls become UNKNOWN with withdrawal off. -/
theorem test_restart_serves : ((waiting false).warmRestart.record? 7).map Record.state = some .granted := by decide +kernel

/-- 12.3: a FETCHING record whose hook is OPEN is CALLED again, and its hook HELD. -/
theorem test_main_supply_return :
    let call : CallField := { tier := 2, due := none, time := 3, source := .desk }
    let s := after .mainSupplyLost (garageWith .fetching { car .fetching with call := some call } keyOpen)
    recordAfter .mainSupplyReturn s Record.state = some .called ∧
    hookAfter .mainSupplyReturn s (fun k => (k.state, k.count, k.latch)) = some (.held, 0, some .closed) ∧
    ((after .mainSupplyReturn s).entry? 7).map (fun e => (e.kind, e.status, e.time)) = some (.fetch, .queued, 3#32) := by
  decide

/-- R183: RESET_N holds events off, and its release is a warm restart; both supplies lost is a power-on at the return. -/
theorem test_reset_and_supplies :
    let s := garage (car .stored) keyHeld
    after (.setClock 1 5) (after .resetNAsserted s) = after .resetNAsserted s ∧
    (after .resetNReleased (after .resetNAsserted s)).sa.first = some .restarted ∧
    (after .backupSupplyLost (after .mainSupplyLost s)).pw.lost = true ∧
    (after .mainSupplyReturn (after .backupSupplyLost (after .mainSupplyLost s))).sa.state = .commissioning ∧
    (after (.powerOn true) s).ct.records = [] := by decide

/-! ### The ports -/

/-- R158, R187: a write transaction of SET CLOCK is read from its bytes; one bit off it is a bad frame. -/
theorem test_desk_bytes :
    deskTransaction false false
        ([0xA1#8] ++ withCheck [0x00#8, 0x08#8, 0x77#8, 0x05#8, 0x00#8, 0x00#8, 0x01#8, 0x02#8]) = .setClock 5 258 ∧
    deskTransaction false false [0xA1#8, 0x00#8, 0x04#8, 0x74#8, 0x05#8, 0xFF#8, 0x82#8] = .freezeLayout 5 ∧
    deskTransaction false false [0xA1#8, 0x00#8, 0x04#8, 0x74#8, 0x05#8, 0xFF#8, 0x83#8] =
      .deskBadFrame [0xA1#8, 0x00#8, 0x04#8, 0x74#8, 0x05#8, 0xFF#8, 0x83#8] := by decide

/-- R158, R187, R157: what the slot holds after transactions that reach no command, and before any. -/
theorem test_desk_port :
    let s := garage (car .stored) keyHeld
    told (.deskBadFrame [0xA1#8]) s = some .badFrame ∧ told (.deskUnknownCommand 1 0x1D) s = some .badField ∧
    after (.deskIgnoredTransaction [0xA3#8]) s = s ∧ s.deskReadBytes = [0#8, 0#8] := by decide

/-- R145: a handset frame of ACK for ticket 7 from its bytes: site 1, handset 9, kind 9, request 4. -/
theorem test_handset_bytes :
    handsetTransfer [0xC5#8, 0x09#8, 0x01#8, 0x09#8, 0x09#8, 0x04#8, 0x00#8, 0x00#8, 0x07#8, 0xFF#8, 0xD8#8] =
      .ack ⟨1, 9, 4⟩ 7 ∧
    handsetTransfer [0xC5#8, 0x09#8, 0x01#8, 0x09#8, 0x09#8, 0x04#8, 0x00#8, 0x00#8, 0x07#8, 0xFF#8, 0xD9#8] =
      .handsetFrameDropped [0xC5#8, 0x09#8, 0x01#8, 0x09#8, 0x09#8, 0x04#8, 0x00#8, 0x00#8, 0x07#8, 0xFF#8, 0xD9#8] := by
  decide

/-- R145, R147, R148, R155. -/
theorem test_handset_port :
    let s := garage (car .stored) keyHeld
    after (.handsetFrameDropped []) s = s ∧ heard (.handsetUnknownKind phone 16) s = some (.byte 21) ∧
    heard (.signOff ⟨0, 8, 1⟩) s = some (.byte 9) ∧ heard (.signOff ⟨4, 9, 1⟩) s = some (.byte 21) ∧
    (after .handsetFrameSent (after (.ready phone) s)).lk.tx = [] ∧
    after (.signOff ⟨3, 9, 1⟩) (after (.captureSite 1 false false) s) = after (.captureSite 1 false false) s := by decide

/-! ### Handset messages -/

/-- R114 to R116. -/
theorem test_roster_messages :
    let s := garage (car .stored) keyHeld
    heard (.signOn ⟨0, 8, 1⟩ 1) s = some (.byte 0) ∧ heard (.signOn phone 0) s = some (.byte 1) ∧
    heard (.signOn phone 1) s = some (.byte 8) ∧ heard (.signOn ⟨0, 8, 1⟩ 32) s = some (.byte 21) ∧
    heard (.signOff phone) s = some (.byte 0) ∧ heard (.takeBreak phone) s = some (.byte 0) ∧
    heard (.ready phone) s = some (.byte 1) ∧
    heard (.ready phone) (garageWith .away (car .stored) keyHeld) = some (.byte 0) ∧
    heard (.signOff phone) (garageWith .parking (car .inbound) keyOut) = some (.byte 8) := by decide

/-- R114, R113: signing on goes to the back, with the elapsed count. -/
theorem test_sign_on_place :
    let s := after (.signOn ⟨0, 8, 1⟩ 1) (garage (car .stored) keyHeld)
    s.dr.idle = [0, 1] ∧ (s.attendant 1).idleSince = some 50#32 := by decide

/-- R9: PARKED is the first mark, and with the key home the record is STORED. -/
theorem test_parked :
    let r := { car .inbound with attendant := some 0 }
    let s := garageWith .parking r keyHeld
    recordAfter (.parked phone 7) s (fun q => (q.state, q.parkMark)) = some (.inbound, true) ∧
    recordAfter (.parked phone 7) (garageWith .parking { r with keyMark := true } keyHeld) Record.state = some .stored ∧
    heard (.parked phone 7) (garage (car .stored) keyHeld) = some (.byte 3) := by decide

/-- 12.2: ACK of the offer gives FETCHING and the hook OPEN with its window; ACK of a QUEUED entry is WITHDRAWN. -/
theorem test_ack :
    let s := withJob (job .fetch .offered (some 0)) (garageWith .offered (car .called) keyHeld)
    recordAfter (.ack phone 7) s (fun r => (r.state, r.attendant)) = some (.fetching, some 0) ∧
    hookAfter (.ack phone 7) s (fun k => (k.state, k.window)) = some (.opened, some ⟨0, 90⟩) ∧
    ((after (.ack phone 7) s).attendant 0).state = .fetching ∧
    heard (.ack phone 7) (withJob (job .fetch .queued none) (garage (car .called) keyHeld)) = some (.byte 6) := by decide

/-- R102: DECLINE returns the entry to QUEUED; of a TAKEN one it is TOO_LATE. -/
theorem test_decline :
    let s := withJob (job .fetch .offered (some 0)) (garageWith .offered (car .called) keyHeld)
    heard (.decline phone 7) s = some (.byte 0) ∧
    heard (.decline phone 7) (withJob (job .fetch .taken (some 0)) (garageWith .fetching (car .fetching) keyOpen)) =
      some (.byte 5) := by decide

/-- R126: ABANDON of a fetch whose car is still in its stall. -/
theorem test_abandon :
    let s := withJob (job .fetch .taken (some 0)) (garageWith .fetching { car .fetching with attendant := some 0 } keyOpen)
    recordAfter (.abandon phone 7) s Record.state = some .called ∧
    heard (.abandon phone 7) (withJob (job .fetch .taken (some 0))
      (garageWith .fetching { car .fetching with attendant := some 0, stall := none } keyOpen)) = some (.byte 5) := by
  decide

/-- R79: KEY_AGAIN in the second period opens the hook again; in the first window it is ALREADY. -/
theorem test_key_again :
    let k := { keyHeld with attendant := some 0, phase := .running, count := 1, window := some ⟨3, 90⟩ }
    hookAfter (.keyAgain phone 7) (garageWith .fetching (car .fetching) k) (fun q => (q.state, q.count, q.window)) =
      some (.opened, 1, some ⟨0, 90⟩) ∧
    heard (.keyAgain phone 7) (garageWith .fetching (car .fetching) keyOpen) = some (.byte 1) := by decide

/-- R138, R16: STAGED into a bay with a car on its loop; bay 8 is no bay. -/
theorem test_staged :
    let s := withJob (job .fetch .taken (some 0)) (garageWith .fetching { car .fetching with attendant := some 0 } keyOut)
    recordAfter (.staged phone 7 0) s (fun r => (r.state, r.bay, r.stall)) = some (.staged, some 0, none) ∧
    (after (.staged phone 7 0) s).jq.entries = [] ∧ heard (.staged phone 7 1) s = some (.byte 15) ∧
    heard (.staged phone 7 8) s = some (.byte 21) := by decide

/-- 12.4 in small: REPARK from a second attendant takes the key over; after it the first is answered WRONG_STATE. -/
theorem test_repark :
    let r := { car .staged with stall := none, bay := some 0 }
    let s := (garage r keyOut).modBay 0 fun b => { b with holder := some 7, dwell := some ⟨0, 600⟩ }
    recordAfter (.repark phone 7) s (fun q => (q.state, q.reparks, q.bay, q.attendant)) =
      some (.inbound, 1, none, some 0) ∧
    ((after (.repark phone 7) s).bay 0).holder = none ∧ ((after (.repark phone 7) s).attendant 0).state = .parking ∧
    heard (.repark phone 7) (garage (car .inbound) keyOut) = some (.byte 3) := by decide

/-! ### Reports -/

/-- 11.5: zone 0 with stall 0 and stall 1 reported occupied: the covered bytes sum to 3, so the check is 65,532. -/
theorem test_zone_report_check :
    let s := garage (car .inbound) keyOut
    recordAfter (.zoneReport 0 3 65532) s Record.parkMark = some true ∧ after (.zoneReport 0 3 65531) s = s ∧
    zoneTransfer ([0xD3#8, 0#8, 3#8] ++ List.replicate 11 0#8 ++ [0xFF#8, 0xFC#8]) = .zoneReport 0 3#96 65532 := by decide

/-- R62, R64: the second vacant report of a STORED record's stall suspends it with STALL_EMPTY. -/
theorem test_zone_report_empty_stall :
    let s := (garage (car .stored) keyHeld).modStall 0 0 fun x => { x with vacantRun := 1 }
    recordAfter (.zoneReport 0 0 65535) s (fun r => (r.state, r.reason)) = some (.suspended, some .stallEmpty) ∧
    recordAfter (.zoneReport 0 0 65535) (garage (car .stored) keyHeld) Record.state = some .stored := by decide

/-- R73: the record's key is hung; another tag is a stray key, KEY_MISHUNG. -/
theorem test_hook_loaded :
    let s := garage (car .inbound) keyOut
    hookAfter (.hookLoaded 0 0 7) s (fun k => (k.state, k.custody)) = some (.held, none) ∧
    recordAfter (.hookLoaded 0 0 7) s Record.keyMark = some true ∧
    hookAfter (.hookLoaded 0 0 8) s Hook.strayTag = some (some 8) ∧ after (.hookLoaded 0 0 1000000) s = s := by decide

/-- R76, R82: a key taken in its window starts the custody timer; one taken from a HELD hook is a forced removal. -/
theorem test_hook_emptied :
    hookAfter (.hookEmptied 0 0 0) (garageWith .fetching (car .fetching) keyOpen) (fun k => (k.state, k.custody)) =
      some (.out, some ⟨0, 900⟩) ∧
    recordAfter (.hookEmptied 0 0 1) (garage (car .stored) keyHeld) (fun r => (r.state, r.reason)) =
      some (.suspended, some .keyForced) := by decide

/-- R71, R77: the confirmation of the closing latch completes the first lapse; R69: what is dropped changes nothing. -/
theorem test_latch_done :
    let k := { keyOpen with phase := .closing, window := none, latch := some .closed, repeatTimer := some ⟨0, 2⟩ }
    hookAfter (.latchDone 0 0 1) (garageWith .fetching (car .fetching) k) (fun q => (q.state, q.count, q.phase)) =
      some (.held, 1, .running) ∧
    after (.cabinetMessageDropped []) (garage (car .stored) keyHeld) = garage (car .stored) keyHeld ∧
    cabinetTransfer [0xB4#8, 0#8, 1#8, 5#8, 0#8, 0#8, 7#8, 0xFF#8, 0xF2#8] = .hookLoaded 0 5 7 := by decide

/-! ### Timers, lines -/

/-- R58, R71, R77, R84: an expiry at its length, and not before. -/
theorem test_zone_and_hook_timers :
    let s := garageWith .fetching (car .fetching) { keyOpen with latch := some .opened, repeatTimer := some ⟨2, 2⟩, window := some ⟨90, 90⟩ }
    after (.silenceTimerExpiry 0) s = s ∧
    ((after (.silenceTimerExpiry 0) { s with zl := { s.zl with links := [⟨.live, some ⟨10, 10⟩⟩] } }).link 0).link = .silent ∧
    hookAfter (.latchRepeat 0) s Hook.repeatTimer = some (some ⟨0, 2⟩) ∧
    hookAfter (.windowTimerExpiry 0) s (fun k => (k.phase, k.latch)) = some (.closing, some .closed) := by decide

/-- R84: three quarters of 900 s is 675 s. -/
theorem test_custody_timer :
    let at_ (n : Nat) := garageWith .fetching (car .fetching) { keyOut with custody := some ⟨n, 900⟩ }
    after (.keyWarningPoint 0) (at_ 674) = at_ 674 ∧
    (after (.keyWarningPoint 0) (at_ 675)).lk.tx.map HandsetFrame.kind = [0x85] ∧
    after (.custodyLimitReached 0) (at_ 899) = at_ 899 ∧
    recordAfter (.custodyLimitReached 0) (at_ 900) (fun r => r.flags.keyOverdue) = some true := by decide

/-- R6, R121, R186, R140, R141, 12.2 and 12.4: the other expiries. -/
theorem test_other_timers :
    let late := garage { car .inbound with park := some ⟨900, 900, false⟩ } keyOut
    let offered := withJob (job .fetch .offered (some 0)) ((garageWith .offered (car .called) keyHeld).modAttendant 0
      fun a => { a with ack := some ⟨20, 20⟩ })
    let staged := (garage { car .staged with stall := none, bay := some 0 } keyOut).modBay 0 fun b =>
      { b with holder := some 7, dwell := some ⟨600, 600⟩, driveOff := some ⟨20, 20⟩ }
    recordAfter (.parkLimitReached 7) late (fun r => r.flags.inboundLate) = some true ∧
    ((after (.ackTimerExpiry 0) offered).attendant 0).state = .away ∧
    ((after (.ackTimerExpiry 0) offered).sa.cell .ackTimeout).subject = some 0 ∧
    recordAfter (.dwellTimerExpiry 0) staged (fun r => r.flags.dwellExpired) = some true ∧
    (after (.driveOffTimerExpiry 0) staged).ct.records = [] := by decide

/-- R186: the recovery timer ends RECOVERY; R179, R180: a second moves both clocks. -/
theorem test_recovery_and_second :
    let s := garage (car .stored) keyHeld
    let r := inService .recovery { s with sa := { s.sa with recovery := some ⟨⟨10, 10⟩, [0]⟩ } }
    (after .recoveryTimerExpiry r).sa.state = .closed ∧ (after .elapsedSecond s).sa.elapsed = 51#32 ∧
    (after .elapsedSecond s).sa.clock = 1001#32 ∧ ((after .elapsedSecond s).link 0).silence = some ⟨1, 10⟩ := by decide

/-- R130: a rising edge is captured; R134: OFF under a holder starts 20 s. -/
theorem test_loops :
    let s := (garage { car .staged with stall := none, bay := some 0 } keyOut).modBay 0 fun b => { b with holder := some 7 }
    ((after (.laneLoopChange 0 true) s).lane 0).fifo = [1000#32] ∧
    ((after (.bayLoopChange 0 false) s).bay 0).driveOff = some ⟨0, 20⟩ := by decide

/-! ### Witnesses: states and operands that meet the hypotheses of the statements, clause by clause -/

theorem deskNames_garage (st : RecordState) (k : Hook) : DeskNames (garage (car st) k) 7 255 (car st) :=
  ⟨rfl, by decide, by decide, rfl, .inl rfl⟩

theorem heardFrom_garage (r : Record) (k : Hook) : HeardFrom (garage r k) phone 0 := ⟨rfl, rfl, by decide, rfl⟩

/-- A frame with a site field above 3, before the site identity is captured. -/
theorem sentBy_garage (r : Record) (k : Hook) : SentBy (garage r k) ⟨4, 9, 1⟩ 0 := ⟨rfl, rfl, rfl⟩

theorem handsetNames_garage (st : RecordState) (k : Hook) : HandsetNames (garage (car st) k) phone 0 7 (car st) :=
  ⟨heardFrom_garage _ _, by decide, by decide, rfl⟩

/-- The record at the ends of the expected state's codes (R26). -/
theorem witness_expected_states : DeskNames (garage (car .inbound) keyOut) 7 0 (car .inbound) ∧
    DeskNames (garage (car .suspended) keyOut) 7 7 (car .suspended) :=
  ⟨⟨rfl, by decide, by decide, rfl, .inr rfl⟩, ⟨rfl, by decide, by decide, rfl, .inr rfl⟩⟩

theorem witness_StepRunsTheFrontCommand : State.reset.pending = [] := rfl

theorem witness_SuppliesAndResetEndAndBeginOperation :
    let s := State.reset
    let asserted := after .resetNAsserted s
    let dark := after .mainSupplyLost s
    let lost := after .backupSupplyLost dark
    asserted.running = false ∧ dark.running = false ∧ lost.running = false ∧ s.running = true ∧
    (asserted.pw.main = true ∧ asserted.pw.lost = false) ∧ dark.pw.main = false ∧
    (dark.pw.lost = false ∧ dark.pw.resetAsserted = false) ∧
    ((after .resetNAsserted dark).pw.lost = false ∧ (after .resetNAsserted dark).pw.resetAsserted = true) ∧
    lost.pw.lost = true := by decide

theorem witness_DeskCommandsAreAnsweredAndRefusalsChangeNothing :
    let s := garage (car .stored) keyHeld
    s.running = true ∧ deskHeader (.openZone 1 0) = some (1, 0x22) ∧ Instr.openZone 1 0 ≠ .restart 1 0x5A3C ∧
    ((after (.openZone 1 0) s).lk.response.map Response.answer) = some .already := by decide

theorem witness_TicketChecksComeInOrder :
    let s := garage (car .stored) keyHeld
    s.running = true ∧ namedRecord (.hold 1 0 255) = some (0, 255, true) ∧
    namedRecord (.hold 1 1000000 255) = some (1000000, 255, true) ∧
    namedRecord (.resolveMoveTo 1 7 12 0 255) = some (7, 255, false) ∧
    namedRecord (.resolveMoveTo 1 7 11 95 255) = some (7, 255, true) ∧
    namedRecord (.hold 1 7 8) = some (7, 8, true) ∧ s.record? 1 = none ∧ s.record? 999999 = none ∧
    s.record? 7 = some (car .stored) ∧ 7 ≠ (car .stored).state.code ∧ 0 ≠ (car .stored).state.code := by decide

/-- The handset messages' checks, at the ends of the ranges of site, ticket and bay (R127, R148). -/
theorem witness_handset_ticket_checks :
    let s := garage (car .stored) keyHeld
    s.running = true ∧ s.siteAdmits ⟨3, 9, 1⟩ = true ∧ s.siteAdmits ⟨4, 9, 1⟩ = true ∧ s.boundTo? 9 = some 0 ∧
    s.boundTo? 8 = none ∧ namedByHandset (.ack phone 0) = some (phone, 0, true, []) ∧
    namedByHandset (.ack phone 1000000) = some (phone, 1000000, true, []) ∧
    namedByHandset (.staged phone 7 8) = some (phone, 7, false, []) ∧
    namedByHandset (.staged phone 7 7) = some (phone, 7, true, []) ∧
    namedByHandset (.repark phone 999999) = some (phone, 999999, true, [.stall none]) :=
  ⟨rfl, rfl, rfl, rfl, rfl, rfl, rfl, rfl, rfl, rfl⟩

theorem test_handset_ticket_checks :
    let s := garage (car .stored) keyHeld
    heard (.staged phone 999999 8) s = some (.byte 21) ∧ heard (.staged phone 999999 7) s = some (.byte 2) ∧
    heard (.staged ⟨0, 8, 1⟩ 999999 8) s = some (.byte 9) ∧ heard (.staged ⟨4, 8, 1⟩ 999999 8) s = some (.byte 9) ∧
    heard (.staged ⟨4, 9, 1⟩ 999999 7) s = some (.byte 21) := by
  decide

theorem witness_HandsetMessagesAreAnsweredOnce :
    let s := garage (car .stored) keyHeld
    let fixed := after (.captureSite 1 true true) s
    s.running = true ∧ handsetHeader (.ready phone) = some (phone, 4) ∧ s.lk.siteFixed = false ∧ s.lk.tx.length < 64 ∧
    fixed.running = true ∧ fixed.lk.siteFixed = true ∧ phone.site ≠ fixed.lk.siteId ∧
    (⟨3, 9, 1⟩ : Handset).site = fixed.lk.siteId ∧ fixed.lk.tx.length < 64 := by decide

theorem witness_PortsAnswerWhatReachesNoCommand :
    let s := garage (car .stored) keyHeld
    s.running = true ∧ handsetKind 0 = false ∧ handsetKind 16 = false ∧ s.siteAdmits phone = true ∧ s.lk.tx = [] ∧
    (after (.ready phone) s).lk.tx.length = 1 ∧ [0xA1#8].head? = some 0xA1#8 ∧ deskFrameBad [0xA1#8] = true ∧
    deskCode 0x0F = false ∧ deskCode 0x7A = false ∧ handsetHeader (.ready ⟨3, 8, 1⟩) = some (⟨3, 8, 1⟩, 4) ∧
    s.siteAdmits ⟨3, 8, 1⟩ = true ∧ s.siteAdmits ⟨4, 8, 1⟩ = true ∧ s.boundTo? 8 = none ∧
    heard (.ready ⟨4, 8, 1⟩) s = some (.byte 9) := by decide

theorem witness_AcceptIsRefusedInOrderOrCreatesARecord :
    let s := garage (car .stored) keyHeld
    AcceptSender s (.desk 1) none ∧ AcceptSender s (.handset phone) (some 0) ∧ s.sa.state = .opened ∧
    (inService .closed s).sa.state ≠ .opened ∧ (inService .closed s).sa.state ≠ .night ∧
    s.ct.records.length < 1024 ∧ s.freeHook? = some 1 ∧ s.allocate 9 .none 2 ≠ none ∧ s.allocate 10 .none 2 = none ∧
    s.sm.waitList.length < 24 ∧ ((garageWith .parking (car .inbound) keyOut).attendant 0).state ≠ .idle :=
  ⟨⟨rfl, rfl⟩, ⟨0, ⟨rfl, rfl, rfl⟩, rfl, rfl⟩, rfl, by decide, by decide, by decide, by decide, by decide, by decide,
    by decide, by decide⟩

/-- R148, R7: with a site field above 3 the sender's checks and CLOSED still come before BAD_FIELD. -/
theorem witness_accept_site :
    let c := Instr.accept (.handset ⟨4, 9, 1⟩) 9 255 255 .absent .absent 255
    AcceptSender (garage (car .stored) keyHeld) (.handset ⟨4, 9, 1⟩) (some 0) ∧
    SentBy (garageWith .parking (car .inbound) keyOut) ⟨4, 9, 1⟩ 0 ∧
    heard c (garageWith .parking (car .inbound) keyOut) = some (.byte 8) ∧
    heard c (inService .closed (garage (car .stored) keyHeld)) = some (.byte Answer.closed.code) ∧
    heard c (garage (car .stored) keyHeld) = some (.byte 21) :=
  ⟨⟨0, sentBy_garage _ _, rfl, rfl⟩, ⟨rfl, rfl, rfl⟩, by decide⟩

/-- R7: each field at the ends of its range, and just beyond. -/
theorem witness_accept_field_ranges :
    (arrivalOf 15 2 3 PlateField.absent ⟨1, 4294967295⟩ 1).isSome = true ∧
    (arrivalOf 0 255 255 PlateField.absent .absent 255).isSome = true ∧
    (arrivalOf 16 0 0 .absent .absent 0).isNone = true ∧ (arrivalOf 0 3 0 .absent .absent 0).isNone = true ∧
    (arrivalOf 0 0 4 .absent .absent 0).isNone = true ∧ (arrivalOf 0 0 0 .absent .absent 2).isNone = true ∧
    (arrivalOf 0 0 0 ⟨11, List.replicate 11 65⟩ .absent 0).isNone = true ∧
    (arrivalOf 0 0 0 ⟨1, [91]⟩ .absent 0).isNone = true ∧ (arrivalOf 0 0 0 .absent ⟨1, 0⟩ 0).isNone = true ∧
    (arrivalOf 0 0 0 .absent ⟨2, 1⟩ 0).isNone = true := by decide

/-- A car that finds the table, the hooks or the wait list full (R7). -/
theorem witness_accept_full :
    let s := garage (car .stored) keyHeld
    1024 ≤ (List.replicate 1024 (car .stored)).length ∧
    ({ s with kc := State.reset.kc } : State).freeHook? = none ∧
    24 ≤ (s.setWaitList (List.range 24)).sm.waitList.length ∧
    (s.setWaitList (List.range 24)).allocate 10 .none 2 = none :=
  ⟨by rw [List.length_replicate], by decide, by decide, by decide⟩

theorem witness_NewRecordHasItsCreationValues :
    let s := (garage (car .stored) keyHeld).modLane 0 fun l => { l with fifo := [4] }
    TableSound s ∧ s.ct.records.length < 1024 ∧ (s.hook? 1).map Hook.state = some .free ∧ (s.lane 0).fifo ≠ [] ∧
    (s.stall? 0 1).isSome = true ∧ s.allocate 9 .none 2 = some (⟨0, 1⟩, false) ∧ 0 < s.dr.attendants.length := by
  refine ⟨⟨?_, ?_, ?_⟩, by decide⟩ <;> simp [State.modLane, garage, car, State.reset, State.poweredOn]

theorem witness_RetireEndsASuspendedRecord :
    DeskNames (garage (car .suspended) keyHeld) 7 255 (car .suspended) ∧ (car .suspended).state = .suspended ∧
    DeskNames (garage (car .stored) keyHeld) 7 255 (car .stored) ∧ (car .stored).state ≠ .suspended :=
  ⟨deskNames_garage _ _, rfl, deskNames_garage _ _, by decide⟩

theorem witness_RetirementFreesSlotHookStallAndBay :
    let r := { car .staged with bay := some 0 }
    let s := garage r keyHeld
    DeskNames (garage (car .staged) keyOut) 7 255 (car .staged) ∧ (car .staged).state = .staged ∧
    HandsetNames (garage (car .staged) keyOut) phone 0 7 (car .staged) ∧
    DeskNames (garage (car .called) keyHeld) 7 255 (car .called) ∧
    HandsetNames (garage (car .called) keyHeld) phone 0 7 (car .called) ∧ (car .called).state ≠ .staged ∧
    s.record? 7 = some r ∧ s.hook? r.hook = some keyHeld ∧ (garage r keyOpen).hook? r.hook = some keyOpen ∧
    (garage r keyOut).hook? r.hook = some keyOut ∧ r.stall = some ⟨0, 0⟩ ∧ (s.stall? 0 0).isSome = true ∧ r.bay = some 0 :=
  ⟨deskNames_garage _ _, rfl, handsetNames_garage _ _, deskNames_garage _ _, handsetNames_garage _ _, by decide⟩

theorem witness_HoldSetsARecordAside :
    DeskNames (garage (car .stored) keyHeld) 7 255 (car .stored) ∧
    ((car .stored).state ≠ .staged ∧ (car .stored).state ≠ .suspended) ∧
    DeskNames (garage (car .staged) keyOut) 7 255 (car .staged) ∧
    DeskNames (garage (car .suspended) keyOut) 7 255 (car .suspended) :=
  ⟨deskNames_garage _ _, by decide, deskNames_garage _ _, deskNames_garage _ _⟩

/-- A second period of attendant 0. -/
def keySecond : Hook := { keyHeld with attendant := some 0, phase := .running, count := 1, window := some ⟨0, 90⟩ }

theorem witness_SuspensionSetsTheRecordAside :
    let s := garage (car .inbound) keyOut
    s.record? 7 = some (car .inbound) ∧ s.hook? 0 = some keyOut ∧ s.hookInService 0 = false ∧
    (garage (car .fetching) keyOpen).hook? 0 = some keyOpen ∧
    (garage (car .fetching) { keyOpen with phase := .closing }).hook? 0 = some { keyOpen with phase := .closing } ∧
    (garage (car .fetching) keySecond).hook? 0 = some keySecond ∧
    (garage (car .fetching) { keyOpen with phase := .ending }).hook? 0 = some { keyOpen with phase := .ending } ∧
    ((garage (car .fetching) keyOpen).modPanel 0 fun p => { p with inService := true }).hookInService 0 = true := by
  decide

/-- The attendant of a suspended record's job: offered, taken, a MOVE under way, and a car being parked (R19). -/
theorem witness_suspended_jobs :
    let offered := withJob (job .fetch .offered (some 0)) (garageWith .offered (car .called) keyHeld)
    let moving := withJob (job .move .taken (some 0)) (garageWith .moving (car .inbound) keyOpen)
    let parking := garageWith .parking { car .inbound with attendant := some 0 } keyOut
    offered.entry? 7 = some (job .fetch .offered (some 0)) ∧ (offered.attendant 0).handset = some 9 ∧
    offered.lk.tx.length < 64 ∧ moving.entry? 7 = some (job .move .taken (some 0)) ∧
    parking.record? 7 = some { car .inbound with attendant := some 0 } ∧ parking.entry? 7 = none ∧
    ((offered.begin.suspend 7 .deskHold).attendant 0).state = .idle ∧
    (moving.begin.suspend 7 .deskHold).lk.tx.map HandsetFrame.kind = [0x83] ∧
    (parking.begin.suspend 7 .deskHold).dr.idle = [0] := by decide

theorem witness_ResolveReturnsASuspendedRecord :
    let s := garage (car .suspended) keyHeld
    let r := car .suspended
    DeskNames s 7 255 r ∧ r.state = .suspended ∧ r.stall = some ⟨0, 0⟩ ∧ s.keyIsHome r = true ∧
    (garage r keyOut).keyIsHome r = false ∧ (s.stall? 0 0).map Stall.sensed = some .occupied ∧
    (s.link 1).link ≠ .live ∧ (strayGarage.stall? 0 1).map Stall.stray = some true ∧
    (s.stall? 0 1).map Stall.stray = some false ∧ s.stall? 11 95 = none ∧ s.sm.waitList.length < 24 ∧
    24 ≤ (s.setWaitList (List.range 24)).sm.waitList.length ∧ strayGarage.record? 7 = some r ∧
    (strayGarage.stall? 0 1).isSome = true ∧ (⟨0, 0⟩ : StallId) ≠ ⟨0, 1⟩ ∧ (strayGarage.stall? 0 0).isSome = true :=
  ⟨deskNames_garage _ _, by decide⟩

theorem witness_RecordQueriesReadAndAmendReplaces :
    let s := garage (car .stored) keyHeld
    DeskNames s 7 255 (car .stored) ∧ (plateOf plateA).isSome = true ∧ (folioOf ⟨1, 9⟩).isSome = true ∧
    s.running = true ∧ plateOf plateA = some [65] ∧ folioOf ⟨1, 9⟩ = some (some 9) ∧ plateOf .absent = some [] ∧
    folioOf ⟨0, 9⟩ = some none ∧ plateOf ⟨11, []⟩ = none ∧ folioOf ⟨1, 0⟩ = none :=
  ⟨deskNames_garage _ _, by decide⟩

theorem witness_StallAndZoneSettingsFollowTheirCommands :
    let s := garage (car .stored) keyHeld
    s.running = true ∧ s.stall? 0 2 = none ∧ (s.stall? 0 1).map Stall.enabled = some true ∧
    ((after (.disableStall 1 0 1) s).stall? 0 1).map Stall.enabled = some false ∧
    ((s.modStall 0 1 fun x => { x with source := .fixed 3 }).stall? 0 1).map Stall.isFixed = some true ∧
    (s.zone 2).inLayout = false ∧ (s.zone 0).inLayout = true ∧ (s.zone 0).isOpen = true ∧ (s.zone 1).isOpen = false ∧
    (s.zone 0).withdrawal = true ∧ ([0, 1, 2, 3, 4, 5, 6, 7, 8, 9, 10, 11].take 12).Nodup ∧
    ¬([0, 0, 2, 3, 4, 5, 6, 7, 8, 9, 10, 11].take 2).Nodup := by decide

theorem witness_PairsAreMadeAndBrokenClosed :
    let s := after (.closeZone 1 0) (garage (car .stored) keyHeld)
    s.running = true ∧ (s.zone 2).inLayout = false ∧ (s.zone 0).inLayout = true ∧ (s.zone 1).inLayout = true ∧
    (s.zone 0).paired = false ∧ (s.zone 0).isOpen = false ∧ (s.zone 1).isOpen = false ∧
    ((after (.setPair 1 0) s).zone 0).paired = true ∧
    ((after (.openZone 1 0) (after (.setPair 1 0) s)).zone 0).isOpen = true ∧ (s.zone (0 + 1 + 1)).inLayout = false := by
  decide

theorem witness_GradeSlotsRegradeTheirStalls :
    let s := garage (car .stored) keyHeld
    s.running = true ∧ s.sm.gradeSlots.getD 3 0 = 2 ∧ s.sm.gradeSlots.getD 0 0 = 15 ∧ s.stall? 0 2 = none ∧
    (s.stall? 0 1).map Stall.isFixed = some false ∧ s.zoneOpen 0 = true ∧ s.zoneOpen 1 = false ∧
    (s.stall? 0 0).map Stall.holder = some (some 7) ∧ s.record? 7 = some (car .stored) ∧
    (car .stored).grade ≤ s.gradeOf Stall.created ∧
    (after (.setSlot 1 1 4) s).gradeOf Stall.created < (car .stored).grade := by decide

theorem witness_ReadCommandsChangeNothing :
    let s := garage (car .stored) keyHeld
    s.running = true ∧ (s.zone 11).inLayout = false ∧ (s.zone 0).inLayout = true ∧ s.stall? 0 2 = none ∧
    (s.stall? 0 1).isSome = true ∧ s.hook? 1023 = none ∧ s.hook? 0 = some keyHeld := by decide

theorem witness_BaysLanesAndPanelsFollowTheirCommands :
    let s := garage (car .stored) keyHeld
    s.running = true ∧ (s.bay 7).inLayout = false ∧ (s.bay 0).inLayout = true ∧ (s.bay 0).enabled = true ∧
    ((after (.disableBay 1 0) s).bay 0).enabled = false ∧ (s.lane 1).fifo = [] ∧
    ((after (.laneLoopChange 1 true) s).lane 1).fifo ≠ [] ∧ (s.panel 3).inLayout = false ∧
    (s.panel 0).inLayout = true ∧ (s.panel 0).inService = false ∧ (∀ k ∈ (s.panel 0).hooks, k.state ≠ .opened) ∧
    (∃ k ∈ ((garage (car .fetching) keyOpen).panel 0).hooks, k.state = .opened) ∧
    ((after (.beginPanelService 1 0) s).panel 0).inService = true := by decide

/-- A HELD hook's required position changes as its panel enters service and as it opens; a FREE hook's does not (R71). -/
theorem witness_required_positions :
    let s := garage (car .stored) keyHeld
    0 < s.kc.panels.length ∧ (s.panel 0).hooks.length ≤ 256 ∧ s.hook? 0 = some keyHeld ∧ s.hook? 1 = some Hook.created ∧
    keyHeld.required true ≠ keyHeld.required (s.panel 0).inService ∧
    Hook.created.required true = Hook.created.required (s.panel 0).inService ∧
    keyOpen.required (s.hookInService 0) ≠ keyHeld.required (s.hookInService 0) ∧
    (after (.beginPanelService 1 0) s).kc.sent = [⟨0, .opened⟩] := by decide

theorem witness_CallsAreRefusedInOrderOrTaken :
    let s := garage (car .stored) keyHeld
    DeskNames s 7 255 (car .stored) ∧ HandsetNames s phone 0 7 (car .stored) ∧ MayAct s 0 (car .stored) ∧
    dueOf .absent = some none ∧ dueOf ⟨1, 5⟩ = some (some 5#32) ∧ s.entry? 7 = none ∧ s.jq.entries.length < 64 ∧
    ((withJob (job .fetch .queued none) (garage (car .called) keyHeld)).entry? 7).map Entry.tier = some 2 ∧
    (withJob (job .fetch .queued none) (garage (car .called) keyHeld)).record? 7 = some (car .called) ∧
    ((withJob (job .move .queued none) (garage (car .granted) keyHeld)).entry? 7).map Entry.kind = some .move ∧
    64 ≤ (s.setEntries (List.replicate 64 { job .fetch .queued none with ticket := 8 })).jq.entries.length ∧
    ¬MayAct (garage { car .inbound with attendant := some 1 } keyOut) 0 { car .inbound with attendant := some 1 } ∧
    QueueOrdered (withJob (job .fetch .queued none) (garage (car .called) keyHeld)) :=
  ⟨deskNames_garage _ _, handsetNames_garage _ _, .inl (by decide), by decide, by decide, by decide, by decide, by decide,
    by decide, by decide, by decide, by simp only [MayAct]; decide,
    by simp [QueueOrdered, withJob, State.setEntries]⟩

theorem witness_NewCallMakesTheRecordCalledWithAFetchEntry :
    let s := withJob (job .move .queued none) (garage (car .granted) keyHeld)
    (garage (car .stored) keyHeld).record? (car .stored).ticket = some (car .stored) ∧
    (garage (car .stored) keyHeld).entry? 7 = none ∧ s.record? 7 = some (car .granted) ∧
    (garage (car .waiting) keyHeld).entry? 7 = none ∧ (garage (car .inbound) keyOut).entry? 7 = none := by decide

theorem witness_CancelCallUndoesAStandingCall :
    let r := { car .called with stall := none }
    let s := withJob (job .fetch .queued none) (garage r keyHeld)
    DeskNames (garage (car .called) keyHeld) 7 255 (car .called) ∧
    HandsetNames (garage (car .called) keyHeld) phone 0 7 (car .called) ∧ s.record? r.ticket = some r ∧
    s.entry? r.ticket = some (job .fetch .queued none) ∧ s.sa.causes.length = 14 ∧
    24 ≤ (s.setWaitList (List.range 24)).sm.waitList.length ∧ (garage (car .called) keyHeld).entry? 7 = none ∧
    (withJob (job .fetch .offered (some 0)) (garageWith .offered (car .called) keyHeld)).entry? 7 =
      some (job .fetch .offered (some 0)) ∧
    (withJob (job .fetch .queued none) (garage (car .inbound) keyOut)).record? 7 = some (car .inbound) ∧
    (withJob (job .fetch .taken (some 0)) (garage (car .fetching) keyOpen)).entry? 7 = some (job .fetch .taken (some 0)) :=
  ⟨deskNames_garage _ _, handsetNames_garage _ _, by decide⟩

/-- R13: without a stall the record waits at the tail; INBOUND stays. -/
theorem test_cancel_call_without_stall :
    let c := Instr.cancelCall (.desk 1) 7 255
    let s := withJob (job .fetch .queued none) (inService .closed (garage { car .called with stall := none } keyHeld))
    recordAfter c (s.modZone 0 fun z => { z with isOpen := false }) Record.state = some .waiting ∧
    recordAfter c (withJob (job .fetch .queued none) (garage (car .inbound) keyOut)) Record.state = some .inbound := by
  decide

theorem witness_SiteIdentityIsCapturedOnceUntilPowerOn :
    let s := garage (car .stored) keyHeld
    s.running = true ∧ s.lk.siteFixed = false ∧ (after (.captureSite 1 true true) s).lk.siteFixed = true ∧
    Instr.readStatus 1 ≠ .powerOn true ∧ Instr.readStatus 1 ≠ .mainSupplyReturn ∧ s.pw.lost = false := by decide

theorem witness_attention :
    let s := (garage (car .stored) keyHeld).raise .restarted none
    s.running = true ∧ s.sa.causes.length = 14 ∧ (s.sa.cell .restarted).latch = true ∧
    (s.sa.cell .keyWarning).latch = false ∧ Nat.testBit 2 Cause.restarted.index = true ∧
    Nat.testBit 8192 Cause.keyWarning.index = true ∧ Cause.keyWarning ≠ .restarted := by decide

theorem witness_LayoutIsDefinedUntilFrozen :
    let s := after (.defineZone 1 0 96) State.reset
    s.running = true ∧ s.sa.state = .commissioning ∧ (garage (car .stored) keyHeld).sa.state ≠ .commissioning ∧
    960 < 865 + s.otherStalls 1 ∧ 96 + s.otherStalls 1 ≤ 960 ∧ s.stall? 0 96 = none ∧ (s.stall? 0 95).isSome = true ∧
    (s.panel 3).inLayout = false ∧ ((after (.definePanel 1 3) s).panel 3).inLayout = true ∧
    11 < s.sm.zones.length ∧ 11 < s.zl.links.length ∧ ((after (.defineBays 1 255) s).bay 7).enabled = true ∧
    ((after (.defineBays 1 0) (after (.defineBays 1 255) s)).bay 7).inLayout = false := by decide

theorem witness_ServiceStateMovesAndClearSiteReturns :
    let s := garage (car .stored) keyHeld
    s.running = true ∧ State.reset.sa.state = .commissioning ∧ s.sa.state ≠ .commissioning ∧ s.sa.state ≠ .recovery ∧
    ServiceState.night ≠ s.sa.state ∧ s.sa.state ≠ .closed ∧ (inService .closed s).sa.state = .closed ∧
    s.ct.records ≠ [] ∧ (inService .closed State.reset).ct.records = [] := by decide

theorem witness_WarmRestartReconcilesRecordsAgainstHooks :
    let s := garage (car .fetching) keyOut
    TableSound s ∧ car .fetching ∈ s.ct.records ∧ (car .fetching).ticket ∉ s.sm.waitList ∧ s.hook? 0 = some keyOut ∧
    (garage (car .fetching) keyOpen).hook? 0 = some keyOpen ∧
    (∃ e ∈ (withJob (job .move .taken (some 0)) (garage (car .inbound) keyOpen)).jq.entries,
      e.ticket = (car .inbound).ticket ∧ e.kind = .move) ∧
    car .inbound ∈ (garage (car .inbound) keyOut).ct.records ∧ (garage (car .inbound) keyOut).jq.entries = [] ∧
    (garage (car .inbound) { keyHeld with state := .await }).hook? 0 = some { keyHeld with state := .await } ∧
    (waiting true).hook? 0 = some keyHeld := by
  refine ⟨⟨?_, ?_, ?_⟩, by decide, by decide, by decide, by decide, by decide, by decide, by decide, by decide, by decide⟩ <;>
    simp [garage, car, State.reset, State.poweredOn]

/-- A restart that serves and one that does not; a call and a grant to rebuild; a held bay; a service state with and without
zones (R110, R144, R184). -/
theorem witness_WarmRestartResetsWhatIsVolatile :
    let call : CallField := { tier := 1, due := some 9, time := 3, source := .desk }
    let s := garage { car .called with call := some call } keyOpen
    TableSound s ∧ (∀ q ∈ s.kc.panels, q.hooks.length ≤ 256) ∧ s.sa.causes.length = 14 ∧ s.hook? 0 = some keyOpen ∧
    (garage (car .fetching) keyOut).hook? 0 = some keyOut ∧ (s.restarted.entry? 7).map Entry.time = some 9#32 ∧
    ((garage (car .granted) keyHeld).restarted.entry? 7).map Entry.kind = some .move ∧
    ((s.modBay 0 fun b => { b with holder := some 7 }).restarted.bay 0).dwell = some ⟨0, 600⟩ ∧
    s.sa.state ≠ .commissioning ∧ State.reset.sa.state = .commissioning ∧ (s.zone 0).inLayout = true ∧
    (inService .closed State.reset).layoutZones = [] ∧ restartServes (waiting false) (waiting false).restarted = true ∧
    restartServes (waiting true) (waiting true).restarted = false := by
  refine ⟨⟨?_, ?_, ?_⟩, by decide⟩ <;> simp [garage, car, State.reset, State.poweredOn]

theorem witness_RosterMessagesMoveTheAttendantInTheIdleList :
    let s := garage (car .stored) keyHeld
    HeardFrom s phone 0 ∧ SentBy s ⟨4, 9, 1⟩ 0 ∧ (s.attendant 0).state = .idle ∧
    ((garageWith .away (car .stored) keyHeld).attendant 0).state = .away ∧
    ((garageWith .parking (car .inbound) keyOut).attendant 0).state = .parking ∧ s.signedOn 0 = true ∧
    s.signedOn 31 = false ∧ s.boundTo? 8 = none ∧ 31 < s.dr.attendants.length :=
  ⟨heardFrom_garage _ _, sentBy_garage _ _, by decide⟩

theorem witness_RecordMessagesAreRuledInOrder :
    let r := car .inbound
    let offered := withJob (job .fetch .offered (some 0)) (garage (car .called) keyHeld)
    let taken := withJob (job .fetch .taken (some 0)) (garage (car .fetching) keyOpen)
    HandsetNames (garage r keyOut) phone 0 7 r ∧ MayAct (garage r keyOut) 0 r ∧ r.parkMark = false ∧
    ((garage r keyOut).hook? r.hook).bind Hook.attendant = some 0 ∧
    ((garage r keyHeld).hook? r.hook).bind Hook.attendant ≠ some 0 ∧
    (garage r keyOut).entry? 7 = none ∧ (offered.entry? 7).map Entry.status = some .offered ∧
    (offered.entry? 7).bind Entry.attendant = some 0 ∧ (taken.entry? 7).map Entry.status = some .taken ∧
    MayAct taken 0 (car .fetching) ∧ (car .fetching).stall ≠ none :=
  ⟨handsetNames_garage _ _, .inl (by decide), by decide, by decide, by decide, by decide, by decide, by decide, by decide,
    .inr (by decide), by decide⟩

theorem witness_SecondMarkStoresTheCar :
    (withJob (job .move .taken (some 0)) (garage (car .inbound) keyOut)).record? 7 = some (car .inbound) ∧
    ((withJob (job .move .taken (some 0)) (garage (car .inbound) keyOut)).entry? 7).map Entry.kind = some .move := by
  decide

/-- KEY_HOME in each kind of record state (R10). -/
theorem witness_key_home :
    let half := { car .inbound with parkMark := true }
    (garage (car .inbound) keyHeld).record? 7 = some (car .inbound) ∧ (garage half keyHeld).record? 7 = some half ∧
    (garage (car .suspended) keyHeld).record? 7 = some (car .suspended) ∧
    (garage (car .waiting) keyHeld).record? 7 = some (car .waiting) ∧
    (garage (car .called) keyHeld).record? 7 = some (car .called) ∧
    (withJob (job .fetch .queued none) (garage (car .called) keyHeld)).entry? 7 ≠ none ∧
    (((garage half keyHeld).keyHome 7).record? 7).map Record.state = some .stored := by decide

theorem witness_AcknowledgedJobOpensTheHook :
    let s := withJob (job .fetch .offered (some 0)) (garage (car .called) keyHeld)
    s.record? 7 = some (car .called) ∧ s.entry? 7 = some (job .fetch .offered (some 0)) ∧ 0 < s.dr.attendants.length ∧
    s.hook? 0 = some keyHeld ∧
    ((withJob (job .move .offered (some 0)) (garage (car .granted) { keyOut with attendant := none })).hook? 0).map
      (fun k => (k.state, k.attendant)) = some (.out, none) := by decide

theorem witness_StagedAndReparkAreCheckedInOrder :
    let s := garage (car .fetching) keyOut
    let r := { car .staged with stall := none, bay := some 0 }
    HandsetNames s phone 0 7 (car .fetching) ∧ MayAct s 0 (car .fetching) ∧ s.bayTakes (s.bay 0) = true ∧
    s.bayTakes (s.bay 7) = false ∧ (s.attendant 0).state = .idle ∧ (garage r keyOut).record? 7 = some r ∧
    r.reparks < 3 ∧ (garage r keyOut).keysOut 0 + (garage r keyOut).openFor 0 = 1 ∧
    (garage r keyOut).allocate 5 .none 2 ≠ none ∧ (garage r keyOut).sm.waitList.length < 24 ∧
    ((garage r keyOut).hook? 0).bind Hook.attendant = some 0 :=
  ⟨handsetNames_garage _ _, .inl (by decide), by decide⟩

theorem witness_StagingBindsTheBayAndEndsTheFetch :
    (garage (car .fetching) keyOut).record? 7 = some (car .fetching) ∧
    0 < (garage (car .fetching) keyOut).km.bays.length ∧ (garage (car .fetching) keyOut).hook? 0 = some keyOut := by
  decide

theorem witness_ReparkTakesTheCarBack :
    let r := { car .staged with stall := none, bay := some 0 }
    (garage r keyOut).record? 7 = some r ∧ r.stall = none ∧ (garage r keyOut).hook? 0 = some keyOut ∧
    (garage r keyHeld).hook? 0 = some keyHeld ∧ ((garage r keyHeld).stall? 0 1).isSome = true ∧ r.bay = some 0 ∧
    0 < (garage r keyHeld).dr.attendants.length := by decide

theorem witness_CommandsThatMoveCarsKeepEverySetting : (handsetHeader (.ready phone)).isSome = true ∧
    movesOnly (.hookLoaded 0 0 7) = true ∧ (namedRecord (.hold 1 7 255)).isSome = true := by decide

theorem witness_ReportsActByTheStateTheyFind :
    let s := garage (car .stored) keyHeld
    s.running = true ∧ (byteSum (byteOf 0 :: occupancyBytes 3) + 65532) % 65536 = 65535 ∧ (s.zone 0).inLayout = true ∧
    s.hook? 1023 = none ∧ s.hook? (256 * 0 + 0) = some keyHeld ∧ s.hookInService 0 = false ∧
    (after (.beginPanelService 1 0) s).hookInService 0 = true ∧
    ((after (.hookLoaded 0 1 999999) s).hook? 1).map Hook.strayTag = some (some 999999) ∧
    (garage (car .inbound) keyOut).hook? 0 = some keyOut ∧ keyOut.bound = some 7 ∧
    (garage (car .fetching) { keyOpen with phase := .ending, latch := some .closed }).hook? 0 =
      some { keyOpen with phase := .ending, latch := some .closed } := by decide

/-- A zone heard, and RECOVERY with the zone the last unheard or not (R57, R186). -/
theorem witness_zones_heard :
    let s := garage (car .stored) keyHeld
    let recovering (zones : List Nat) : State := { s with sa := { s.sa with state := .recovery, recovery := some ⟨⟨0, 10⟩, zones⟩ } }
    11 < s.zl.links.length ∧ s.sa.recovery = none ∧
    ((recovering [0]).heardInRecovery 0).sa.state = .closed ∧
    ((recovering [0, 11]).heardInRecovery 0).sa.recovery = some ⟨⟨0, 10⟩, [11]⟩ ∧
    (((s.setLink 0 ⟨.silent, none⟩).begin).hearZone 0).due.serve = true := by decide

theorem witness_StallsActAtTheSecondReport :
    let s := (garage (car .stored) keyHeld).modStall 0 0 fun x => { x with vacantRun := 1 }
    (s.stall? 0 0).map (fun x => (x.holder, x.vacantRun)) = some (some 7, 1) ∧ s.record? 7 = some (car .stored) ∧
    (car .stored).stall = some ⟨0, 0⟩ ∧ (s.stall? 0 1).map (fun x => (x.holder, x.occupiedRun)) = some (none, 0) ∧
    (3#96).getLsbD 1 = true ∧ (1#96).getLsbD 1 = false ∧ (car .inbound).parkMark = false := by decide

theorem witness_RemovalsAndLapsesSettleTheHook :
    let r := { car .fetching with attendant := some 0 }
    let s := withJob (job .fetch .taken (some 0)) (garageWith .fetching r { keyOpen with count := 1 })
    let m := withJob (job .move .taken (some 0)) (garageWith .moving (car .inbound) { keyOpen with count := 1 })
    s.hook? 0 = some { keyOpen with count := 1 } ∧ s.record? 7 = some r ∧ keyOpen.bound = some 7 ∧
    s.sa.causes.length = 14 ∧ 0 < s.dr.attendants.length ∧ keyOpen.count = 0 ∧
    (garage (car .staged) keyHeld).hook? 0 = some keyHeld ∧ s.entry? 7 = some (job .fetch .taken (some 0)) ∧
    m.hasEntry 7 .move = true ∧ m.record? 7 = some (car .inbound) ∧ (garage (car .inbound) keyOpen).hasEntry 7 .move = false ∧
    ((s.completeLapse 0 { keyOpen with count := 1 }).record? 7).map Record.state = some .called ∧
    ((m.completeLapse 0 { keyOpen with count := 1 }).record? 7).map Record.state = some .granted := by decide

theorem witness_ExpiriesActAtTheirLength :
    let s := garage { car .staged with park := some ⟨900, 900, false⟩, bay := some 0 }
      { keyOut with custody := some ⟨900, 900⟩, latch := some .opened, repeatTimer := some ⟨2, 2⟩ }
    let t := (withJob (job .fetch .offered (some 0)) (s.modAttendant 0 fun a =>
      { a with state := .offered, ack := some ⟨20, 20⟩ })).modBay 0 fun b =>
        { b with holder := some 7, dwell := some ⟨600, 600⟩, driveOff := some ⟨20, 20⟩ }
    t.running = true ∧ timerDue (some ⟨10, 10⟩) = true ∧ (t.link 0).link = .live ∧ t.hook? 1023 = none ∧
    t.onHook 0 Hook.warningDue = true ∧ (t.hook? 0).map Hook.overdue = some false ∧ (t.entryOf 0).isSome = true ∧
    (t.attendant 0).state = .offered ∧ timerDue (t.attendant 0).ack = true ∧ timerDue (t.bay 0).dwell = true ∧
    timerDue (t.bay 0).driveOff = true ∧ (t.bay 0).holder = some 7 ∧ (t.record? 7).any Record.parkDue = true := by decide

theorem witness_SecondsAndLoopsAreTaken :
    let s := garage (car .stored) keyHeld
    s.running = true ∧ (s.lane 1).loop = false ∧ (s.bay 0).loop = true := by decide

theorem witness_rules :
    let s := withJob (job .fetch .queued none) (garage (car .called) keyHeld)
    s.record? 7 = some (car .called) ∧ s.entry? 7 = some (job .fetch .queued none) ∧ s.ready (job .fetch .queued none) = true ∧
    s.eligible 0 = true ∧ s.jq.entries.find? s.ready = some (job .fetch .queued none) ∧
    s.dr.idle.find? s.eligible = some 0 ∧ (s.attendant 0).handset = some 9 ∧ s.lk.tx.length < 64 ∧
    s.sa.state = .opened ∧ (inService .closed s).sa.state ≠ .opened ∧ s.allocate 9 .none 2 = some (⟨0, 1⟩, false) ∧
    s.allocate 10 .none 2 = none := by decide

theorem witness_GrantGivesAStallAndAMoveEntry :
    let s := waiting true
    s.record? 7 = some { car .waiting with stall := none } ∧ (s.stall? 0 1).isSome = true ∧ s.entry? 7 = none ∧
    s.lk.tx.length ≤ 64 ∧ s.jq.entries.length < 55 ∧
    55 ≤ (s.setEntries (List.replicate 55 { job .fetch .queued none with ticket := 8 })).jq.entries.length ∧
    64 ≤ (s.setEntries (List.replicate 64 { job .fetch .queued none with ticket := 8 })).jq.entries.length ∧
    s.hook? 0 = some keyHeld ∧ s.allocate 5 .none 2 = some (⟨0, 1⟩, false) ∧
    (s.modZone 0 fun z => { z with isOpen := false }).allocate 5 .none 2 = none ∧
    s.serveDue.due.serve = true ∧ s.lookDue.due.look = true ∧ s.begin.due.look = false ∧
    s.sa.causes.length = 14 := by decide

theorem witness_invariants :
    let s := { garage (car .stored) keyHeld with pending := [Instr.readStatus 1] }
    BuffersBounded s ∧ WaitListBounded s ∧ TableSound s ∧ AttentionSound s ∧ CommissioningEmpty s ∧ QueueOrdered s ∧
    step s = .next (after (.readStatus 1) { s with pending := [] }) := by
  refine ⟨⟨by decide, by decide⟩, by unfold WaitListBounded; decide, ⟨?_, ?_, ?_⟩, ⟨by decide, ?_, ?_⟩, ?_, ?_, rfl⟩
  · simp [garage, car, State.reset, State.poweredOn]
  · simp [garage, car, State.reset, State.poweredOn]
  · simp [garage, car, State.reset, State.poweredOn]
  · intro c h; simp [garage, State.reset, State.poweredOn, Service.powerOn] at h
  · unfold SubjectsLatched; decide
  · intro h; simp [garage] at h
  · simp [QueueOrdered, garage, State.reset, State.poweredOn, JobQueue.powerOn]

/-- A called car whose fetch is offered to attendant 0, with a command waiting. -/
def atWork : State :=
  let call : CallField := { tier := 2, due := none, time := 10, source := .desk }
  { withJob (job .fetch .offered (some 0)) (garageWith .offered { car .called with call := some call } keyHeld) with
    pending := [Instr.ack phone 7] }

theorem step_atWork : step atWork = .next (after (.ack phone 7) { atWork with pending := [] }) := rfl

/-- Its one record. -/
theorem atWork_records : atWork.ct.records =
    [{ car .called with call := some { tier := 2, due := none, time := 10, source := .desk } }] := rfl

theorem witness_EveryStepKeepsTheIdleListExact : IdleListExact atWork := by
  refine ⟨by decide, by decide, ?_, by decide, by decide, by decide⟩
  intro a
  have hi : atWork.dr.idle = [] := by decide
  have ho : ∀ a < 32, (atWork.attendant a).state ≠ .idle := by decide
  have hl : atWork.dr.attendants.length = 32 := by decide
  rw [hi]
  by_cases h : a < 32
  · simp [ho a h]
  · have : atWork.attendant a = Attendant.off := by
      simp only [State.attendant]; rw [List.getD_eq_getElem?_getD, List.getElem?_eq_none (by omega)]; rfl
    simp [this, Attendant.off]

/-- A record found in it is that one. -/
theorem atWork_record? (t : Nat) (r : Record) (h : atWork.record? t = some r) :
    t = 7 ∧ r = { car .called with call := some { tier := 2, due := none, time := 10, source := .desk } } := by
  have := List.mem_of_find?_eq_some h
  have h2 := List.find?_some h
  rw [atWork_records] at this
  simp only [List.mem_singleton] at this
  subst this
  simp [car] at h2
  exact ⟨h2.symm, rfl⟩

/-- A stall found in it is one of zone 0. -/
theorem atWork_stall? (z i : Nat) (x : Stall) (h : atWork.stall? z i = some x) : z = 0 ∧ i < 2 := by
  have hl : atWork.sm.zones.length = 12 := by decide
  have hz := zone_of_stall atWork h
  have he : ∀ z < 12, z ≠ 0 → (atWork.zone z).stalls = [] := by decide
  have h0 : (atWork.zone 0).stalls.length = 2 := by decide
  by_cases hn : z = 0
  · subst hn
    refine ⟨rfl, ?_⟩
    apply Classical.byContradiction
    intro hi
    simp only [State.stall?, List.getElem?_eq_none (show (atWork.zone 0).stalls.length ≤ i by omega)] at h
    cases h
  · simp [State.stall?, he z (by omega) hn] at h

theorem witness_EveryStepKeepsTheWaitListAndTheHolders : TableSound atWork ∧ CommissioningEmpty atWork ∧ WaitListExact atWork ∧ StallsAgree atWork := by
  refine ⟨⟨?_, ?_, ?_⟩, ?_, ⟨by decide, ?_, ?_⟩, by decide, ?_⟩
  · rw [atWork_records]; simp
  · rw [atWork_records]; simp [car]
  · rw [atWork_records]; simp
  · intro h; exact absurd h (by decide)
  · intro t
    have : atWork.sm.waitList = [] := by decide
    rw [this]
    constructor
    · intro h; simp at h
    · rintro ⟨r, hr, hs⟩
      obtain ⟨-, rfl⟩ := atWork_record? t r hr
      cases hs
  · rw [atWork_records]; simp [car]
  · intro z i x t h ht
    obtain ⟨rfl, hi⟩ := atWork_stall? z i x h
    rcases i with _ | _ | i
    · obtain rfl : _ = x := Option.some.inj h
      obtain rfl : 7 = t := Option.some.inj ht
      exact ⟨rfl, _, rfl, rfl⟩
    · obtain rfl : _ = x := Option.some.inj h
      cases ht
    · omega

/-- A hook found in it is one of the two of panel 0. -/
theorem atWork_hook? (h : Nat) (k : Hook) (hk : atWork.hook? h = some k) :
    (h = 0 ∧ k = keyHeld) ∨ (h = 1 ∧ k = Hook.created) := by
  have hp : panelOf h = 0 := by
    have hl : atWork.kc.panels.length = 4 := by decide
    have := panel_of_hook atWork hk
    have he : ∀ p < 4, p ≠ 0 → (atWork.panel p).hooks = [] := by decide
    apply Classical.byContradiction
    intro hn
    simp [State.hook?, he (panelOf h) (by omega) hn] at hk
  have hh : h % 256 = h := by simp only [panelOf, Config.hooksPerPanel] at hp; omega
  have hl : (atWork.panel 0).hooks = [keyHeld, Hook.created] := by decide
  simp only [State.hook?, Config.hooksPerPanel, hp, hh, hl] at hk
  rcases h with _ | _ | h
  · exact .inl ⟨rfl, (Option.some.inj hk).symm⟩
  · exact .inr ⟨rfl, (Option.some.inj hk).symm⟩
  · simp at hk

theorem witness_EveryStepKeepsTheHookBindings : HooksAgree atWork := by
  refine ⟨by rw [atWork_records]; simp [car]; decide, ?_, ?_, by decide⟩
  · intro h k t hk ht
    rcases atWork_hook? h k hk with ⟨rfl, rfl⟩ | ⟨rfl, rfl⟩
    · obtain rfl : 7 = t := Option.some.inj ht
      exact ⟨_, rfl, rfl⟩
    · cases ht
  · intro h k hk
    rcases atWork_hook? h k hk with ⟨rfl, rfl⟩ | ⟨rfl, rfl⟩ <;> decide

theorem witness_EveryStepKeepsTheJobQueueInAgreement : JobsAgree atWork := by
  have he : atWork.jq.entries = [job .fetch .offered (some 0)] := rfl
  refine ⟨by decide, by rw [he]; simp, ?_, ?_, by rw [he]; simp, by rw [atWork_records]; simp⟩
  · rw [he]
    simp only [List.mem_singleton, forall_eq]
    refine ⟨⟨_, rfl, rfl, rfl, by decide⟩, by decide, ?_⟩
    intro a ha
    obtain rfl : 0 = a := Option.some.inj ha
    rfl
  · rw [atWork_records]
    simp only [List.mem_singleton, forall_eq]
    refine ⟨fun _ => rfl, fun h => absurd h (by decide), fun _ => .inl rfl, ?_⟩
    intro a ha
    cases ha

end Sys2Proof.Tests
end

section
/-! SUPPORT. What the lookups show after each operation: the operations of another block leave a lookup as it was, and the
changed row of a table is the old one changed. -/

namespace Sys2Proof.Machine

/-! ### A lookup reads one block -/

theorem record?_congr {q s : State} (h : q.ct = s.ct) : q.record? = s.record? := by
  funext t; simp only [State.record?, h]

theorem entry?_congr {q s : State} (h : q.jq = s.jq) : q.entry? = s.entry? := by
  funext t; simp only [State.entry?, h]

theorem hook?_congr {q s : State} (h : q.kc = s.kc) : q.hook? = s.hook? := by
  funext t; simp only [State.hook?, State.panel, h]

theorem hookInService_congr {q s : State} (h : q.kc = s.kc) : q.hookInService = s.hookInService := by
  funext t; simp only [State.hookInService, State.panel, h]

theorem stall?_congr {q s : State} (h : q.sm = s.sm) : q.stall? = s.stall? := by
  funext z i; simp only [State.stall?, State.zone, h]

theorem attendant_congr {q s : State} (h : q.dr = s.dr) : q.attendant = s.attendant := by
  funext a; simp only [State.attendant, h]

theorem bay_congr {q s : State} (h : q.km = s.km) : q.bay = s.bay := by
  funext b; simp only [State.bay, h]

theorem lane_congr {q s : State} (h : q.km = s.km) : q.lane = s.lane := by
  funext b; simp only [State.lane, h]

variable (s : State)

@[simp] theorem State.serveDue_lookups :
    s.serveDue.record? = s.record? ∧ s.serveDue.entry? = s.entry? ∧ s.serveDue.hook? = s.hook? ∧
      s.serveDue.hookInService = s.hookInService ∧ s.serveDue.stall? = s.stall? ∧
      s.serveDue.attendant = s.attendant ∧ s.serveDue.bay = s.bay ∧ s.serveDue.lane = s.lane :=
  ⟨record?_congr (by simp), entry?_congr (by simp), hook?_congr (by simp), hookInService_congr (by simp),
    stall?_congr (by simp), attendant_congr (by simp), bay_congr (by simp), lane_congr (by simp)⟩

@[simp] theorem State.lookDue_lookups :
    s.lookDue.record? = s.record? ∧ s.lookDue.entry? = s.entry? ∧ s.lookDue.hook? = s.hook? ∧
      s.lookDue.hookInService = s.hookInService ∧ s.lookDue.stall? = s.stall? ∧
      s.lookDue.attendant = s.attendant ∧ s.lookDue.bay = s.bay ∧ s.lookDue.lane = s.lane :=
  ⟨record?_congr (by simp), entry?_congr (by simp), hook?_congr (by simp), hookInService_congr (by simp),
    stall?_congr (by simp), attendant_congr (by simp), bay_congr (by simp), lane_congr (by simp)⟩

@[simp] theorem State.serveIf_lookups (b : Bool) :
    (s.serveIf b).record? = s.record? ∧ (s.serveIf b).entry? = s.entry? ∧ (s.serveIf b).hook? = s.hook? ∧
      (s.serveIf b).hookInService = s.hookInService ∧ (s.serveIf b).stall? = s.stall? ∧
      (s.serveIf b).attendant = s.attendant ∧ (s.serveIf b).bay = s.bay ∧ (s.serveIf b).lane = s.lane :=
  ⟨record?_congr (by simp), entry?_congr (by simp), hook?_congr (by simp), hookInService_congr (by simp),
    stall?_congr (by simp), attendant_congr (by simp), bay_congr (by simp), lane_congr (by simp)⟩

@[simp] theorem State.lookIf_lookups (b : Bool) :
    (s.lookIf b).record? = s.record? ∧ (s.lookIf b).entry? = s.entry? ∧ (s.lookIf b).hook? = s.hook? ∧
      (s.lookIf b).hookInService = s.hookInService ∧ (s.lookIf b).stall? = s.stall? ∧
      (s.lookIf b).attendant = s.attendant ∧ (s.lookIf b).bay = s.bay ∧ (s.lookIf b).lane = s.lane :=
  ⟨record?_congr (by simp), entry?_congr (by simp), hook?_congr (by simp), hookInService_congr (by simp),
    stall?_congr (by simp), attendant_congr (by simp), bay_congr (by simp), lane_congr (by simp)⟩

@[simp] theorem State.modRecord_lookups (t : Nat) (f : Record → Record) :
    (s.modRecord t f).entry? = s.entry? ∧ (s.modRecord t f).hook? = s.hook? ∧
      (s.modRecord t f).hookInService = s.hookInService ∧ (s.modRecord t f).stall? = s.stall? ∧
      (s.modRecord t f).attendant = s.attendant ∧ (s.modRecord t f).bay = s.bay ∧
      (s.modRecord t f).lane = s.lane :=
  ⟨entry?_congr (by simp), hook?_congr (by simp), hookInService_congr (by simp), stall?_congr (by simp),
    attendant_congr (by simp), bay_congr (by simp), lane_congr (by simp)⟩

@[simp] theorem State.addRecord_lookups (r : Record) :
    (s.addRecord r).entry? = s.entry? ∧ (s.addRecord r).hook? = s.hook? ∧
      (s.addRecord r).hookInService = s.hookInService ∧ (s.addRecord r).stall? = s.stall? ∧
      (s.addRecord r).attendant = s.attendant ∧ (s.addRecord r).bay = s.bay ∧
      (s.addRecord r).lane = s.lane :=
  ⟨entry?_congr (by simp), hook?_congr (by simp), hookInService_congr (by simp), stall?_congr (by simp),
    attendant_congr (by simp), bay_congr (by simp), lane_congr (by simp)⟩

@[simp] theorem State.dropRecord_lookups (t : Nat) :
    (s.dropRecord t).entry? = s.entry? ∧ (s.dropRecord t).hook? = s.hook? ∧
      (s.dropRecord t).hookInService = s.hookInService ∧ (s.dropRecord t).stall? = s.stall? ∧
      (s.dropRecord t).attendant = s.attendant ∧ (s.dropRecord t).bay = s.bay ∧
      (s.dropRecord t).lane = s.lane :=
  ⟨entry?_congr (by simp), hook?_congr (by simp), hookInService_congr (by simp), stall?_congr (by simp),
    attendant_congr (by simp), bay_congr (by simp), lane_congr (by simp)⟩

@[simp] theorem State.modStall_lookups (z i : Nat) (f : Stall → Stall) :
    (s.modStall z i f).record? = s.record? ∧ (s.modStall z i f).entry? = s.entry? ∧
      (s.modStall z i f).hook? = s.hook? ∧ (s.modStall z i f).hookInService = s.hookInService ∧
      (s.modStall z i f).attendant = s.attendant ∧ (s.modStall z i f).bay = s.bay ∧
      (s.modStall z i f).lane = s.lane :=
  ⟨record?_congr (by simp), entry?_congr (by simp), hook?_congr (by simp), hookInService_congr (by simp),
    attendant_congr (by simp), bay_congr (by simp), lane_congr (by simp)⟩

@[simp] theorem State.resetRuns_lookups (o : Option StallId) :
    (s.resetRuns o).record? = s.record? ∧ (s.resetRuns o).entry? = s.entry? ∧
      (s.resetRuns o).hook? = s.hook? ∧ (s.resetRuns o).hookInService = s.hookInService ∧
      (s.resetRuns o).attendant = s.attendant ∧ (s.resetRuns o).bay = s.bay ∧ (s.resetRuns o).lane = s.lane :=
  ⟨record?_congr (by simp), entry?_congr (by simp), hook?_congr (by simp), hookInService_congr (by simp),
    attendant_congr (by simp), bay_congr (by simp), lane_congr (by simp)⟩

@[simp] theorem State.leaveWaitList_lookups (t : Nat) :
    (s.leaveWaitList t).record? = s.record? ∧ (s.leaveWaitList t).entry? = s.entry? ∧
      (s.leaveWaitList t).hook? = s.hook? ∧ (s.leaveWaitList t).hookInService = s.hookInService ∧
      (s.leaveWaitList t).attendant = s.attendant ∧ (s.leaveWaitList t).bay = s.bay ∧
      (s.leaveWaitList t).lane = s.lane :=
  ⟨record?_congr (by simp), entry?_congr (by simp), hook?_congr (by simp), hookInService_congr (by simp),
    attendant_congr (by simp), bay_congr (by simp), lane_congr (by simp)⟩

@[simp] theorem State.joinWaitList_lookups (t : Nat) :
    (s.joinWaitList t).record? = s.record? ∧ (s.joinWaitList t).entry? = s.entry? ∧
      (s.joinWaitList t).hook? = s.hook? ∧ (s.joinWaitList t).hookInService = s.hookInService ∧
      (s.joinWaitList t).attendant = s.attendant ∧ (s.joinWaitList t).bay = s.bay ∧
      (s.joinWaitList t).lane = s.lane :=
  ⟨record?_congr (by simp), entry?_congr (by simp), hook?_congr (by simp), hookInService_congr (by simp),
    attendant_congr (by simp), bay_congr (by simp), lane_congr (by simp)⟩

@[simp] theorem State.updHook_lookups (h : Nat) (f : Hook → Hook) :
    (s.updHook h f).record? = s.record? ∧ (s.updHook h f).entry? = s.entry? ∧
      (s.updHook h f).stall? = s.stall? ∧ (s.updHook h f).attendant = s.attendant ∧
      (s.updHook h f).bay = s.bay ∧ (s.updHook h f).lane = s.lane :=
  ⟨record?_congr (by simp), entry?_congr (by simp), stall?_congr (by simp), attendant_congr (by simp),
    bay_congr (by simp), lane_congr (by simp)⟩

@[simp] theorem State.bindHook_lookups (h t : Nat) :
    (s.bindHook h t).record? = s.record? ∧ (s.bindHook h t).entry? = s.entry? ∧
      (s.bindHook h t).stall? = s.stall? ∧ (s.bindHook h t).attendant = s.attendant ∧
      (s.bindHook h t).bay = s.bay ∧ (s.bindHook h t).lane = s.lane :=
  ⟨record?_congr (by simp), entry?_congr (by simp), stall?_congr (by simp), attendant_congr (by simp),
    bay_congr (by simp), lane_congr (by simp)⟩

@[simp] theorem State.unbindHook_lookups (h t : Nat) :
    (s.unbindHook h t).record? = s.record? ∧ (s.unbindHook h t).entry? = s.entry? ∧
      (s.unbindHook h t).stall? = s.stall? ∧ (s.unbindHook h t).attendant = s.attendant ∧
      (s.unbindHook h t).bay = s.bay ∧ (s.unbindHook h t).lane = s.lane :=
  ⟨record?_congr (by simp), entry?_congr (by simp), stall?_congr (by simp), attendant_congr (by simp),
    bay_congr (by simp), lane_congr (by simp)⟩

@[simp] theorem State.requestWindow_lookups (h a : Nat) :
    (s.requestWindow h a).record? = s.record? ∧ (s.requestWindow h a).entry? = s.entry? ∧
      (s.requestWindow h a).stall? = s.stall? ∧ (s.requestWindow h a).attendant = s.attendant ∧
      (s.requestWindow h a).bay = s.bay ∧ (s.requestWindow h a).lane = s.lane :=
  ⟨record?_congr (by simp), entry?_congr (by simp), stall?_congr (by simp), attendant_congr (by simp),
    bay_congr (by simp), lane_congr (by simp)⟩

@[simp] theorem State.endWindow_lookups (h : Nat) :
    (s.endWindow h).record? = s.record? ∧ (s.endWindow h).entry? = s.entry? ∧
      (s.endWindow h).stall? = s.stall? ∧ (s.endWindow h).attendant = s.attendant ∧
      (s.endWindow h).bay = s.bay ∧ (s.endWindow h).lane = s.lane :=
  ⟨record?_congr (by simp), entry?_congr (by simp), stall?_congr (by simp), attendant_congr (by simp),
    bay_congr (by simp), lane_congr (by simp)⟩

@[simp] theorem State.reparkHook_lookups (h a : Nat) :
    (s.reparkHook h a).record? = s.record? ∧ (s.reparkHook h a).entry? = s.entry? ∧
      (s.reparkHook h a).stall? = s.stall? ∧ (s.reparkHook h a).attendant = s.attendant ∧
      (s.reparkHook h a).bay = s.bay ∧ (s.reparkHook h a).lane = s.lane :=
  ⟨record?_congr (by simp), entry?_congr (by simp), stall?_congr (by simp), attendant_congr (by simp),
    bay_congr (by simp), lane_congr (by simp)⟩

@[simp] theorem State.idleBack_lookups (a : Nat) :
    (s.idleBack a).record? = s.record? ∧ (s.idleBack a).entry? = s.entry? ∧ (s.idleBack a).hook? = s.hook? ∧
      (s.idleBack a).hookInService = s.hookInService ∧ (s.idleBack a).stall? = s.stall? ∧
      (s.idleBack a).bay = s.bay ∧ (s.idleBack a).lane = s.lane :=
  ⟨record?_congr (by simp), entry?_congr (by simp), hook?_congr (by simp), hookInService_congr (by simp),
    stall?_congr (by simp), bay_congr (by simp), lane_congr (by simp)⟩

@[simp] theorem State.idleFront_lookups (a : Nat) :
    (s.idleFront a).record? = s.record? ∧ (s.idleFront a).entry? = s.entry? ∧
      (s.idleFront a).hook? = s.hook? ∧ (s.idleFront a).hookInService = s.hookInService ∧
      (s.idleFront a).stall? = s.stall? ∧ (s.idleFront a).bay = s.bay ∧ (s.idleFront a).lane = s.lane :=
  ⟨record?_congr (by simp), entry?_congr (by simp), hook?_congr (by simp), hookInService_congr (by simp),
    stall?_congr (by simp), bay_congr (by simp), lane_congr (by simp)⟩

@[simp] theorem State.leaveIdle_lookups (a : Nat) (st : AttendantState) :
    (s.leaveIdle a st).record? = s.record? ∧ (s.leaveIdle a st).entry? = s.entry? ∧
      (s.leaveIdle a st).hook? = s.hook? ∧ (s.leaveIdle a st).hookInService = s.hookInService ∧
      (s.leaveIdle a st).stall? = s.stall? ∧ (s.leaveIdle a st).bay = s.bay ∧ (s.leaveIdle a st).lane = s.lane :=
  ⟨record?_congr (by simp), entry?_congr (by simp), hook?_congr (by simp), hookInService_congr (by simp),
    stall?_congr (by simp), bay_congr (by simp), lane_congr (by simp)⟩

@[simp] theorem State.modAttendant_lookups (a : Nat) (f : Attendant → Attendant) :
    (s.modAttendant a f).record? = s.record? ∧ (s.modAttendant a f).entry? = s.entry? ∧
      (s.modAttendant a f).hook? = s.hook? ∧ (s.modAttendant a f).hookInService = s.hookInService ∧
      (s.modAttendant a f).stall? = s.stall? ∧ (s.modAttendant a f).bay = s.bay ∧
      (s.modAttendant a f).lane = s.lane :=
  ⟨record?_congr (by simp), entry?_congr (by simp), hook?_congr (by simp), hookInService_congr (by simp),
    stall?_congr (by simp), bay_congr (by simp), lane_congr (by simp)⟩

@[simp] theorem State.startParking_lookups (o : Option Nat) :
    (s.startParking o).record? = s.record? ∧ (s.startParking o).entry? = s.entry? ∧
      (s.startParking o).hook? = s.hook? ∧ (s.startParking o).hookInService = s.hookInService ∧
      (s.startParking o).stall? = s.stall? ∧ (s.startParking o).bay = s.bay ∧ (s.startParking o).lane = s.lane :=
  ⟨record?_congr (by simp), entry?_congr (by simp), hook?_congr (by simp), hookInService_congr (by simp),
    stall?_congr (by simp), bay_congr (by simp), lane_congr (by simp)⟩

@[simp] theorem State.modBay_lookups (b : Nat) (f : Bay → Bay) :
    (s.modBay b f).record? = s.record? ∧ (s.modBay b f).entry? = s.entry? ∧ (s.modBay b f).hook? = s.hook? ∧
      (s.modBay b f).hookInService = s.hookInService ∧ (s.modBay b f).stall? = s.stall? ∧
      (s.modBay b f).attendant = s.attendant :=
  ⟨record?_congr (by simp), entry?_congr (by simp), hook?_congr (by simp), hookInService_congr (by simp),
    stall?_congr (by simp), attendant_congr (by simp)⟩

@[simp] theorem State.freeBay_lookups (b : Option Nat) :
    (s.freeBay b).record? = s.record? ∧ (s.freeBay b).entry? = s.entry? ∧ (s.freeBay b).hook? = s.hook? ∧
      (s.freeBay b).hookInService = s.hookInService ∧ (s.freeBay b).stall? = s.stall? ∧
      (s.freeBay b).attendant = s.attendant :=
  ⟨record?_congr (by simp), entry?_congr (by simp), hook?_congr (by simp), hookInService_congr (by simp),
    stall?_congr (by simp), attendant_congr (by simp)⟩

@[simp] theorem State.modLane_lookups (l : Nat) (f : Lane → Lane) :
    (s.modLane l f).record? = s.record? ∧ (s.modLane l f).entry? = s.entry? ∧
      (s.modLane l f).hook? = s.hook? ∧ (s.modLane l f).hookInService = s.hookInService ∧
      (s.modLane l f).stall? = s.stall? ∧ (s.modLane l f).attendant = s.attendant :=
  ⟨record?_congr (by simp), entry?_congr (by simp), hook?_congr (by simp), hookInService_congr (by simp),
    stall?_congr (by simp), attendant_congr (by simp)⟩

@[simp] theorem State.pushFrame_lookups (f : HandsetFrame) :
    (s.pushFrame f).record? = s.record? ∧ (s.pushFrame f).entry? = s.entry? ∧
      (s.pushFrame f).hook? = s.hook? ∧ (s.pushFrame f).hookInService = s.hookInService ∧
      (s.pushFrame f).stall? = s.stall? ∧ (s.pushFrame f).attendant = s.attendant ∧
      (s.pushFrame f).bay = s.bay ∧ (s.pushFrame f).lane = s.lane :=
  ⟨record?_congr (by simp), entry?_congr (by simp), hook?_congr (by simp), hookInService_congr (by simp),
    stall?_congr (by simp), attendant_congr (by simp), bay_congr (by simp), lane_congr (by simp)⟩

@[simp] theorem State.sendTo_lookups (a kind : Nat) (body : List Value) :
    (s.sendTo a kind body).record? = s.record? ∧ (s.sendTo a kind body).entry? = s.entry? ∧
      (s.sendTo a kind body).hook? = s.hook? ∧ (s.sendTo a kind body).hookInService = s.hookInService ∧
      (s.sendTo a kind body).stall? = s.stall? ∧ (s.sendTo a kind body).attendant = s.attendant ∧
      (s.sendTo a kind body).bay = s.bay ∧ (s.sendTo a kind body).lane = s.lane :=
  ⟨record?_congr (by simp), entry?_congr (by simp), hook?_congr (by simp), hookInService_congr (by simp),
    stall?_congr (by simp), attendant_congr (by simp), bay_congr (by simp), lane_congr (by simp)⟩

@[simp] theorem State.sendWithdrawn_lookups (a t reason : Nat) :
    (s.sendWithdrawn a t reason).record? = s.record? ∧ (s.sendWithdrawn a t reason).entry? = s.entry? ∧
      (s.sendWithdrawn a t reason).hook? = s.hook? ∧
      (s.sendWithdrawn a t reason).hookInService = s.hookInService ∧
      (s.sendWithdrawn a t reason).stall? = s.stall? ∧ (s.sendWithdrawn a t reason).attendant = s.attendant ∧
      (s.sendWithdrawn a t reason).bay = s.bay ∧ (s.sendWithdrawn a t reason).lane = s.lane :=
  ⟨record?_congr (by simp), entry?_congr (by simp), hook?_congr (by simp), hookInService_congr (by simp),
    stall?_congr (by simp), attendant_congr (by simp), bay_congr (by simp), lane_congr (by simp)⟩

@[simp] theorem State.announceGrant_lookups (r : Record) (st : StallId) :
    (s.announceGrant r st).record? = s.record? ∧ (s.announceGrant r st).entry? = s.entry? ∧
      (s.announceGrant r st).hook? = s.hook? ∧ (s.announceGrant r st).hookInService = s.hookInService ∧
      (s.announceGrant r st).stall? = s.stall? ∧ (s.announceGrant r st).attendant = s.attendant ∧
      (s.announceGrant r st).bay = s.bay ∧ (s.announceGrant r st).lane = s.lane :=
  ⟨record?_congr (by simp), entry?_congr (by simp), hook?_congr (by simp), hookInService_congr (by simp),
    stall?_congr (by simp), attendant_congr (by simp), bay_congr (by simp), lane_congr (by simp)⟩

@[simp] theorem State.raise_lookups (c : Cause) (x : Option Nat) :
    (s.raise c x).record? = s.record? ∧ (s.raise c x).entry? = s.entry? ∧ (s.raise c x).hook? = s.hook? ∧
      (s.raise c x).hookInService = s.hookInService ∧ (s.raise c x).stall? = s.stall? ∧
      (s.raise c x).attendant = s.attendant ∧ (s.raise c x).bay = s.bay ∧ (s.raise c x).lane = s.lane :=
  ⟨record?_congr (by simp), entry?_congr (by simp), hook?_congr (by simp), hookInService_congr (by simp),
    stall?_congr (by simp), attendant_congr (by simp), bay_congr (by simp), lane_congr (by simp)⟩

@[simp] theorem State.modEntry_lookups (t : Nat) (f : Entry → Entry) :
    (s.modEntry t f).record? = s.record? ∧ (s.modEntry t f).hook? = s.hook? ∧
      (s.modEntry t f).hookInService = s.hookInService ∧ (s.modEntry t f).stall? = s.stall? ∧
      (s.modEntry t f).attendant = s.attendant ∧ (s.modEntry t f).bay = s.bay ∧ (s.modEntry t f).lane = s.lane :=
  ⟨record?_congr (by simp), hook?_congr (by simp), hookInService_congr (by simp), stall?_congr (by simp),
    attendant_congr (by simp), bay_congr (by simp), lane_congr (by simp)⟩

@[simp] theorem State.addEntry_lookups (e : Entry) :
    (s.addEntry e).record? = s.record? ∧ (s.addEntry e).hook? = s.hook? ∧
      (s.addEntry e).hookInService = s.hookInService ∧ (s.addEntry e).stall? = s.stall? ∧
      (s.addEntry e).attendant = s.attendant ∧ (s.addEntry e).bay = s.bay ∧ (s.addEntry e).lane = s.lane :=
  ⟨record?_congr (by simp), hook?_congr (by simp), hookInService_congr (by simp), stall?_congr (by simp),
    attendant_congr (by simp), bay_congr (by simp), lane_congr (by simp)⟩

@[simp] theorem State.removeEntry_lookups (t : Nat) :
    (s.removeEntry t).record? = s.record? ∧ (s.removeEntry t).hook? = s.hook? ∧
      (s.removeEntry t).hookInService = s.hookInService ∧ (s.removeEntry t).stall? = s.stall? ∧
      (s.removeEntry t).attendant = s.attendant ∧ (s.removeEntry t).bay = s.bay ∧
      (s.removeEntry t).lane = s.lane :=
  ⟨record?_congr (by simp), hook?_congr (by simp), hookInService_congr (by simp), stall?_congr (by simp),
    attendant_congr (by simp), bay_congr (by simp), lane_congr (by simp)⟩

@[simp] theorem State.requeue_lookups (t : Nat) :
    (s.requeue t).record? = s.record? ∧ (s.requeue t).hook? = s.hook? ∧
      (s.requeue t).hookInService = s.hookInService ∧ (s.requeue t).stall? = s.stall? ∧
      (s.requeue t).attendant = s.attendant ∧ (s.requeue t).bay = s.bay ∧ (s.requeue t).lane = s.lane :=
  ⟨record?_congr (by simp), hook?_congr (by simp), hookInService_congr (by simp), stall?_congr (by simp),
    attendant_congr (by simp), bay_congr (by simp), lane_congr (by simp)⟩

@[simp] theorem State.withdrawOffer_lookups (a t : Nat) :
    (s.withdrawOffer a t).record? = s.record? ∧ (s.withdrawOffer a t).entry? = s.entry? ∧
      (s.withdrawOffer a t).hook? = s.hook? ∧ (s.withdrawOffer a t).hookInService = s.hookInService ∧
      (s.withdrawOffer a t).stall? = s.stall? ∧ (s.withdrawOffer a t).bay = s.bay ∧
      (s.withdrawOffer a t).lane = s.lane :=
  ⟨record?_congr (by simp), entry?_congr (by simp), hook?_congr (by simp), hookInService_congr (by simp),
    stall?_congr (by simp), bay_congr (by simp), lane_congr (by simp)⟩

@[simp] theorem State.suspendJob_lookups (a t : Nat) :
    (s.suspendJob a t).record? = s.record? ∧ (s.suspendJob a t).entry? = s.entry? ∧
      (s.suspendJob a t).hook? = s.hook? ∧ (s.suspendJob a t).hookInService = s.hookInService ∧
      (s.suspendJob a t).stall? = s.stall? ∧ (s.suspendJob a t).bay = s.bay ∧ (s.suspendJob a t).lane = s.lane :=
  ⟨record?_congr (by simp), entry?_congr (by simp), hook?_congr (by simp), hookInService_congr (by simp),
    stall?_congr (by simp), bay_congr (by simp), lane_congr (by simp)⟩

@[simp] theorem State.dropEntry_lookups (t : Nat) :
    (s.dropEntry t).record? = s.record? ∧ (s.dropEntry t).hook? = s.hook? ∧
      (s.dropEntry t).hookInService = s.hookInService ∧ (s.dropEntry t).stall? = s.stall? ∧
      (s.dropEntry t).bay = s.bay ∧ (s.dropEntry t).lane = s.lane :=
  ⟨record?_congr (by simp), hook?_congr (by simp), hookInService_congr (by simp), stall?_congr (by simp),
    bay_congr (by simp), lane_congr (by simp)⟩

@[simp] theorem State.lapseAttendant_lookups (t : Nat) (o : Option Nat) :
    (s.lapseAttendant t o).record? = s.record? ∧ (s.lapseAttendant t o).entry? = s.entry? ∧
      (s.lapseAttendant t o).hook? = s.hook? ∧ (s.lapseAttendant t o).hookInService = s.hookInService ∧
      (s.lapseAttendant t o).stall? = s.stall? ∧ (s.lapseAttendant t o).bay = s.bay ∧
      (s.lapseAttendant t o).lane = s.lane :=
  ⟨record?_congr (by simp), entry?_congr (by simp), hook?_congr (by simp), hookInService_congr (by simp),
    stall?_congr (by simp), bay_congr (by simp), lane_congr (by simp)⟩

@[simp] theorem State.suspendParker_lookups (r : Record) :
    (s.suspendParker r).record? = s.record? ∧ (s.suspendParker r).entry? = s.entry? ∧
      (s.suspendParker r).hook? = s.hook? ∧ (s.suspendParker r).hookInService = s.hookInService ∧
      (s.suspendParker r).stall? = s.stall? ∧ (s.suspendParker r).bay = s.bay ∧
      (s.suspendParker r).lane = s.lane :=
  ⟨record?_congr (by simp), entry?_congr (by simp), hook?_congr (by simp), hookInService_congr (by simp),
    stall?_congr (by simp), bay_congr (by simp), lane_congr (by simp)⟩

@[simp] theorem State.setState_lookups (t : Nat) (st : RecordState) :
    (s.setState t st).entry? = s.entry? ∧ (s.setState t st).hook? = s.hook? ∧
      (s.setState t st).hookInService = s.hookInService ∧ (s.setState t st).attendant = s.attendant ∧
      (s.setState t st).bay = s.bay ∧ (s.setState t st).lane = s.lane :=
  ⟨entry?_congr (by simp), hook?_congr (by simp), hookInService_congr (by simp), attendant_congr (by simp),
    bay_congr (by simp), lane_congr (by simp)⟩

@[simp] theorem State.holdStall_lookups (t : Nat) (st : StallId) :
    (s.holdStall t st).entry? = s.entry? ∧ (s.holdStall t st).hook? = s.hook? ∧
      (s.holdStall t st).hookInService = s.hookInService ∧ (s.holdStall t st).attendant = s.attendant ∧
      (s.holdStall t st).bay = s.bay ∧ (s.holdStall t st).lane = s.lane :=
  ⟨entry?_congr (by simp), hook?_congr (by simp), hookInService_congr (by simp), attendant_congr (by simp),
    bay_congr (by simp), lane_congr (by simp)⟩

@[simp] theorem State.releaseStall_lookups (t : Nat) :
    (s.releaseStall t).entry? = s.entry? ∧ (s.releaseStall t).hook? = s.hook? ∧
      (s.releaseStall t).hookInService = s.hookInService ∧ (s.releaseStall t).attendant = s.attendant ∧
      (s.releaseStall t).bay = s.bay ∧ (s.releaseStall t).lane = s.lane :=
  ⟨entry?_congr (by simp), hook?_congr (by simp), hookInService_congr (by simp), attendant_congr (by simp),
    bay_congr (by simp), lane_congr (by simp)⟩

@[simp] theorem State.noteFallback_lookups (t : Nat) (b : Bool) :
    (s.noteFallback t b).entry? = s.entry? ∧ (s.noteFallback t b).hook? = s.hook? ∧
      (s.noteFallback t b).hookInService = s.hookInService ∧ (s.noteFallback t b).stall? = s.stall? ∧
      (s.noteFallback t b).attendant = s.attendant ∧ (s.noteFallback t b).bay = s.bay ∧
      (s.noteFallback t b).lane = s.lane :=
  ⟨entry?_congr (by simp), hook?_congr (by simp), hookInService_congr (by simp), stall?_congr (by simp),
    attendant_congr (by simp), bay_congr (by simp), lane_congr (by simp)⟩

@[simp] theorem State.enterWaiting_lookups (t : Nat) :
    (s.enterWaiting t).entry? = s.entry? ∧ (s.enterWaiting t).hook? = s.hook? ∧
      (s.enterWaiting t).hookInService = s.hookInService ∧ (s.enterWaiting t).attendant = s.attendant ∧
      (s.enterWaiting t).bay = s.bay ∧ (s.enterWaiting t).lane = s.lane :=
  ⟨entry?_congr (by simp), hook?_congr (by simp), hookInService_congr (by simp), attendant_congr (by simp),
    bay_congr (by simp), lane_congr (by simp)⟩

end Sys2Proof.Machine
end

section
/-! SUPPORT. What the lookups show of a row that an operation changes. Every rule has the shape
`lookup after = (lookup before).map (if it is the row then the change else id)`. -/

namespace Sys2Proof.Machine

open Sys2Proof.Safety

variable (s : State)

/-! ### Records -/

@[simp] theorem Record.enter_frame (st : RecordState) (limit : Nat) (r : Record) :
    (r.enter st limit).slot = r.slot ∧ (r.enter st limit).ticket = r.ticket ∧ (r.enter st limit).stall = r.stall ∧
      (r.enter st limit).call = r.call ∧ (r.enter st limit).hook = r.hook ∧ (r.enter st limit).state = st ∧
      (r.enter st limit).attendant = r.attendant ∧ (r.enter st limit).parkMark = false ∧
      (r.enter st limit).keyMark = false ∧ (r.enter st limit).flags = r.flags.leave r.state :=
  ⟨rfl, rfl, rfl, rfl, rfl, rfl, rfl, rfl, rfl, rfl⟩

@[simp] theorem Record.freed_frame (r : Record) :
    r.freed.slot = r.slot ∧ r.freed.ticket = r.ticket ∧ r.freed.stall = r.stall ∧ r.freed.call = r.call ∧
      r.freed.state = r.state ∧ r.freed.attendant = none ∧ r.freed.flags = r.flags :=
  ⟨rfl, rfl, rfl, rfl, rfl, rfl, rfl⟩

/-- The changed record, and every other as it was, where the change keeps tickets. -/
@[simp] theorem record?_modRecord (t u : Nat) (f : Record → Record) (hf : ∀ r, (f r).ticket = r.ticket) :
    (s.modRecord t f).record? u = (s.record? u).map (if u = t then f else id) := by
  by_cases hu : u = t
  · subst hu; simpa using record?_modRecord_self s u f hf
  · simpa [hu] using record?_modRecord_other s t u f hf hu

@[simp] theorem record?_setState (t u : Nat) (st : RecordState) :
    (s.setState t st).record? u = (s.record? u).map (if u = t then Record.enter st s.ct.parkLimit else id) := by
  simp [State.setState]

@[simp] theorem record?_holdStall (t u : Nat) (st : StallId) :
    (s.holdStall t st).record? u =
      (s.record? u).map (if u = t then fun r => { r with stall := some st, flags := r.flags.stallChanged } else id) := by
  simp [State.holdStall]

/-- A record whose stall has been released: it names none, and where it named one the flags of the stall clear (R5). -/
def Record.released (r : Record) : Record :=
  match r.stall with
  | none => r
  | some _ => { r with stall := none, flags := r.flags.stallChanged }

@[simp] theorem Record.released_frame (r : Record) :
    r.released.slot = r.slot ∧ r.released.ticket = r.ticket ∧ r.released.stall = none ∧ r.released.state = r.state ∧
      r.released.hook = r.hook ∧ r.released.bay = r.bay ∧ r.released.call = r.call ∧
      r.released.attendant = r.attendant ∧ r.released.flags.keyOverdue = r.flags.keyOverdue ∧
      r.released.flags.departureUnconfirmed = r.flags.departureUnconfirmed := by
  unfold Record.released; split <;> simp_all [RecordFlags.stallChanged]

@[simp] theorem record?_releaseStall (t u : Nat) :
    (s.releaseStall t).record? u = (s.record? u).map (if u = t then Record.released else id) := by
  unfold State.releaseStall
  split
  next hnone =>
    by_cases hu : u = t
    · subst hu
      cases hr : s.record? u with
      | none => rfl
      | some r =>
        have hst : r.stall = none := by simpa [hr] using hnone
        simp [Record.released, hst]
    · simp [hu]
  next st hst =>
    by_cases hu : u = t
    · subst hu
      obtain ⟨r, hr, hst⟩ := Option.bind_eq_some_iff.mp hst
      simp [hr, Record.released, hst]
    · simp [hu]

@[simp] theorem record?_noteFallback (t u : Nat) (b : Bool) :
    (s.noteFallback t b).record? u =
      (s.record? u).map
        (if u = t ∧ b = true then fun r => { r with flags := { r.flags with chargeUnmet := true } } else id) := by
  cases b <;> simp [State.noteFallback]

@[simp] theorem record?_enterWaiting (t u : Nat) :
    (s.enterWaiting t).record? u =
      (s.record? u).map (if u = t then Record.enter .waiting s.ct.parkLimit else id) := by
  simp [State.enterWaiting]

@[simp] theorem record?_dropRecord (t u : Nat) :
    (s.dropRecord t).record? u = if u = t then none else s.record? u := by
  simp only [State.record?, State.dropRecord, List.find?_filter]
  by_cases hu : u = t
  · subst hu; simp
  · simp only [hu, if_false]
    congr 1
    funext r
    by_cases hr : r.ticket = u <;> simp [hr, hu]

/-- No shared operation below writes the park limit, the ticket counter or the LIST cursor. -/
@[simp] theorem State.setState_ct (t : Nat) (st : RecordState) :
    (s.setState t st).ct.parkLimit = s.ct.parkLimit ∧ (s.setState t st).ct.counter = s.ct.counter := by
  simp [State.setState]

@[simp] theorem State.holdStall_ct (t : Nat) (st : StallId) :
    (s.holdStall t st).ct.parkLimit = s.ct.parkLimit ∧ (s.holdStall t st).ct.counter = s.ct.counter := by
  simp [State.holdStall]

@[simp] theorem State.releaseStall_ct (t : Nat) :
    (s.releaseStall t).ct.parkLimit = s.ct.parkLimit ∧ (s.releaseStall t).ct.counter = s.ct.counter := by
  unfold State.releaseStall; split <;> simp

@[simp] theorem State.noteFallback_ct (t : Nat) (b : Bool) :
    (s.noteFallback t b).ct.parkLimit = s.ct.parkLimit ∧ (s.noteFallback t b).ct.counter = s.ct.counter := by
  cases b <;> simp [State.noteFallback]

/-! ### Entries -/

/-- The changed entry, and every other as it was, where the change keeps tickets. -/
@[simp] theorem entry?_modEntry (t u : Nat) (f : Entry → Entry) (hf : ∀ e, (f e).ticket = e.ticket) :
    (s.modEntry t f).entry? u = (s.entry? u).map (if u = t then f else id) := by
  simp only [State.entry?, State.modEntry_jq]
  generalize s.jq.entries = l
  induction l with
  | nil => rfl
  | cons e es ih =>
    have he : (if e.ticket = t then f e else e).ticket = e.ticket := by split <;> simp [hf]
    by_cases hu : e.ticket = u
    · subst hu; by_cases ht : e.ticket = t <;> simp [ht, hf]
    · simpa [he, hu] using ih

/-- The entry a lookup gives carries the ticket looked up. -/
theorem entry?_ticket {t : Nat} {e : Entry} (h : s.entry? t = some e) : e.ticket = t := by
  simpa using List.find?_some h

@[simp] theorem entry?_requeue (t u : Nat) :
    (s.requeue t).entry? u =
      (s.entry? u).map (if u = t then fun e => { e with status := .queued, attendant := none } else id) := by
  simp [State.requeue]

@[simp] theorem entry?_removeEntry (t u : Nat) : (s.removeEntry t).entry? u = if u = t then none else s.entry? u := by
  unfold State.removeEntry
  split
  next hnone => by_cases hu : u = t <;> simp [hu, hnone]
  next e he =>
    have hfilter : (s.setEntries (s.jq.entries.filter fun g => g.ticket != t)).entry? u =
        if u = t then none else s.entry? u := by
      simp only [State.entry?, State.setEntries_jq, List.find?_filter]
      by_cases hu : u = t
      · subst hu; simp
      · simp only [hu, if_false]
        congr 1
        funext g
        by_cases hg : g.ticket = u <;> simp [hg, hu]
    simpa using hfilter

@[simp] theorem entry?_dropEntry (t u : Nat) : (s.dropEntry t).entry? u = if u = t then none else s.entry? u := by
  unfold State.dropEntry
  split
  next hnone => by_cases hu : u = t <;> simp [hu, hnone]
  next => split <;> simp

theorem find?_insertEntry_self (e : Entry) (l : List Entry) (h : l.find? (fun g => g.ticket == e.ticket) = none) :
    (insertEntry e l).find? (fun g => g.ticket == e.ticket) = some e := by
  induction l with
  | nil => simp [insertEntry]
  | cons g gs ih =>
    obtain ⟨hg, hgs⟩ : g.ticket ≠ e.ticket ∧ gs.find? (fun g => g.ticket == e.ticket) = none := by
      simp only [List.find?_cons] at h
      split at h <;> simp_all
    unfold insertEntry
    split
    · simp
    · simp [hg, ih hgs]

theorem find?_insertEntry_other (e : Entry) (l : List Entry) (u : Nat) (h : u ≠ e.ticket) :
    (insertEntry e l).find? (fun g => g.ticket == u) = l.find? (fun g => g.ticket == u) := by
  induction l with
  | nil => simp [insertEntry, h.symm]
  | cons g gs ih =>
    unfold insertEntry
    split
    · simp [h.symm]
    · simp [List.find?_cons, ih]

@[simp] theorem State.addEntry_jq (e : Entry) :
    (s.addEntry e).jq.entries = insertEntry e s.jq.entries ∧ (s.addEntry e).jq.leads = s.jq.leads := by
  unfold State.addEntry; dsimp only; split <;> simp

/-- An entry that joins is the entry of its record, where the record had none. -/
theorem entry?_addEntry_self (e : Entry) (h : s.entry? e.ticket = none) :
    (s.addEntry e).entry? e.ticket = some e := by
  simpa only [State.entry?, State.addEntry_jq] using find?_insertEntry_self e s.jq.entries h

theorem entry?_addEntry_other (e : Entry) (u : Nat) (h : u ≠ e.ticket) :
    (s.addEntry e).entry? u = s.entry? u := by
  simpa only [State.entry?, State.addEntry_jq] using find?_insertEntry_other e s.jq.entries u h

/-! ### Stalls -/

theorem stall?_modStall (z i y j : Nat) (f : Stall → Stall) :
    (s.modStall z i f).stall? y j = (s.stall? y j).map (if y = z ∧ j = i then f else id) := by
  by_cases hz : y = z
  · subst hz
    by_cases hlen : y < s.sm.zones.length
    · simp only [State.stall?, State.modStall, zone_modZone_self s y _ hlen, List.getElem?_modify, true_and]
      by_cases hj : j = i
      · subst hj; simp
      · simp [hj, Ne.symm hj]
    · have hzone (q : State) (hq : q.sm.zones.length = s.sm.zones.length) : q.zone y = Zone.absent := by
        simp [State.zone, List.getD_eq_getElem?_getD, List.getElem?_eq_none (show q.sm.zones.length ≤ y by omega)]
      simp [State.stall?, hzone s rfl, hzone (s.modStall y i f) (by simp [State.modStall, State.modZone]), Zone.absent]
  · simp only [State.stall?, State.modStall, zone_modZone_other s z y _ (Ne.symm hz), hz, false_and, if_false,
      Option.map_id_fun, id]

theorem stall?_resetRuns (o : Option StallId) (z i : Nat) :
    (s.resetRuns o).stall? z i = (s.stall? z i).map (if o = some ⟨z, i⟩ then Stall.resetRuns else id) := by
  cases o with
  | none => simp [State.resetRuns]
  | some st =>
    obtain ⟨y, j⟩ := st
    simp [State.resetRuns, stall?_modStall, eq_comm]

theorem stall?_setState (t : Nat) (st : RecordState) (z i : Nat) :
    (s.setState t st).stall? z i =
      (s.stall? z i).map (if (s.record? t).bind Record.stall = some ⟨z, i⟩ then Stall.resetRuns else id) := by
  simp [State.setState, stall?_resetRuns]

theorem stall?_holdStall (t : Nat) (st : StallId) (z i : Nat) :
    (s.holdStall t st).stall? z i =
      (s.stall? z i).map (if st = ⟨z, i⟩ then fun x => { x.resetRuns with holder := some t } else id) := by
  obtain ⟨y, j⟩ := st
  simp [State.holdStall, stall?_modStall, eq_comm]

theorem stall?_releaseStall (t z i : Nat) :
    (s.releaseStall t).stall? z i =
      (s.stall? z i).map (if (s.record? t).bind Record.stall = some ⟨z, i⟩ then
        fun x => { x.resetRuns with holder := none } else id) := by
  unfold State.releaseStall
  split
  next hnone => simp [hnone]
  next st hst => obtain ⟨y, j⟩ := st; simp [hst, stall?_modStall, eq_comm]

/-- A change of a record's state moves no holder. -/
@[simp] theorem holder_setState (t : Nat) (st : RecordState) (z i : Nat) :
    ((s.setState t st).stall? z i).map Stall.holder = (s.stall? z i).map Stall.holder := by
  rw [stall?_setState, Option.map_map]
  congr 1
  split <;> rfl

/-! ### Hooks -/

/-- The changed hook, and every other as it was. -/
@[simp] theorem hook?_modHook (h g : Nat) (f : Hook → Hook) :
    (s.modHook h f).hook? g = (s.hook? g).map (if g = h then f else id) := by
  by_cases hg : g = h
  · subst hg
    cases hk : s.hook? g with
    | some k => simpa using hook?_modHook_self s g f k hk
    | none =>
      by_cases hp : panelOf g < s.kc.panels.length
      · simp only [State.hook?, State.modHook] at hk ⊢
        rw [panel_modPanel_self s _ _ hp]
        simp [hk]
      · have hnone : (s.modHook g f).panel (panelOf g) = Panel.absent := by
          simp [State.panel, State.modHook, State.modPanel, List.getD_eq_getElem?_getD,
            List.getElem?_eq_none (show s.kc.panels.length ≤ panelOf g by omega)]
        simp [State.hook?, hnone, Panel.absent]
  · simpa [hg] using hook?_modHook_other s h g f hg

@[simp] theorem hook?_sendLatch (h g : Nat) (p : Latch) :
    (s.sendLatch h p).hook? g = (s.hook? g).map
      (if g = h then fun k => { k with latch := some p, repeatTimer := some (Timer.start Config.latchRepeat) } else id) :=
  hook?_modHook s h g _

/-- A change of one hook leaves every other as it was. -/
theorem hook?_updHook_other (h g : Nat) (f : Hook → Hook) (hg : g ≠ h) : (s.updHook h f).hook? g = s.hook? g := by
  cases hk : s.hook? h with
  | none => simp only [State.updHook, hk]
  | some k =>
    simp only [State.updHook, hk]
    split <;> simp [hg]

/-- A change that leaves the required position sends nothing (R71; log entry 19). -/
theorem hook?_updHook_quiet (h : Nat) (f : Hook → Hook) (k : Hook) (hk : s.hook? h = some k)
    (hreq : (f k).required (s.hookInService h) = k.required (s.hookInService h)) :
    (s.updHook h f).hook? h = some (f k) ∧ (s.updHook h f).kc.sent = s.kc.sent := by
  refine ⟨by simp [hook?_updHook_self s h f k hk, hreq], ?_⟩
  simp [State.updHook, hk, hreq]

/-- A change of the required position sends set latch (R71). -/
theorem hook?_updHook_moved (h : Nat) (f : Hook → Hook) (k : Hook) (hk : s.hook? h = some k)
    (hreq : (f k).required (s.hookInService h) ≠ k.required (s.hookInService h)) :
    (s.updHook h f).hook? h = some { f k with
        latch := some ((f k).required (s.hookInService h)), repeatTimer := some (Timer.start Config.latchRepeat) } ∧
      (s.updHook h f).kc.sent = s.kc.sent ++ [⟨h, (f k).required (s.hookInService h)⟩] := by
  refine ⟨by simp [hook?_updHook_self s h f k hk, hreq], ?_⟩
  simp [State.updHook, hk, hreq]

/-- Whatever the latch, the changed hook is `f k` in all but the pending command and its repeat timer. -/
theorem hook?_updHook_upToLatch (h : Nat) (f : Hook → Hook) (k : Hook) (hk : s.hook? h = some k) :
    ∃ latch timer, (s.updHook h f).hook? h = some { f k with latch := latch, repeatTimer := timer } := by
  by_cases hreq : (f k).required (s.hookInService h) = k.required (s.hookInService h)
  · exact ⟨_, _, (hook?_updHook_quiet s h f k hk hreq).1⟩
  · exact ⟨_, _, (hook?_updHook_moved s h f k hk hreq).1⟩

@[simp] theorem hookInService_sendLatch (h g : Nat) (p : Latch) :
    (s.sendLatch h p).hookInService g = s.hookInService g :=
  hookInService_modHook s h g _

@[simp] theorem hookInService_updHook (h : Nat) (f : Hook → Hook) : (s.updHook h f).hookInService = s.hookInService := by
  funext g
  unfold State.updHook
  split
  · rfl
  · dsimp only; split <;> simp

/-- A change of a hook writes no cabinet setting. -/
@[simp] theorem State.updHook_kc (h : Nat) (f : Hook → Hook) :
    (s.updHook h f).kc.windowTime = s.kc.windowTime ∧ (s.updHook h f).kc.custodyLimit = s.kc.custodyLimit := by
  unfold State.updHook; split
  · simp
  · dsimp only; split <;> simp

/-! ### Bays, lanes and attendants -/

theorem bay_modBay (b : Nat) (f : Bay → Bay) (hf : f (Bay.absent false) = Bay.absent false ∨ b < s.km.bays.length) :
    (s.modBay b f).bay b = f (s.bay b) := by
  by_cases hb : b < s.km.bays.length
  · exact bay_modBay_self s b f hb
  · have hfix := hf.resolve_right hb
    have hlen : s.km.bays.length ≤ b := by omega
    simp [State.bay, State.modBay, List.getD_eq_getElem?_getD, List.getElem?_eq_none hlen, hfix]

/-- A bay that is freed keeps its settings and its loop (R142). -/
theorem bay_freeBay (b : Nat) :
    (s.freeBay (some b)).bay b = { s.bay b with holder := none, dwell := none, driveOff := none } :=
  bay_modBay s b (fun x => { x with holder := none, dwell := none, driveOff := none }) (Or.inl rfl)

theorem lane_modLane (l m : Nat) (f : Lane → Lane) (hf : f { loop := false, fifo := [] } = { loop := false, fifo := [] }) :
    (s.modLane l f).lane m = if m = l then f (s.lane m) else s.lane m := by
  simp only [State.lane, State.modLane, List.getD_eq_getElem?_getD, List.getElem?_modify]
  by_cases hm : m = l
  · subst hm; cases s.km.lanes[m]? <;> simp [hf]
  · simp [hm, Ne.symm hm]

@[simp] theorem attendant_leaveIdle_self (a : Nat) (st : AttendantState) (h : a < s.dr.attendants.length) :
    (s.leaveIdle a st).attendant a = { s.attendant a with state := st, idleSince := none, ack := none } := by
  simpa [State.leaveIdle, State.attendant] using
    attendant_modAttendant_self s a (fun e => { e with state := st, idleSince := none, ack := none }) h

@[simp] theorem State.leaveIdle_length (a : Nat) (st : AttendantState) :
    (s.leaveIdle a st).dr.attendants.length = s.dr.attendants.length := by
  simp [State.leaveIdle, State.modAttendant]

end Sys2Proof.Machine
end

section
/-! The table invariant (R1): the slots and tickets of the live records stay distinct and in slot order. The invariant
depends on the records' slots and tickets alone, and only ACCEPT, a retirement and a power-on change those. -/

namespace Sys2Proof.Machine

open Sys2Proof.Safety

/-! ### The invariant is about slots and tickets -/

/-- The slot and the ticket of every live record, in table order. -/
def Custody.keys (c : Custody) : List (Nat × Nat) := c.records.map fun r => (r.slot, r.ticket)

/-- Slots below 1,024 in order, and distinct tickets. -/
def KeysSound (l : List (Nat × Nat)) : Prop :=
  l.Pairwise (fun p q => p.1 < q.1) ∧ (∀ p ∈ l, p.1 < 1024) ∧ l.Pairwise (fun p q => p.2 ≠ q.2)

theorem tableSound_iff_keysSound (s : State) : TableSound s ↔ KeysSound s.ct.keys := by
  simp only [TableSound, KeysSound, Custody.keys, List.pairwise_map, List.mem_map, forall_exists_index, and_imp,
    forall_apply_eq_imp_iff₂]

theorem keysSound_sublist {l m : List (Nat × Nat)} (h : m.Sublist l) (hl : KeysSound l) : KeysSound m :=
  ⟨hl.1.sublist h, fun p hp => hl.2.1 p (h.mem hp), hl.2.2.sublist h⟩

/-! ### Operations that keep every slot and ticket -/

variable (s : State)

@[simp] theorem keys_modRecord (t : Nat) (f : Record → Record)
    (hf : ∀ r, (f r).slot = r.slot ∧ (f r).ticket = r.ticket) : (s.modRecord t f).ct.keys = s.ct.keys := by
  simp only [Custody.keys, State.modRecord, List.map_map]
  apply List.map_congr_left
  intro r _
  simp only [Function.comp]
  split <;> simp [hf]

@[simp] theorem keys_setState (t : Nat) (st : RecordState) : (s.setState t st).ct.keys = s.ct.keys := by
  simp [State.setState]

@[simp] theorem keys_holdStall (t : Nat) (st : StallId) : (s.holdStall t st).ct.keys = s.ct.keys := by
  simp [State.holdStall]

@[simp] theorem keys_releaseStall (t : Nat) : (s.releaseStall t).ct.keys = s.ct.keys := by
  unfold State.releaseStall; split <;> simp

@[simp] theorem keys_noteFallback (t : Nat) (b : Bool) : (s.noteFallback t b).ct.keys = s.ct.keys := by
  cases b <;> simp [State.noteFallback]

@[simp] theorem keys_compareGrade (st : Stall) : (s.compareGrade st).ct.keys = s.ct.keys := by
  unfold State.compareGrade; repeat' split
  all_goals simp

@[simp] theorem keys_enterStored (t : Nat) : (s.enterStored t).ct.keys = s.ct.keys := by
  unfold State.enterStored; dsimp only; repeat' split
  all_goals simp

@[simp] theorem keys_setMarks (t : Nat) (p k : Bool) : (s.setMarks t p k).ct.keys = s.ct.keys := by
  unfold State.setMarks; split <;> simp

@[simp] theorem keys_parkConfirmed (t : Nat) : (s.parkConfirmed t).ct.keys = s.ct.keys := by
  unfold State.parkConfirmed; repeat' split
  all_goals simp

@[simp] theorem keys_keyHome (t : Nat) : (s.keyHome t).ct.keys = s.ct.keys := by
  unfold State.keyHome; dsimp only; repeat' split
  all_goals simp

@[simp] theorem keys_keyTaken (t a : Nat) : (s.keyTaken t a).ct.keys = s.ct.keys := by
  unfold State.keyTaken; repeat' split
  all_goals simp

@[simp] theorem keys_undoJob (t : Nat) (st : RecordState) : (s.undoJob t st).ct.keys = s.ct.keys := by
  simp [State.undoJob]

@[simp] theorem keys_windowLapsed (t : Nat) : (s.windowLapsed t).ct.keys = s.ct.keys := by
  unfold State.windowLapsed; repeat' split
  all_goals simp

@[simp] theorem keys_suspend (t : Nat) (w : SuspendReason) : (s.suspend t w).ct.keys = s.ct.keys := by
  unfold State.suspend; split <;> simp

@[simp] theorem keys_keyForced (t : Nat) : (s.keyForced t).ct.keys = s.ct.keys := by
  unfold State.keyForced; repeat' split
  all_goals simp

@[simp] theorem keys_stallEmpty (t z : Nat) : (s.stallEmpty t z).ct.keys = s.ct.keys := by
  simp [State.stallEmpty]

@[simp] theorem keys_takeKey (h : Nat) (k : Hook) : (s.takeKey h k).ct.keys = s.ct.keys := by
  unfold State.takeKey; dsimp only; split <;> simp

@[simp] theorem keys_forceKey (h : Nat) (k : Hook) : (s.forceKey h k).ct.keys = s.ct.keys := by
  unfold State.forceKey; dsimp only; split <;> simp

@[simp] theorem keys_completeLapse (h : Nat) (k : Hook) : (s.completeLapse h k).ct.keys = s.ct.keys := by
  unfold State.completeLapse; dsimp only; repeat' split
  all_goals simp

@[simp] theorem keys_serviceKey (h : Nat) (k : Hook) : (s.serviceKey h k).ct.keys = s.ct.keys := by
  unfold State.serviceKey; dsimp only; split
  · simp
  · split <;> simp

@[simp] theorem keys_stagedOk (t b : Nat) : (s.stagedOk t b).ct.keys = s.ct.keys := by
  unfold State.stagedOk; dsimp only; repeat' split
  all_goals simp

@[simp] theorem keys_enterWaiting (t : Nat) : (s.enterWaiting t).ct.keys = s.ct.keys := by
  simp [State.enterWaiting]

@[simp] theorem keys_grant (r : Record) (st : StallId) (b : Bool) : (s.grant r st b).ct.keys = s.ct.keys := by
  simp [State.grant]

@[simp] theorem keys_serveList (l : List Nat) : (s.serveList l).ct.keys = s.ct.keys := by
  induction l generalizing s with
  | nil => rfl
  | cons t ts ih => unfold State.serveList; repeat' split
                    all_goals simp [ih]

@[simp] theorem keys_servePass : s.servePass.ct.keys = s.ct.keys := keys_serveList s _

@[simp] theorem keys_serveStep : s.serveStep.ct.keys = s.ct.keys := by
  unfold State.serveStep; split <;> simp

@[simp] theorem keys_finish : s.finish.ct.keys = s.ct.keys := by
  simp [State.finish]

@[simp] theorem keys_newCall (r : Record) (c : CallField) : (s.newCall r c).ct.keys = s.ct.keys := by
  unfold State.newCall State.setCall; dsimp only; split <;> simp

@[simp] theorem keys_upgradeCall (t tier : Nat) : (s.upgradeCall t tier).ct.keys = s.ct.keys := by
  simp [State.upgradeCall]

@[simp] theorem keys_cancelCall (r : Record) : (s.cancelCall r).ct.keys = s.ct.keys := by
  unfold State.cancelCall; dsimp only; split <;> simp

@[simp] theorem keys_takeJob (r : Record) (e : Entry) (a : Nat) : (s.takeJob r e a).ct.keys = s.ct.keys := by
  unfold State.takeJob State.acked; split <;> simp

@[simp] theorem keys_placeInStray (r : Record) (st : StallId) (x : Stall) :
    (s.placeInStray r st x).ct.keys = s.ct.keys := by
  unfold State.placeInStray; dsimp only; split <;> simp

@[simp] theorem keys_reparkCar (r : Record) (a : Nat) (found : Option (StallId × Bool)) :
    (s.reparkCar r a found).ct.keys = s.ct.keys := by
  unfold State.reparkCar; dsimp only; split <;> simp

@[simp] theorem keys_clearSuspension (t : Nat) : (s.clearSuspension t).ct.keys = s.ct.keys := by
  simp [State.clearSuspension]

/-- A fold of steps that keep every slot and ticket keeps them. -/
theorem keys_foldl {α : Type} (f : State → α → State) (hf : ∀ q a, (f q a).ct.keys = q.ct.keys) (l : List α) :
    (l.foldl f s).ct.keys = s.ct.keys := by
  induction l generalizing s with
  | nil => rfl
  | cons a l ih => rw [List.foldl_cons, ih, hf]

@[simp] theorem keys_regrade (n g : Nat) : (s.regrade n g).ct.keys = s.ct.keys := by
  simp [State.regrade, keys_foldl _ State.compareGrade fun q st => keys_compareGrade q st]

@[simp] theorem keys_takeStall (z : Nat) (occupied : BitVec 96) (i : Nat) :
    (State.takeStall z occupied s i).ct.keys = s.ct.keys := by
  unfold State.takeStall State.heldOccupied State.heldVacant State.freeOccupied State.freeVacant
  dsimp only; repeat' split
  all_goals simp

@[simp] theorem keys_takeReport (z : Nat) (occupied : BitVec 96) : (s.takeReport z occupied).ct.keys = s.ct.keys := by
  simp [State.takeReport, State.hearZone, keys_foldl _ _ fun q i => keys_takeStall q z occupied i]

@[simp] theorem keys_setPanelService (p : Nat) (b : Bool) : (s.setPanelService p b).ct.keys = s.ct.keys := by
  unfold State.setPanelService
  rw [keys_foldl]
  · simp
  · intro q i; repeat' split
    all_goals simp

@[simp] theorem keys_loadHook (h tag : Nat) : (s.loadHook h tag).ct.keys = s.ct.keys := by
  unfold State.loadHook State.mishung; repeat' split
  all_goals simp

@[simp] theorem keys_emptyHook (h : Nat) (latched : Bool) : (s.emptyHook h latched).ct.keys = s.ct.keys := by
  unfold State.emptyHook; repeat' split
  all_goals simp

@[simp] theorem keys_confirmLatch (h : Nat) (p : Latch) : (s.confirmLatch h p).ct.keys = s.ct.keys := by
  unfold State.confirmLatch; dsimp only; repeat' split
  all_goals simp

@[simp] theorem keys_expireWindow (h : Nat) : (s.expireWindow h).ct.keys = s.ct.keys := by
  unfold State.expireWindow; repeat' split
  all_goals simp

@[simp] theorem keys_resendLatch (h : Nat) : (s.resendLatch h).ct.keys = s.ct.keys := by
  unfold State.resendLatch; split <;> simp

@[simp] theorem keys_warnKey (h : Nat) : (s.warnKey h).ct.keys = s.ct.keys := by
  unfold State.warnKey; dsimp only; repeat' split
  all_goals simp

@[simp] theorem keys_overdueKey (h : Nat) : (s.overdueKey h).ct.keys = s.ct.keys := by
  unfold State.overdueKey; dsimp only; repeat' split
  all_goals simp

@[simp] theorem keys_lateInbound (t : Nat) : (s.lateInbound t).ct.keys = s.ct.keys := by
  simp [State.lateInbound]

@[simp] theorem keys_ackTimeout (a : Nat) : (s.ackTimeout a).ct.keys = s.ct.keys := by
  unfold State.ackTimeout; dsimp only; split <;> simp

@[simp] theorem keys_expireDwell (b : Nat) : (s.expireDwell b).ct.keys = s.ct.keys := by
  unfold State.expireDwell; dsimp only; split <;> simp

@[simp] theorem keys_tickSecond : s.tickSecond.ct.keys = s.ct.keys := by
  simp [State.tickSecond, State.tickTimers, Custody.keys]

@[simp] theorem keys_heardInRecovery (z : Nat) : (s.heardInRecovery z).ct.keys = s.ct.keys := by
  unfold State.heardInRecovery State.endRecovery; dsimp only; repeat' split
  all_goals rfl

@[simp] theorem Record.reconcile_keys (limit : Nat) (out : Bool) (holder : Option Nat) (moved : Bool) (r : Record) :
    (r.reconcile limit out holder moved).slot = r.slot ∧ (r.reconcile limit out holder moved).ticket = r.ticket := by
  unfold Record.reconcile; dsimp only; repeat' split
  all_goals exact ⟨rfl, rfl⟩

@[simp] theorem keys_reconcile (l : List Entry) : (s.reconcile l).ct.keys = s.ct.keys := by
  simp [State.reconcile, Custody.keys]

@[simp] theorem keys_restarted : s.restarted.ct.keys = s.ct.keys := by
  have hbegin (q : State) : q.beginRecovery.ct = q.ct := by
    unfold State.beginRecovery State.endRecovery; repeat' split
    all_goals rfl
  rw [State.restarted, hbegin]
  exact keys_reconcile s.volatileReset s.jq.entries

@[simp] theorem keys_warmRestart : s.warmRestart.ct.keys = s.ct.keys := by
  unfold State.warmRestart; dsimp only; split <;> simp

/-! ### The operations that change a slot or a ticket -/

theorem tableSound_retireRecord {s : State} (h : TableSound s) (t : Nat) : TableSound (s.retireRecord t) := by
  rw [tableSound_iff_keysSound] at h ⊢
  unfold State.retireRecord
  split
  · exact h
  · next r hr =>
    refine keysSound_sublist ?_ (l := (((s.releaseStall t).freeBay r.bay).unbindHook r.hook t).ct.keys) (by simpa using h)
    exact List.Sublist.map _ List.filter_sublist

theorem mem_insertRecord (r q : Record) (l : List Record) : q ∈ insertRecord r l ↔ q = r ∨ q ∈ l := by
  induction l with
  | nil => simp [insertRecord]
  | cons p ps ih =>
    unfold insertRecord
    split
    · simp
    · simp only [List.mem_cons, ih]; tauto

theorem slotOrder_insertRecord (r : Record) (l : List Record) (h : l.Pairwise fun p q => p.slot < q.slot)
    (hfree : ∀ q ∈ l, q.slot ≠ r.slot) : (insertRecord r l).Pairwise fun p q => p.slot < q.slot := by
  induction l with
  | nil => simp [insertRecord]
  | cons p ps ih =>
    obtain ⟨hp, hps⟩ := List.pairwise_cons.mp h
    unfold insertRecord
    split
    next hlt =>
      refine List.pairwise_cons.mpr ⟨fun q hq => ?_, h⟩
      rcases List.mem_cons.mp hq with rfl | hq
      · exact hlt
      · exact hlt.trans (hp q hq)
    next hge =>
      refine List.pairwise_cons.mpr ⟨fun q hq => ?_, ih hps fun q hq => hfree q (List.mem_cons_of_mem _ hq)⟩
      rcases (mem_insertRecord r q ps).mp hq with rfl | hq
      · have := hfree p List.mem_cons_self; omega
      · exact hp q hq

theorem tickets_insertRecord (r : Record) (l : List Record) (h : l.Pairwise fun p q => p.ticket ≠ q.ticket)
    (hfresh : ∀ q ∈ l, q.ticket ≠ r.ticket) : (insertRecord r l).Pairwise fun p q => p.ticket ≠ q.ticket := by
  induction l with
  | nil => simp [insertRecord]
  | cons p ps ih =>
    obtain ⟨hp, hps⟩ := List.pairwise_cons.mp h
    unfold insertRecord
    split
    · exact List.pairwise_cons.mpr ⟨fun q hq => (hfresh q hq).symm, h⟩
    · refine List.pairwise_cons.mpr ⟨fun q hq => ?_, ih hps fun q hq => hfresh q (List.mem_cons_of_mem _ hq)⟩
      rcases (mem_insertRecord r q ps).mp hq with rfl | hq
      · exact hfresh p List.mem_cons_self
      · exact hp q hq

/-- A record joins in a slot and with a ticket that no live record has. -/
theorem tableSound_addRecord {s : State} (h : TableSound s) (r : Record) (hslot : r.slot < 1024)
    (hfree : ∀ q ∈ s.ct.records, q.slot ≠ r.slot) (hfresh : ∀ q ∈ s.ct.records, q.ticket ≠ r.ticket) :
    TableSound (s.addRecord r) := by
  obtain ⟨hord, hlt, htick⟩ := h
  refine ⟨slotOrder_insertRecord r _ hord hfree, fun q hq => ?_, tickets_insertRecord r _ htick hfresh⟩
  rcases (mem_insertRecord r q _).mp hq with rfl | hq
  · exact hslot
  · exact hlt q hq

/-! ### The lowest free slot (R1) -/

/-- From `n` on, `lowestFree` is not below `n`, passes taken slots alone, and stops at a free one. -/
theorem lowestFree_spec (n : Nat) (l : List Record) (h : l.Pairwise fun p q => p.slot < q.slot)
    (hn : ∀ q ∈ l, n ≤ q.slot) :
    n ≤ lowestFree n l ∧ lowestFree n l ≤ n + l.length ∧ (∀ q ∈ l, q.slot ≠ lowestFree n l) ∧
      ∀ m, n ≤ m → m < lowestFree n l → ∃ q ∈ l, q.slot = m := by
  induction l generalizing n with
  | nil => exact ⟨le_refl n, le_refl n, by simp, fun m h1 h2 => absurd h2 (by simp [lowestFree]; omega)⟩
  | cons p ps ih =>
    obtain ⟨hp, hps⟩ := List.pairwise_cons.mp h
    unfold lowestFree
    split
    next heq =>
      obtain ⟨hle, hbound, hfree, hbelow⟩ := ih (n + 1) hps fun q hq => by have := hp q hq; omega
      refine ⟨by omega, by simp; omega, fun q hq => ?_, fun m h1 h2 => ?_⟩
      · rcases List.mem_cons.mp hq with rfl | hq
        · omega
        · exact hfree q hq
      · rcases Nat.lt_or_ge n m with hm | hm
        · obtain ⟨q, hq, hqm⟩ := hbelow m hm h2
          exact ⟨q, List.mem_cons_of_mem _ hq, hqm⟩
        · exact ⟨p, List.mem_cons_self, by omega⟩
    next hne =>
      have hp0 := hn p List.mem_cons_self
      refine ⟨le_refl n, by simp, fun q hq => ?_, fun m h1 h2 => by omega⟩
      rcases List.mem_cons.mp hq with rfl | hq
      · exact hne
      · have := hp q hq; omega

/-- The slot ACCEPT takes is free, the lowest such, and below 1,024 while fewer than 1,024 records are live. -/
theorem nextSlot_spec {s : State} (h : TableSound s) (hlen : s.ct.records.length < 1024) :
    s.nextSlot < 1024 ∧ (∀ q ∈ s.ct.records, q.slot ≠ s.nextSlot) ∧
      ∀ n < s.nextSlot, ∃ q ∈ s.ct.records, q.slot = n := by
  obtain ⟨_, hbound, hfree, hbelow⟩ := lowestFree_spec 0 s.ct.records h.1 fun _ _ => Nat.zero_le _
  have hslot : s.nextSlot ≤ 0 + s.ct.records.length := hbound
  exact ⟨by omega, hfree, fun n hn => hbelow n (Nat.zero_le n) hn⟩

/-! ### The next ticket (R2) -/

/-- The candidate after a ticket: the next number, wrapping from 999,999 to 1. -/
def nextCandidate (n : Nat) : Nat := if Config.maxTicket ≤ n then 1 else n + 1

/-- Issuing ends at a candidate within the range of tickets; it carries no live ticket, or every candidate tried was live. -/
theorem issueTicket_spec (live : List Record) (fuel counter : Nat) :
    (∃ n < fuel, issueTicket live fuel counter = nextCandidate^[n + 1] counter ∧
        ∀ r ∈ live, r.ticket ≠ issueTicket live fuel counter) ∨
      ∀ n < fuel, ∃ r ∈ live, r.ticket = nextCandidate^[n + 1] counter := by
  induction fuel generalizing counter with
  | zero => exact Or.inr fun n hn => absurd hn (Nat.not_lt_zero n)
  | succ fuel ih =>
    have hstep : issueTicket live (fuel + 1) counter =
        if live.any (fun r => r.ticket == nextCandidate counter) then issueTicket live fuel (nextCandidate counter)
        else nextCandidate counter := rfl
    rw [hstep]
    split
    next hlive =>
      obtain ⟨r, hr, hticket⟩ : ∃ r ∈ live, r.ticket = nextCandidate counter := by simpa using hlive
      rcases ih (nextCandidate counter) with ⟨n, hn, heq, hfresh⟩ | hall
      · exact Or.inl ⟨n + 1, by omega, heq, hfresh⟩
      · refine Or.inr fun n hn => ?_
        cases n with
        | zero => exact ⟨r, hr, hticket⟩
        | succ n => exact hall n (by omega)
    next hfree =>
      exact Or.inl ⟨0, by omega, rfl, by simpa using hfree⟩

theorem nextCandidate_range (n : Nat) : 1 ≤ nextCandidate n ∧ nextCandidate n ≤ 999999 := by
  unfold nextCandidate Config.maxTicket; split <;> omega

/-- The first 999,999 candidates from any counter on are distinct: they are consecutive, wrapping from 999,999 to 1. -/
theorem nextCandidate_iterate (counter n : Nat) :
    nextCandidate^[n + 1] counter = (nextCandidate counter - 1 + n) % 999999 + 1 := by
  induction n with
  | zero =>
    have := nextCandidate_range counter
    rw [Nat.add_zero, Nat.mod_eq_of_lt (by omega)]
    show nextCandidate counter = _
    omega
  | succ n ih =>
    rw [Function.iterate_succ_apply', ih]
    unfold nextCandidate Config.maxTicket
    split <;> split <;> omega

/-- The ticket ACCEPT issues is in range, and no live record carries it: more candidates are tried than records are live. -/
theorem nextTicket_spec {s : State} (hlen : s.ct.records.length < 1024) :
    1 ≤ s.nextTicket ∧ s.nextTicket ≤ 999999 ∧ ∀ q ∈ s.ct.records, q.ticket ≠ s.nextTicket := by
  rcases issueTicket_spec s.ct.records (s.ct.records.length + 1) s.ct.counter with ⟨n, _, heq, hfresh⟩ | hall
  · have hrange := nextCandidate_range (nextCandidate^[n] s.ct.counter)
    rw [← Function.iterate_succ_apply' nextCandidate n, ← heq] at hrange
    exact ⟨hrange.1, hrange.2, hfresh⟩
  · exfalso
    set tickets := (List.range (s.ct.records.length + 1)).map fun n => nextCandidate^[n + 1] s.ct.counter
    have hnodup : tickets.Nodup := by
      refine List.Nodup.map_on (fun m hm n hn he => ?_) List.nodup_range
      rw [List.mem_range] at hm hn
      simp only [nextCandidate_iterate] at he
      omega
    have hsub : tickets ⊆ s.ct.records.map Record.ticket := by
      intro x hx
      obtain ⟨n, hn, rfl⟩ := List.mem_map.mp hx
      obtain ⟨r, hr, hrt⟩ := hall n (List.mem_range.mp hn)
      exact List.mem_map.mpr ⟨r, hr, hrt⟩
    have hcount := (List.subperm_of_subset hnodup hsub).length_le
    simp [tickets] at hcount

theorem tableSound_acceptCar {s : State} (h : TableSound s) (hlen : s.ct.records.length < 1024) (f : Arrival)
    (hook : Nat) (found : Option (StallId × Bool)) (sender : Option Nat) :
    TableSound (s.acceptCar f hook found sender) := by
  have hadded : TableSound ((s.takeArrival f.lane).addRecord (s.newRecord f hook found.isSome sender)) := by
    have hct : (s.takeArrival f.lane).ct = s.ct := by unfold State.takeArrival; split <;> simp
    refine tableSound_addRecord ?_ _ (nextSlot_spec h hlen).1 ?_ ?_
    · simpa only [TableSound, hct] using h
    · rw [hct]; exact (nextSlot_spec h hlen).2.1
    · rw [hct]; exact (nextTicket_spec hlen).2.2
  have hkeys : (s.acceptCar f hook found sender).ct.keys =
      ((s.takeArrival f.lane).addRecord (s.newRecord f hook found.isSome sender)).ct.keys := by
    unfold State.acceptCar
    dsimp only
    split <;> simp <;> rfl
  rw [tableSound_iff_keysSound] at hadded ⊢
  rwa [hkeys]

end Sys2Proof.Machine
end

section
/-! Every command keeps the table (O53): first the ports and the events in general, then the commands, each by the operation
that is its effect. -/

namespace Sys2Proof.Machine

open Sys2Proof.Safety

/-! ### Plans, ports and events -/

/-- The state an outcome answers, if any, has a sound table. -/
def TableKept (o : Host.Outcome State Fault Refusal) : Prop := ∀ t, o = .next t → TableSound t

/-- The plan's effect keeps the table of a state whose records are those of `s`. -/
def Plan.KeepsTable (p : Plan) (s : State) : Prop := ∀ q, q.ct = s.ct → TableSound q → TableSound (p.effect q)

variable {s : State}

theorem tableSound_of_keys {q : State} (h : TableSound s) (hkeys : q.ct.keys = s.ct.keys) : TableSound q := by
  rw [tableSound_iff_keysSound] at h ⊢; rwa [hkeys]

theorem tableKept_next {t : State} (h : TableSound t) : TableKept (.next t) := by
  intro q hq; cases hq; exact h

theorem keepsTable_of_keys {p : Plan} (h : ∀ q, (p.effect q).ct.keys = q.ct.keys) : p.KeepsTable s :=
  fun q _ hq => tableSound_of_keys hq (h q)

@[simp] theorem keepsTable_refuse (a : Answer) : (refuse a).KeepsTable s := fun _ _ hq => hq

@[simp] theorem keepsTable_refuseWith (blank : List Value) (a : Answer) : (refuseWith blank a).KeepsTable s :=
  fun _ _ hq => hq

@[simp] theorem keepsTable_report (fields : List Value) : (report fields).KeepsTable s := fun _ _ hq => hq

@[simp] theorem keepsTable_done_keys (f : State → State) (h : ∀ q, (f q).ct.keys = q.ct.keys) :
    (done f).KeepsTable s := keepsTable_of_keys h

@[simp] theorem keepsTable_ite (c : Prop) [Decidable c] (p q : Plan) :
    (if c then p else q).KeepsTable s ↔ (c → p.KeepsTable s) ∧ (¬c → q.KeepsTable s) := by
  split <;> simp_all

theorem keepsTable_ranged (lo hi v : Nat) (f : State → State) (h : ∀ q, (f q).ct.keys = q.ct.keys) :
    (ranged lo hi v f).KeepsTable s := by
  simp [ranged, h]

theorem keepsTable_layoutCommand {p : Plan} (h : p.KeepsTable s) : (s.layoutCommand p).KeepsTable s := by
  simp [State.layoutCommand, h]

theorem keepsTable_onZone {p : Plan} (z : Nat) (h : p.KeepsTable s) : (s.onZone z p).KeepsTable s := by
  simp [State.onZone, h]

theorem keepsTable_onStall {own : Stall → Plan} (z i : Nat) (h : ∀ st, (own st).KeepsTable s) :
    (s.onStall z i own).KeepsTable s := by
  unfold State.onStall; split
  · simp
  · exact h _

theorem keepsTable_onBay {own : Bay → Plan} (b : Nat) (h : ∀ x, (own x).KeepsTable s) :
    (s.onBay b own).KeepsTable s := by
  simp [State.onBay, h]

theorem keepsTable_deskRecord {own : Record → Plan} (t e : Nat) (ok : Bool) (h : ∀ r, (own r).KeepsTable s) :
    (s.deskRecord t e ok own).KeepsTable s := by
  unfold State.deskRecord; repeat' split
  all_goals simp [h]

theorem keepsTable_boundSender {own : Nat → Plan} (hs : Handset) (blank : List Value)
    (h : ∀ a, (own a).KeepsTable s) : (s.boundSender hs blank own).KeepsTable s := by
  unfold State.boundSender; split <;> simp [h]

theorem keepsTable_fromSender {own : Nat → Plan} (hs : Handset) (blank : List Value)
    (h : ∀ a, (own a).KeepsTable s) : (s.fromSender hs blank own).KeepsTable s :=
  keepsTable_boundSender hs blank fun a => by simp [h]

theorem keepsTable_handsetRecord {own : Record → Plan} (t : Nat) (ok : Bool) (blank : List Value)
    (h : ∀ r, (own r).KeepsTable s) : (s.handsetRecord t ok blank own).KeepsTable s := by
  unfold State.handsetRecord; repeat' split
  all_goals simp [h]

theorem keepsTable_actingOnly {p : Plan} (a : Nat) (r : Record) (h : p.KeepsTable s) :
    (s.actingOnly a r p).KeepsTable s := by
  simp [State.actingOnly, h]

theorem tableKept_deskCommand {plan : State → Plan} (req code : Nat) (h : TableSound s) (hp : (plan s).KeepsTable s) :
    TableKept (deskCommand req code plan s) := by
  refine tableKept_next ?_
  split
  · exact tableSound_of_keys (hp s.begin rfl h) (keys_finish ((plan s).effect s.begin))
  · exact h

theorem tableKept_handsetMessage {plan : State → Plan} (hs : Handset) (kind : Nat) (ticket : Option Nat)
    (h : TableSound s) (hp : (plan s).KeepsTable s) : TableKept (handsetMessage hs kind ticket plan s) := by
  refine tableKept_next ?_
  split
  · set q := s.begin.sendResult hs kind (plan s).answer (ticket <|> (plan s).issued) (plan s).fields
    have hq : q.ct = s.ct := by simp [q, State.sendResult]
    exact tableSound_of_keys (hp q hq (tableSound_of_keys h (congrArg Custody.keys hq))) (keys_finish _)
  · exact h

theorem tableKept_handsetTicket {own : State → Nat → Record → Plan} (hs : Handset) (kind t : Nat) (h : TableSound s)
    (hp : ∀ a r, (own s a r).KeepsTable s) : TableKept (handsetTicket hs kind t own s) :=
  tableKept_handsetMessage hs kind (some t) h
    (keepsTable_fromSender hs [] fun a => keepsTable_handsetRecord t true [] fun r => hp a r)

theorem tableKept_event {occurs : State → Bool} {f : State → State} (h : TableSound s)
    (hf : ∀ q, TableSound q → TableSound (f q)) : TableKept (event occurs f s) := by
  refine tableKept_next ?_
  split
  · exact tableSound_of_keys (hf s.begin h) (keys_finish _)
  · exact h

/-- An event whose changes keep every slot and ticket. -/
theorem tableKept_event_keys {occurs : State → Bool} {f : State → State} (h : TableSound s)
    (hf : ∀ q, (f q).ct.keys = q.ct.keys) : TableKept (event occurs f s) :=
  tableKept_event h fun q hq => tableSound_of_keys hq (hf q)

/-! ### Plans of single commands -/

theorem keepsTable_callPlan (tier : Option Nat) (due : Option Time) (source : Source) (r : Record) :
    (s.callPlan tier due source r).KeepsTable s := by
  unfold State.callPlan; dsimp only; repeat' split
  all_goals simp

theorem keepsTable_cancelPlan (r : Record) : (s.cancelPlan r).KeepsTable s := by
  unfold State.cancelPlan; split <;> simp

theorem keepsTable_retire (t : Nat) : (done fun q => q.retireRecord t).KeepsTable s :=
  fun _ _ hq => tableSound_retireRecord hq t

theorem keepsTable_handoverPlan (r : Record) : (handoverPlan r).KeepsTable s := by
  unfold handoverPlan; split
  · exact keepsTable_retire r.ticket
  · simp

/-- ACCEPT creates its record only while fewer than 1,024 are live (R7). -/
theorem keepsTable_acceptPlan (sender : Option Nat) (fields : Option Arrival)
    (returns : Option (Nat × Nat × Nat) → Option StallId → List Value) :
    (s.acceptPlan sender fields returns).KeepsTable s := by
  unfold State.acceptPlan; dsimp only
  split
  · simp
  split
  · simp
  next f =>
  split
  · simp
  next hroom =>
  split
  · simp
  next hook _ =>
  split
  · simp
  · intro q hq hs
    refine tableSound_acceptCar hs ?_ f hook _ sender
    rw [hq]
    exact Nat.lt_of_not_le hroom

theorem keepsTable_ackPlan (a : Nat) (r : Record) : (s.ackPlan a r).KeepsTable s := by
  unfold State.ackPlan; repeat' split
  all_goals simp

theorem keepsTable_declinePlan (a : Nat) (r : Record) : (s.declinePlan a r).KeepsTable s := by
  unfold State.declinePlan; repeat' split
  all_goals simp

theorem keepsTable_keyAgainPlan (a : Nat) (r : Record) : (s.keyAgainPlan a r).KeepsTable s := by
  unfold State.keyAgainPlan; split <;> simp

theorem keepsTable_reparkPlan (a : Nat) (r : Record) : (s.reparkPlan a r).KeepsTable s := by
  unfold State.reparkPlan; dsimp only; split
  · exact keepsTable_refuseWith _ _
  split
  · exact keepsTable_refuseWith _ _
  split
  · exact keepsTable_refuseWith _ _
  split
  · exact keepsTable_refuseWith _ _
  · exact keepsTable_of_keys fun q => keys_reparkCar q r a _

/-! ### Every command -/

theorem tableKept_execAccept (port : Port) (grade need tier : Nat) (plate : PlateField) (folio : OptWord) (lane : Nat)
    (h : TableSound s) : TableKept (execAccept port grade need tier plate folio lane s) := by
  unfold execAccept
  cases port with
  | desk req =>
    refine tableKept_deskCommand _ _ h ?_
    exact keepsTable_acceptPlan _ _ _
  | handset hs =>
    refine tableKept_handsetMessage _ _ _ h ?_
    exact keepsTable_boundSender _ _ fun a => by simp [keepsTable_acceptPlan]

theorem tableKept_execHandover (port : Port) (t e : Nat)
    (h : TableSound s) : TableKept (execHandover port t e s) := by
  unfold execHandover
  cases port with
  | desk req =>
    refine tableKept_deskCommand _ _ h ?_
    exact keepsTable_deskRecord _ _ _ keepsTable_handoverPlan
  | handset hs => exact tableKept_handsetTicket _ _ _ h fun _ r => keepsTable_handoverPlan r

theorem tableKept_execHold (req t e : Nat) (h : TableSound s) : TableKept (execHold req t e s) := by
  refine tableKept_deskCommand _ _ h (keepsTable_deskRecord _ _ _ fun r => ?_)
  split <;> simp

theorem tableKept_execResolveStored (req t e : Nat)
    (h : TableSound s) : TableKept (execResolveStored req t e s) :=
  tableKept_deskCommand _ _ h (keepsTable_deskRecord _ _ _ fun r => by simp)

theorem tableKept_execResolveMoveTo (req t z i e : Nat)
    (h : TableSound s) : TableKept (execResolveMoveTo req t z i e s) := by
  refine tableKept_deskCommand _ _ h (keepsTable_deskRecord _ _ _ fun r => ?_)
  split
  · simp
  · split <;> simp

theorem tableKept_execResolveWaiting (req t e : Nat)
    (h : TableSound s) : TableKept (execResolveWaiting req t e s) :=
  tableKept_deskCommand _ _ h (keepsTable_deskRecord _ _ _ fun r => by simp)

theorem tableKept_execRetire (req t e : Nat) (h : TableSound s) : TableKept (execRetire req t e s) :=
  tableKept_deskCommand _ _ h (keepsTable_deskRecord _ _ _ fun r => by simp [keepsTable_retire])

theorem tableKept_execGetRecord (req t e : Nat) (h : TableSound s) : TableKept (execGetRecord req t e s) :=
  tableKept_deskCommand _ _ h (keepsTable_deskRecord _ _ _ fun r => by simp)

theorem tableKept_execAmend (req t : Nat) (plate : Option PlateField) (folio : Option OptWord) (e : Nat)
    (h : TableSound s) : TableKept (execAmend req t plate folio e s) :=
  tableKept_deskCommand _ _ h (keepsTable_deskRecord _ _ _ fun r => by simp)

theorem tableKept_execFindPlate (req : Nat) (plate : PlateField) (start : Nat)
    (h : TableSound s) : TableKept (execFindPlate req plate start s) :=
  tableKept_deskCommand _ _ h (by split <;> simp)

theorem tableKept_execFindFolio (req : Nat) (folio : OptWord) (start : Nat)
    (h : TableSound s) : TableKept (execFindFolio req folio start s) :=
  tableKept_deskCommand _ _ h (by split <;> simp)

theorem tableKept_execList (req start filter : Nat)
    (h : TableSound s) : TableKept (execList req start filter s) := by
  refine tableKept_deskCommand _ _ h ?_
  split
  · exact keepsTable_of_keys fun _ => rfl
  · simp

theorem tableKept_execSetParkLimit (req limit : Nat)
    (h : TableSound s) : TableKept (execSetParkLimit req limit s) :=
  tableKept_deskCommand _ _ h (keepsTable_ranged _ _ _ _ fun _ => rfl)

theorem tableKept_execEnableStall (req z i : Nat)
    (h : TableSound s) : TableKept (execEnableStall req z i s) :=
  tableKept_deskCommand _ _ h (keepsTable_onStall _ _ fun st => by simp)

theorem tableKept_execDisableStall (req z i : Nat)
    (h : TableSound s) : TableKept (execDisableStall req z i s) :=
  tableKept_deskCommand _ _ h (keepsTable_onStall _ _ fun st => by simp)

theorem tableKept_execOpenZone (req z : Nat) (h : TableSound s) : TableKept (execOpenZone req z s) :=
  tableKept_deskCommand _ _ h (keepsTable_onZone _ (by simp))

theorem tableKept_execCloseZone (req z : Nat) (h : TableSound s) : TableKept (execCloseZone req z s) :=
  tableKept_deskCommand _ _ h (keepsTable_onZone _ (by simp))

theorem tableKept_execSetZoneFlags (req z night spill : Nat)
    (h : TableSound s) : TableKept (execSetZoneFlags req z night spill s) := by
  refine tableKept_deskCommand _ _ h ?_
  split
  · exact keepsTable_onZone _ (by simp)
  · simp

theorem tableKept_execSetPreference (req tier count : Nat) (zones : List Nat)
    (h : TableSound s) : TableKept (execSetPreference req tier count zones s) :=
  tableKept_deskCommand _ _ h (by split <;> simp)

theorem tableKept_execSetPair (req z : Nat) (h : TableSound s) : TableKept (execSetPair req z s) :=
  tableKept_deskCommand _ _ h (by simp [State.setPaired])

theorem tableKept_execUnpair (req z : Nat) (h : TableSound s) : TableKept (execUnpair req z s) :=
  tableKept_deskCommand _ _ h (by simp [State.setPaired])

theorem tableKept_execSetSlot (req n g : Nat) (h : TableSound s) : TableKept (execSetSlot req n g s) :=
  tableKept_deskCommand _ _ h (by simp)

theorem tableKept_execSetStallSlot (req z i n : Nat)
    (h : TableSound s) : TableKept (execSetStallSlot req z i n s) :=
  tableKept_deskCommand _ _ h (keepsTable_onStall _ _ fun st => by simp)

theorem tableKept_execReadZone (req z : Nat) (h : TableSound s) : TableKept (execReadZone req z s) :=
  tableKept_deskCommand _ _ h (by simp)

theorem tableKept_execReadStall (req z i : Nat) (h : TableSound s) : TableKept (execReadStall req z i s) :=
  tableKept_deskCommand _ _ h (keepsTable_onStall _ _ fun st => by simp)

theorem tableKept_execReadWaitList (req : Nat) (h : TableSound s) : TableKept (execReadWaitList req s) :=
  tableKept_deskCommand _ _ h (by simp)

theorem tableKept_execSetSilenceTime (req v : Nat)
    (h : TableSound s) : TableKept (execSetSilenceTime req v s) :=
  tableKept_deskCommand _ _ h (keepsTable_ranged _ _ _ _ fun _ => rfl)

theorem tableKept_execSetWithdrawal (req z on : Nat)
    (h : TableSound s) : TableKept (execSetWithdrawal req z on s) := by
  refine tableKept_deskCommand _ _ h ?_
  split
  · simp
  · exact keepsTable_onZone _ (by simp)

theorem tableKept_execSetWindowTime (req v : Nat)
    (h : TableSound s) : TableKept (execSetWindowTime req v s) :=
  tableKept_deskCommand _ _ h (keepsTable_ranged _ _ _ _ fun _ => rfl)

theorem tableKept_execSetCustodyLimit (req v : Nat)
    (h : TableSound s) : TableKept (execSetCustodyLimit req v s) :=
  tableKept_deskCommand _ _ h (keepsTable_ranged _ _ _ _ fun _ => rfl)

theorem tableKept_execBeginPanelService (req p : Nat)
    (h : TableSound s) : TableKept (execBeginPanelService req p s) :=
  tableKept_deskCommand _ _ h (by simp)

theorem tableKept_execEndPanelService (req p : Nat)
    (h : TableSound s) : TableKept (execEndPanelService req p s) :=
  tableKept_deskCommand _ _ h (by simp)

theorem tableKept_execReadHook (req k : Nat) (h : TableSound s) : TableKept (execReadHook req k s) :=
  tableKept_deskCommand _ _ h (by rw [keepsTable_ite]; refine ⟨by simp, fun _ => ?_⟩; split <;> simp)

theorem tableKept_execCall (port : Port) (t tier : Nat) (due : OptWord) (e : Nat)
    (h : TableSound s) : TableKept (execCall port t tier due e s) := by
  unfold execCall
  cases port with
  | desk req =>
    refine tableKept_deskCommand _ _ h ?_
    exact keepsTable_deskRecord _ _ _ fun r => keepsTable_callPlan _ _ _ r
  | handset hs =>
    refine tableKept_handsetMessage _ _ _ h ?_
    exact keepsTable_fromSender _ _ fun a => keepsTable_handsetRecord _ _ _ fun r =>
      keepsTable_actingOnly a r (keepsTable_callPlan _ _ _ r)

theorem tableKept_execCancelCall (port : Port) (t e : Nat)
    (h : TableSound s) : TableKept (execCancelCall port t e s) := by
  unfold execCancelCall
  cases port with
  | desk req =>
    refine tableKept_deskCommand _ _ h ?_
    exact keepsTable_deskRecord _ _ _ keepsTable_cancelPlan
  | handset hs =>
    exact tableKept_handsetTicket _ _ _ h fun a r => keepsTable_actingOnly a r (keepsTable_cancelPlan r)

theorem tableKept_execSetLeadTime (req z v : Nat)
    (h : TableSound s) : TableKept (execSetLeadTime req z v s) :=
  tableKept_deskCommand _ _ h (by simp)

theorem tableKept_execReadLeadTimes (req : Nat) (h : TableSound s) : TableKept (execReadLeadTimes req s) :=
  tableKept_deskCommand _ _ h (by simp)

theorem tableKept_execReadQueue (req start : Nat)
    (h : TableSound s) : TableKept (execReadQueue req start s) :=
  tableKept_deskCommand _ _ h (by split <;> simp)

theorem tableKept_execSetAckTime (req v : Nat) (h : TableSound s) : TableKept (execSetAckTime req v s) :=
  tableKept_deskCommand _ _ h (keepsTable_ranged _ _ _ _ fun _ => rfl)

theorem tableKept_execReadRoster (req : Nat) (h : TableSound s) : TableKept (execReadRoster req s) :=
  tableKept_deskCommand _ _ h (by simp)

theorem tableKept_execEnableBay (req b : Nat) (h : TableSound s) : TableKept (execEnableBay req b s) :=
  tableKept_deskCommand _ _ h (keepsTable_onBay _ fun x => by simp [State.setBay])

theorem tableKept_execDisableBay (req b : Nat) (h : TableSound s) : TableKept (execDisableBay req b s) :=
  tableKept_deskCommand _ _ h (keepsTable_onBay _ fun x => by simp [State.setBay])

theorem tableKept_execSetBayFlags (req b night : Nat)
    (h : TableSound s) : TableKept (execSetBayFlags req b night s) := by
  refine tableKept_deskCommand _ _ h ?_
  split
  · simp
  · exact keepsTable_onBay _ fun x => by simp [State.setBay]

theorem tableKept_execSetDwellTime (req v : Nat) (h : TableSound s) : TableKept (execSetDwellTime req v s) :=
  tableKept_deskCommand _ _ h (keepsTable_ranged _ _ _ _ fun _ => rfl)

theorem tableKept_execClearLane (req l : Nat) (h : TableSound s) : TableKept (execClearLane req l s) :=
  tableKept_deskCommand _ _ h (by simp)

theorem tableKept_execReadKerb (req : Nat) (h : TableSound s) : TableKept (execReadKerb req s) :=
  tableKept_deskCommand _ _ h (by simp)

theorem tableKept_execCaptureSite (req : Nat) (site0 site1 : Bool)
    (h : TableSound s) : TableKept (execCaptureSite req site0 site1 s) := by
  refine tableKept_deskCommand _ _ h ?_
  split
  · exact keepsTable_of_keys fun _ => rfl
  · exact keepsTable_of_keys fun _ => rfl

theorem tableKept_execReadStatus (req : Nat) (h : TableSound s) : TableKept (execReadStatus req s) :=
  tableKept_deskCommand _ _ h (by simp)

theorem tableKept_execReadAttention (req : Nat) (h : TableSound s) : TableKept (execReadAttention req s) :=
  tableKept_deskCommand _ _ h (by simp)

theorem tableKept_execClearAttention (req causes : Nat)
    (h : TableSound s) : TableKept (execClearAttention req causes s) :=
  tableKept_deskCommand _ _ h (by simp)

theorem tableKept_execSetAttentionEnables (req enables master : Nat)
    (h : TableSound s) : TableKept (execSetAttentionEnables req enables master s) :=
  tableKept_deskCommand _ _ h (by split <;> simp)

theorem tableKept_execDefineZone (req z count : Nat)
    (h : TableSound s) : TableKept (execDefineZone req z count s) := by
  refine tableKept_deskCommand _ _ h (keepsTable_layoutCommand ?_)
  simp only [keepsTable_ite, keepsTable_refuse, implies_true, true_and]
  intro _
  refine keepsTable_of_keys fun q => ?_
  show (q.defineZone z count).ct.keys = q.ct.keys
  unfold State.defineZone; dsimp only; split <;> simp

theorem tableKept_execDefineFixedStall (req z i attr grade : Nat)
    (h : TableSound s) : TableKept (execDefineFixedStall req z i attr grade s) := by
  refine tableKept_deskCommand _ _ h (keepsTable_layoutCommand ?_)
  split <;> simp

theorem tableKept_execDefinePanel (req p : Nat) (h : TableSound s) : TableKept (execDefinePanel req p s) :=
  tableKept_deskCommand _ _ h (keepsTable_layoutCommand (by simp))

theorem tableKept_execDefineBays (req bays : Nat)
    (h : TableSound s) : TableKept (execDefineBays req bays s) :=
  tableKept_deskCommand _ _ h (keepsTable_layoutCommand (by simp))

theorem tableKept_execFreezeLayout (req : Nat) (h : TableSound s) : TableKept (execFreezeLayout req s) :=
  tableKept_deskCommand _ _ h (by simp)

theorem tableKept_execSetServiceState (req st : Nat)
    (h : TableSound s) : TableKept (execSetServiceState req st s) := by
  refine tableKept_deskCommand _ _ h ?_
  split
  · simp
  · split <;> simp [State.changeService]

theorem tableKept_execClearSite (req confirm : Nat)
    (h : TableSound s) : TableKept (execClearSite req confirm s) :=
  by
  refine tableKept_deskCommand _ _ h ?_
  simp only [keepsTable_ite, keepsTable_refuse, implies_true, true_and]
  exact fun _ _ _ => keepsTable_of_keys fun _ => rfl

theorem tableKept_execSetClock (req v : Nat) (h : TableSound s) : TableKept (execSetClock req v s) :=
  tableKept_deskCommand _ _ h (by simp)

theorem tableKept_execSetChainMask (req zones : Nat)
    (h : TableSound s) : TableKept (execSetChainMask req zones s) :=
  tableKept_deskCommand _ _ h (by simp [State.permitsChanged])

theorem tableKept_execRestart (req confirm : Nat)
    (h : TableSound s) : TableKept (execRestart req confirm s) := by
  unfold execRestart
  split
  · refine tableKept_next ?_
    split
    · exact tableSound_of_keys (s := s) h (keys_warmRestart s.begin)
    · exact h
  · exact tableKept_deskCommand _ _ h (by simp)

theorem tableKept_execDeskBadFrame (bytes : List Byte)
    (h : TableSound s) : TableKept (execDeskBadFrame bytes s) := by
  refine tableKept_next ?_
  split
  · exact h
  · exact h

theorem tableKept_execDeskUnknownCommand (req code : Nat)
    (h : TableSound s) : TableKept (execDeskUnknownCommand req code s) := by
  unfold execDeskUnknownCommand
  split
  · exact tableKept_next h
  · exact tableKept_deskCommand _ _ h (by simp)

theorem tableKept_execDeskIgnoredTransaction (bytes : List Byte)
    (h : TableSound s) : TableKept (execDeskIgnoredTransaction bytes s) :=
  tableKept_next h

theorem tableKept_execSignOn (hs : Handset) (n : Nat) (h : TableSound s) : TableKept (execSignOn hs n s) := by
  refine tableKept_handsetMessage _ _ _ h ?_
  rw [keepsTable_ite]
  refine ⟨by simp, fun _ => ?_⟩
  unfold State.signOnPlan
  simp only [keepsTable_ite, keepsTable_refuse, implies_true, true_and]
  exact fun _ _ _ => keepsTable_of_keys fun q => by simp

theorem tableKept_execSignOff (hs : Handset) (h : TableSound s) : TableKept (execSignOff hs s) := by
  refine tableKept_handsetMessage _ _ _ h (keepsTable_fromSender _ _ fun a => ?_)
  split <;> simp [State.signOff]

theorem tableKept_execTakeBreak (hs : Handset) (h : TableSound s) : TableKept (execTakeBreak hs s) := by
  refine tableKept_handsetMessage _ _ _ h (keepsTable_fromSender _ _ fun a => ?_)
  split <;> simp

theorem tableKept_execReady (hs : Handset) (h : TableSound s) : TableKept (execReady hs s) := by
  refine tableKept_handsetMessage _ _ _ h (keepsTable_fromSender _ _ fun a => ?_)
  split <;> simp

theorem tableKept_execParked (hs : Handset) (t : Nat) (h : TableSound s) : TableKept (execParked hs t s) :=
  tableKept_handsetTicket _ _ _ h fun a r => keepsTable_actingOnly a r (by simp)

theorem tableKept_execAck (hs : Handset) (t : Nat) (h : TableSound s) : TableKept (execAck hs t s) :=
  tableKept_handsetTicket _ _ _ h keepsTable_ackPlan

theorem tableKept_execDecline (hs : Handset) (t : Nat) (h : TableSound s) : TableKept (execDecline hs t s) :=
  tableKept_handsetTicket _ _ _ h keepsTable_declinePlan

theorem tableKept_execAbandon (hs : Handset) (t : Nat) (h : TableSound s) : TableKept (execAbandon hs t s) :=
  tableKept_handsetTicket _ _ _ h fun a r => keepsTable_actingOnly a r (by simp)

theorem tableKept_execKeyAgain (hs : Handset) (t : Nat)
    (h : TableSound s) : TableKept (execKeyAgain hs t s) :=
  tableKept_handsetTicket _ _ _ h keepsTable_keyAgainPlan

theorem tableKept_execStaged (hs : Handset) (t b : Nat)
    (h : TableSound s) : TableKept (execStaged hs t b s) :=
  tableKept_handsetMessage _ _ _ h (keepsTable_fromSender _ _ fun a => keepsTable_handsetRecord _ _ _ fun r =>
    keepsTable_actingOnly a r (by simp))

theorem tableKept_execRepark (hs : Handset) (t : Nat) (h : TableSound s) : TableKept (execRepark hs t s) :=
  tableKept_handsetMessage _ _ _ h (keepsTable_fromSender _ _ fun a => keepsTable_handsetRecord _ _ _ fun r =>
    keepsTable_reparkPlan a r)

theorem tableKept_execHandsetFrameDropped (bytes : List Byte)
    (h : TableSound s) : TableKept (execHandsetFrameDropped bytes s) :=
  tableKept_next h

theorem tableKept_execHandsetUnknownKind (hs : Handset) (kind : Nat)
    (h : TableSound s) : TableKept (execHandsetUnknownKind hs kind s) := by
  unfold execHandsetUnknownKind
  split
  · exact tableKept_next h
  · exact tableKept_handsetMessage _ _ _ h (by simp)

theorem tableKept_execHandsetFrameSent (h : TableSound s) : TableKept (execHandsetFrameSent s) :=
  tableKept_event_keys h fun _ => rfl

theorem tableKept_execZoneReport (z : Nat) (occupied : BitVec 96) (check : Nat)
    (h : TableSound s) : TableKept (execZoneReport z occupied check s) := by
  refine tableKept_next ?_
  split
  · exact tableSound_of_keys (s := s) h (by simp)
  · exact h

theorem tableKept_execSilenceTimerExpiry (z : Nat)
    (h : TableSound s) : TableKept (execSilenceTimerExpiry z s) :=
  tableKept_event_keys h fun q => by simp [State.silence]

theorem tableKept_execHookLoaded (p i tag : Nat) (h : TableSound s) : TableKept (execHookLoaded p i tag s) :=
  tableKept_event_keys h fun q => by simp

theorem tableKept_execHookEmptied (p i latched : Nat)
    (h : TableSound s) : TableKept (execHookEmptied p i latched s) :=
  tableKept_event_keys h fun q => by simp

theorem tableKept_execLatchDone (p i latch : Nat)
    (h : TableSound s) : TableKept (execLatchDone p i latch s) :=
  tableKept_event_keys h fun q => by simp

theorem tableKept_execCabinetMessageDropped (bytes : List Byte)
    (h : TableSound s) : TableKept (execCabinetMessageDropped bytes s) :=
  tableKept_next h

theorem tableKept_execLatchRepeat (k : Nat) (h : TableSound s) : TableKept (execLatchRepeat k s) :=
  tableKept_event_keys h fun q => by simp

theorem tableKept_execWindowTimerExpiry (k : Nat)
    (h : TableSound s) : TableKept (execWindowTimerExpiry k s) :=
  tableKept_event_keys h fun q => by simp

theorem tableKept_execKeyWarningPoint (k : Nat) (h : TableSound s) : TableKept (execKeyWarningPoint k s) :=
  tableKept_event_keys h fun q => by simp

theorem tableKept_execCustodyLimitReached (k : Nat)
    (h : TableSound s) : TableKept (execCustodyLimitReached k s) :=
  tableKept_event_keys h fun q => by simp

theorem tableKept_execParkLimitReached (t : Nat) (h : TableSound s) : TableKept (execParkLimitReached t s) :=
  tableKept_event_keys h fun q => by simp

theorem tableKept_execAckTimerExpiry (a : Nat) (h : TableSound s) : TableKept (execAckTimerExpiry a s) :=
  tableKept_event_keys h fun q => by simp

theorem tableKept_execDwellTimerExpiry (b : Nat) (h : TableSound s) : TableKept (execDwellTimerExpiry b s) :=
  tableKept_event_keys h fun q => by simp

theorem tableKept_execDriveOffTimerExpiry (b : Nat)
    (h : TableSound s) : TableKept (execDriveOffTimerExpiry b s) := by
  refine tableKept_event h fun q hq => ?_
  show TableSound (q.driveOff b)
  unfold State.driveOff; dsimp only
  split
  · exact hq
  · split
    · exact tableSound_retireRecord (s := (q.modBay b _).raise .driveOff _) hq _
    · exact hq

theorem tableKept_execRecoveryTimerExpiry (h : TableSound s) : TableKept (execRecoveryTimerExpiry s) :=
  tableKept_event_keys h fun _ => rfl

theorem tableKept_execElapsedSecond (h : TableSound s) : TableKept (execElapsedSecond s) := by
  refine tableKept_next ?_
  split
  · exact tableSound_of_keys (s := s) h (by simp)
  · split
    · exact h
    · exact h

theorem tableKept_execLaneLoopChange (l : Nat) (level : Bool)
    (h : TableSound s) : TableKept (execLaneLoopChange l level s) := by
  unfold execLaneLoopChange
  exact tableKept_event_keys h fun _ => rfl

theorem tableKept_execBayLoopChange (b : Nat) (level : Bool)
    (h : TableSound s) : TableKept (execBayLoopChange b level s) := by
  unfold execBayLoopChange
  exact tableKept_event_keys h fun _ => rfl

theorem tableKept_execChainLoad (h : TableSound s) : TableKept (execChainLoad s) :=
  tableKept_event_keys h fun q => by simp [State.loadPermits, State.permitsChanged]

theorem tableKept_execPowerOn (backup : Bool) : TableKept (execPowerOn backup s) :=
  tableKept_next ⟨.nil, by simp [State.applyPower, State.poweredOn, Custody.powerOn], .nil⟩

theorem tableKept_execMainSupplyLost (h : TableSound s) : TableKept (execMainSupplyLost s) :=
  tableKept_next h

theorem tableKept_execMainSupplyReturn (h : TableSound s) : TableKept (execMainSupplyReturn s) := by
  refine tableKept_next ?_
  split
  · exact ⟨.nil, by simp [State.applyPower, State.poweredOn, Custody.powerOn], .nil⟩
  · dsimp only; split
    · exact h
    · exact tableSound_of_keys (s := s) h (keys_warmRestart _)

theorem tableKept_execResetNAsserted (h : TableSound s) : TableKept (execResetNAsserted s) :=
  tableKept_next h

theorem tableKept_execResetNReleased (h : TableSound s) : TableKept (execResetNReleased s) := by
  refine tableKept_next ?_
  split
  · exact tableSound_of_keys (s := s) h (keys_warmRestart _)
  · exact h

theorem tableKept_execBackupSupplyLost (h : TableSound s) : TableKept (execBackupSupplyLost s) :=
  tableKept_next h

theorem tableKept_execChainClkRisingEdge (level : Bool)
    (h : TableSound s) : TableKept (execChainClkRisingEdge level s) :=
  tableKept_event_keys h fun _ => rfl

theorem exec_tableKept (c : Instr) (h : TableSound s) : TableKept (exec c s) := by
  cases c with
  | accept port grade need tier plate folio lane => exact tableKept_execAccept _ _ _ _ _ _ _ h
  | handover port t e => exact tableKept_execHandover _ _ _ h
  | hold req t e => exact tableKept_execHold _ _ _ h
  | resolveStored req t e => exact tableKept_execResolveStored _ _ _ h
  | resolveMoveTo req t z i e => exact tableKept_execResolveMoveTo _ _ _ _ _ h
  | resolveWaiting req t e => exact tableKept_execResolveWaiting _ _ _ h
  | retire req t e => exact tableKept_execRetire _ _ _ h
  | getRecord req t e => exact tableKept_execGetRecord _ _ _ h
  | amend req t plate folio e => exact tableKept_execAmend _ _ _ _ _ h
  | findPlate req plate start => exact tableKept_execFindPlate _ _ _ h
  | findFolio req folio start => exact tableKept_execFindFolio _ _ _ h
  | list req start filter => exact tableKept_execList _ _ _ h
  | setParkLimit req limit => exact tableKept_execSetParkLimit _ _ h
  | enableStall req z i => exact tableKept_execEnableStall _ _ _ h
  | disableStall req z i => exact tableKept_execDisableStall _ _ _ h
  | openZone req z => exact tableKept_execOpenZone _ _ h
  | closeZone req z => exact tableKept_execCloseZone _ _ h
  | setZoneFlags req z night spill => exact tableKept_execSetZoneFlags _ _ _ _ h
  | setPreference req tier count zones => exact tableKept_execSetPreference _ _ _ _ h
  | setPair req z => exact tableKept_execSetPair _ _ h
  | unpair req z => exact tableKept_execUnpair _ _ h
  | setSlot req n g => exact tableKept_execSetSlot _ _ _ h
  | setStallSlot req z i n => exact tableKept_execSetStallSlot _ _ _ _ h
  | readZone req z => exact tableKept_execReadZone _ _ h
  | readStall req z i => exact tableKept_execReadStall _ _ _ h
  | readWaitList req => exact tableKept_execReadWaitList _ h
  | setSilenceTime req v => exact tableKept_execSetSilenceTime _ _ h
  | setWithdrawal req z on => exact tableKept_execSetWithdrawal _ _ _ h
  | setWindowTime req v => exact tableKept_execSetWindowTime _ _ h
  | setCustodyLimit req v => exact tableKept_execSetCustodyLimit _ _ h
  | beginPanelService req p => exact tableKept_execBeginPanelService _ _ h
  | endPanelService req p => exact tableKept_execEndPanelService _ _ h
  | readHook req k => exact tableKept_execReadHook _ _ h
  | call port t tier due e => exact tableKept_execCall _ _ _ _ _ h
  | cancelCall port t e => exact tableKept_execCancelCall _ _ _ h
  | setLeadTime req z v => exact tableKept_execSetLeadTime _ _ _ h
  | readLeadTimes req => exact tableKept_execReadLeadTimes _ h
  | readQueue req start => exact tableKept_execReadQueue _ _ h
  | setAckTime req v => exact tableKept_execSetAckTime _ _ h
  | readRoster req => exact tableKept_execReadRoster _ h
  | enableBay req b => exact tableKept_execEnableBay _ _ h
  | disableBay req b => exact tableKept_execDisableBay _ _ h
  | setBayFlags req b night => exact tableKept_execSetBayFlags _ _ _ h
  | setDwellTime req v => exact tableKept_execSetDwellTime _ _ h
  | clearLane req l => exact tableKept_execClearLane _ _ h
  | readKerb req => exact tableKept_execReadKerb _ h
  | captureSite req site0 site1 => exact tableKept_execCaptureSite _ _ _ h
  | readStatus req => exact tableKept_execReadStatus _ h
  | readAttention req => exact tableKept_execReadAttention _ h
  | clearAttention req causes => exact tableKept_execClearAttention _ _ h
  | setAttentionEnables req enables master => exact tableKept_execSetAttentionEnables _ _ _ h
  | defineZone req z count => exact tableKept_execDefineZone _ _ _ h
  | defineFixedStall req z i attr grade => exact tableKept_execDefineFixedStall _ _ _ _ _ h
  | definePanel req p => exact tableKept_execDefinePanel _ _ h
  | defineBays req bays => exact tableKept_execDefineBays _ _ h
  | freezeLayout req => exact tableKept_execFreezeLayout _ h
  | setServiceState req st => exact tableKept_execSetServiceState _ _ h
  | clearSite req confirm => exact tableKept_execClearSite _ _ h
  | setClock req v => exact tableKept_execSetClock _ _ h
  | setChainMask req zones => exact tableKept_execSetChainMask _ _ h
  | restart req confirm => exact tableKept_execRestart _ _ h
  | deskBadFrame bytes => exact tableKept_execDeskBadFrame _ h
  | deskUnknownCommand req code => exact tableKept_execDeskUnknownCommand _ _ h
  | deskIgnoredTransaction bytes => exact tableKept_execDeskIgnoredTransaction bytes h
  | signOn hs n => exact tableKept_execSignOn _ _ h
  | signOff hs => exact tableKept_execSignOff _ h
  | takeBreak hs => exact tableKept_execTakeBreak _ h
  | ready hs => exact tableKept_execReady _ h
  | parked hs t => exact tableKept_execParked _ _ h
  | ack hs t => exact tableKept_execAck _ _ h
  | decline hs t => exact tableKept_execDecline _ _ h
  | abandon hs t => exact tableKept_execAbandon _ _ h
  | keyAgain hs t => exact tableKept_execKeyAgain _ _ h
  | staged hs t b => exact tableKept_execStaged _ _ _ h
  | repark hs t => exact tableKept_execRepark _ _ h
  | handsetFrameDropped bytes => exact tableKept_execHandsetFrameDropped bytes h
  | handsetUnknownKind hs kind => exact tableKept_execHandsetUnknownKind _ _ h
  | handsetFrameSent => exact tableKept_execHandsetFrameSent h
  | zoneReport z occupied check => exact tableKept_execZoneReport _ _ _ h
  | silenceTimerExpiry z => exact tableKept_execSilenceTimerExpiry _ h
  | hookLoaded p i tag => exact tableKept_execHookLoaded _ _ _ h
  | hookEmptied p i latched => exact tableKept_execHookEmptied _ _ _ h
  | latchDone p i latch => exact tableKept_execLatchDone _ _ _ h
  | cabinetMessageDropped bytes => exact tableKept_execCabinetMessageDropped bytes h
  | latchRepeat k => exact tableKept_execLatchRepeat _ h
  | windowTimerExpiry k => exact tableKept_execWindowTimerExpiry _ h
  | keyWarningPoint k => exact tableKept_execKeyWarningPoint _ h
  | custodyLimitReached k => exact tableKept_execCustodyLimitReached _ h
  | parkLimitReached t => exact tableKept_execParkLimitReached _ h
  | ackTimerExpiry a => exact tableKept_execAckTimerExpiry _ h
  | dwellTimerExpiry b => exact tableKept_execDwellTimerExpiry _ h
  | driveOffTimerExpiry b => exact tableKept_execDriveOffTimerExpiry _ h
  | recoveryTimerExpiry => exact tableKept_execRecoveryTimerExpiry h
  | elapsedSecond => exact tableKept_execElapsedSecond h
  | laneLoopChange l level => exact tableKept_execLaneLoopChange _ _ h
  | bayLoopChange b level => exact tableKept_execBayLoopChange _ _ h
  | chainLoad => exact tableKept_execChainLoad h
  | powerOn backup => exact tableKept_execPowerOn _
  | mainSupplyLost => exact tableKept_execMainSupplyLost h
  | mainSupplyReturn => exact tableKept_execMainSupplyReturn h
  | resetNAsserted => exact tableKept_execResetNAsserted h
  | resetNReleased => exact tableKept_execResetNReleased h
  | backupSupplyLost => exact tableKept_execBackupSupplyLost h
  | chainClkRisingEdge level => exact tableKept_execChainClkRisingEdge _ h

/-- Settles O53: the step runs the front command, and every command keeps the table. -/
theorem everyStepKeepsTheTable : Obligations.EveryStepKeepsTheTable := by
  intro s t h hstep
  unfold step at hstep
  split at hstep
  · cases hstep; exact h
  · next c rest _ => exact exec_tableKept (s := { s with pending := rest }) c h t hstep

end Sys2Proof.Machine
end

section
/-! SUPPORT. The ports: a command whose plan is known is answered as the plan says, and the checks that both ports make before
a command's own give their refusals in order (R26, R127, R148, R157, R159). -/

namespace Sys2Proof.Machine

open Sys2Proof.Safety

variable {s : State} {c : Instr} {plan : State → Plan} {p : Plan} {req code kind : Nat} {hs : Handset}

/-! ### The end of an event -/

/-- An event that has called for nothing at its end ends with what it left. -/
theorem finish_of_clear {q : State} (h : q.due = .clear) : q.finish = q := by
  simp only [State.finish, State.serveStep, State.lookStep, h, Due.clear, Bool.false_eq_true, if_false]
  rw [← Due.clear, ← h]

theorem finish_begin (s : State) : s.begin.finish = s.begin := finish_of_clear rfl

/-! ### A plan is answered -/

theorem deskAnswers_of_plan (hh : deskHeader c = some (req, code)) (he : exec c s = deskCommand req code plan s)
    (hr : s.running = true) (hp : plan s = p) : DeskAnswers c s (p.effect s.begin) p.answer p.fields :=
  ⟨_, hh, by rw [he, deskCommand, hr, hp]; rfl⟩

theorem deskReports_of_plan (hh : deskHeader c = some (req, code)) (he : exec c s = deskCommand req code plan s)
    (hr : s.running = true) (hp : plan s = p) (hid : p.effect = id) : DeskReports c s p.answer p.fields :=
  ⟨_, hh, by rw [he, deskCommand, hr, hp, hid, id, finish_begin]; rfl⟩

theorem deskLeaves_of_plan (hh : deskHeader c = some (req, code)) (he : exec c s = deskCommand req code plan s)
    (hr : s.running = true) (hp : plan s = p) (hdue : (p.effect s.begin).due = .clear) :
    DeskLeaves c s (p.effect s.begin) p.answer p.fields :=
  ⟨_, hh, by rw [he, deskCommand, hr, hp, finish_of_clear hdue]; rfl⟩

theorem deskReports_refuse {a : Answer} (hh : deskHeader c = some (req, code))
    (he : exec c s = deskCommand req code plan s) (hr : s.running = true) (hp : plan s = refuse a) :
    DeskReports c s a [] := deskReports_of_plan hh he hr hp rfl

theorem handsetAnswers_of_plan {ticket : Option Nat} (hh : handsetHeader c = some (hs, kind))
    (he : exec c s = handsetMessage hs kind ticket plan s) (hr : s.running = true) (ha : s.siteAdmits hs = true)
    (hp : plan s = p) : HandsetAnswers c s p.answer (ticket <|> p.issued) p.fields p.effect :=
  ⟨_, _, hh, by rw [he, handsetMessage, hr, ha, hp]; rfl⟩

/-! ### The checks before a desk command's own (R26) -/

theorem ticketOk_iff (t : Nat) : ticketOk t = true ↔ 1 ≤ t ∧ t ≤ 999999 := by
  simp only [ticketOk, Bool.and_eq_true, decide_eq_true_eq]
  exact Iff.rfl

theorem recordStateOf_code (st : RecordState) : recordStateOf st.code = some st := by cases st <;> rfl

/-- A state code is one of 0 to 7, each the code of one state. -/
theorem recordStateOf_of_le (n : Nat) (h : n ≤ 7) : ∃ st : RecordState, st.code = n ∧ recordStateOf n = some st := by
  interval_cases n
  exacts [⟨.inbound, rfl, rfl⟩, ⟨.waiting, rfl, rfl⟩, ⟨.granted, rfl, rfl⟩, ⟨.stored, rfl, rfl⟩, ⟨.called, rfl, rfl⟩,
    ⟨.fetching, rfl, rfl⟩, ⟨.staged, rfl, rfl⟩, ⟨.suspended, rfl, rfl⟩]

theorem recordStateOf_of_gt (n : Nat) (h : 7 < n) : recordStateOf n = none := by
  obtain ⟨m, rfl⟩ : ∃ m, n = m + 8 := ⟨n - 8, by omega⟩
  rfl

theorem optStateOf_of_le (n : Nat) (h : n ≤ 7) : ∃ st : RecordState, st.code = n ∧ optStateOf n = some (some st) := by
  obtain ⟨st, hcode, hst⟩ := recordStateOf_of_le n h
  exact ⟨st, hcode, by simp [optStateOf, hst, show n ≠ 255 by omega]⟩

theorem optStateOf_of_gt (n : Nat) (h : 7 < n) (hn : n ≠ 255) : optStateOf n = none := by
  simp [optStateOf, hn, recordStateOf_of_gt n h]

theorem RecordState.code_lt (st : RecordState) : st.code < 255 := by cases st <;> decide

/-- The fields are judged first. -/
theorem deskRecord_badField (t e : Nat) (ok : Bool) (own : Record → Plan)
    (h : t = 0 ∨ 999999 < t ∨ ok = false ∨ (7 < e ∧ e ≠ 255)) : s.deskRecord t e ok own = refuse .badField := by
  unfold State.deskRecord
  split
  · rfl
  next want hwant =>
    have hbad : (!ticketOk t || !ok) = true := by
      by_contra hgood
      simp only [Bool.or_eq_true, Bool.not_eq_true', not_or, Bool.not_eq_false] at hgood
      have ht := (ticketOk_iff t).mp hgood.1
      rcases h with rfl | h | rfl | ⟨hgt, hne⟩
      · omega
      · omega
      · simp at hgood
      · simp [optStateOf_of_gt e hgt hne] at hwant
    rw [if_pos hbad]

/-- With fields that hold values, the ticket decides. -/
theorem deskRecord_notFound (t e : Nat) (ok : Bool) (own : Record → Plan) (ht : 1 ≤ t ∧ t ≤ 999999) (hok : ok = true)
    (he : e ≤ 7 ∨ e = 255) (hnone : s.record? t = none) : s.deskRecord t e ok own = refuse .notFound := by
  obtain ⟨want, hwant⟩ : ∃ want, optStateOf e = some want := by
    rcases he with he | rfl
    · obtain ⟨st, -, hst⟩ := optStateOf_of_le e he
      exact ⟨_, hst⟩
    · exact ⟨none, rfl⟩
  simp [State.deskRecord, hwant, (ticketOk_iff t).mpr ht, hok, hnone]

/-- Then the expected state. -/
theorem deskRecord_notAsExpected (t e : Nat) (ok : Bool) (own : Record → Plan) (r : Record) (ht : 1 ≤ t ∧ t ≤ 999999)
    (hok : ok = true) (he : e ≤ 7) (hr : s.record? t = some r) (hne : e ≠ r.state.code) :
    s.deskRecord t e ok own = refuse .notAsExpected := by
  obtain ⟨st, hcode, hst⟩ := optStateOf_of_le e he
  have hdiff : st ≠ r.state := by rintro rfl; exact hne hcode.symm
  simp [State.deskRecord, hst, (ticketOk_iff t).mpr ht, hok, hr, hdiff]

/-- A command that names the record as it stands comes to its own checks. -/
theorem deskRecord_named {t e : Nat} {r : Record} (h : DeskNames s t e r) (own : Record → Plan) :
    s.deskRecord t e true own = own r := by
  obtain ⟨-, ht1, ht2, hr, he⟩ := h
  have ht : ticketOk t = true := (ticketOk_iff t).mpr ⟨ht1, ht2⟩
  rcases he with rfl | rfl
  · simp [State.deskRecord, optStateOf, ht, hr]
  · simp [State.deskRecord, optStateOf, recordStateOf_code, ht, hr, (RecordState.code_lt r.state).ne]

section

variable {t e : Nat} {r : Record} {ok : Bool} {own : State → Record → Plan}

/-- A desk command that names the record is ruled by its own plan. -/
theorem deskAnswers_named (h : DeskNames s t e r) (hok : ok = true) (hh : deskHeader c = some (req, code))
    (he : exec c s = deskCommand req code (fun s => s.deskRecord t e ok (own s)) s) (hp : own s r = p) :
    DeskAnswers c s (p.effect s.begin) p.answer p.fields :=
  deskAnswers_of_plan hh he h.1 (by rw [hok, deskRecord_named h, hp])

theorem deskReports_named {a : Answer} (h : DeskNames s t e r) (hok : ok = true)
    (hh : deskHeader c = some (req, code))
    (he : exec c s = deskCommand req code (fun s => s.deskRecord t e ok (own s)) s) (hp : own s r = refuse a) :
    DeskReports c s a [] :=
  deskReports_refuse hh he h.1 (by rw [hok, deskRecord_named h, hp])

end

/-! ### The checks before a handset message's own (R127, R148) -/

theorem fromSender_heard {a : Nat} (h : HeardFrom s hs a) (blank : List Value) (own : Nat → Plan) :
    s.fromSender hs blank own = own a := by
  obtain ⟨-, -, hsite, hbound⟩ := h
  simp [State.fromSender, State.boundSender, hbound, siteOk, hsite]

theorem handsetRecord_named {t : Nat} {r : Record} (ht : 1 ≤ t ∧ t ≤ 999999) (hr : s.record? t = some r)
    (blank : List Value) (own : Record → Plan) : s.handsetRecord t true blank own = own r := by
  simp [State.handsetRecord, (ticketOk_iff t).mpr ht, hr]

section

variable {t a : Nat} {r : Record} {ok : Bool} {blank : List Value} {own : State → Nat → Record → Plan}

/-- A handset message that names a live record is ruled by its own plan. -/
theorem handsetAnswers_named (h : HandsetNames s hs a t r) (hok : ok = true)
    (hh : handsetHeader c = some (hs, kind))
    (he : exec c s = handsetMessage hs kind (some t)
      (fun s => s.fromSender hs blank fun a => s.handsetRecord t ok blank (own s a)) s)
    (hp : own s a r = p) : HandsetAnswers c s p.answer (some t) p.fields p.effect := by
  obtain ⟨hheard, ht1, ht2, hr⟩ := h
  have hplan := handsetAnswers_of_plan (p := p) hh he hheard.1 hheard.2.1 ?_
  · exact hplan
  rw [fromSender_heard hheard, hok, handsetRecord_named ⟨ht1, ht2⟩ hr, hp]

theorem actingOnly_of_mayAct (h : MayAct s a r) (p : Plan) : s.actingOnly a r p = p := by
  rcases h with h | h <;> simp [State.actingOnly, h]

theorem actingOnly_of_not_mayAct (h : ¬MayAct s a r) (p : Plan) : s.actingOnly a r p = refuse .notYours := by
  unfold MayAct at h
  unfold State.actingOnly
  cases hact : s.acting r with
  | none => exact absurd (Or.inl hact) h
  | some b =>
    have hb : b ≠ a := by rintro rfl; exact h (Or.inr hact)
    simp [hb]

end

/-! ### The commands that name a record -/

theorem optTierOf_isSome (n : Nat) : (optTierOf n).isSome = (n ≤ 3 || n == 255) := by
  unfold optTierOf tierOf
  by_cases h255 : n = 255
  · simp [h255]
  · by_cases h3 : n ≤ 3 <;> simp [h255, h3]

/-- Every desk command that names a record makes the checks of R26 before its own. -/
theorem exec_of_namedRecord {t e : Nat} {ok : Bool} (h : namedRecord c = some (t, e, ok)) :
    ∃ (req code : Nat) (own : State → Record → Plan), deskHeader c = some (req, code) ∧
      ∀ s, exec c s = deskCommand req code (fun s => s.deskRecord t e ok (own s)) s := by
  unfold namedRecord at h
  split at h <;> cases h
  case h_9 req tier due => exact ⟨_, _, _, rfl, fun s => by rw [← optTierOf_isSome]; rfl⟩
  all_goals exact ⟨_, _, _, rfl, fun s => rfl⟩

/-- Every handset message that names a ticket makes the checks of R148 and R127 before its own. -/
theorem exec_of_namedByHandset {t : Nat} {ok : Bool} {blank : List Value}
    (h : namedByHandset c = some (hs, t, ok, blank)) :
    ∃ (kind : Nat) (own : State → Nat → Record → Plan), handsetHeader c = some (hs, kind) ∧
      ∀ s, exec c s = handsetMessage hs kind (some t)
        (fun s => s.fromSender hs blank fun a => s.handsetRecord t ok blank (own s a)) s := by
  unfold namedByHandset at h
  split at h <;> cases h
  case h_2 => exact ⟨_, _, rfl, fun s => by rw [← optTierOf_isSome]; rfl⟩
  all_goals exact ⟨_, _, rfl, fun s => rfl⟩

end Sys2Proof.Machine
end

section
/-! The commands that are ruled in order: each obligation's clauses, one by one, by the plan of its command. -/

namespace Sys2Proof.Machine

open Sys2Proof.Safety

/-- Settles O6: the checks of `deskRecord` and of `fromSender` with `handsetRecord`, in their order. -/
theorem ticketChecksComeInOrder : Obligations.TicketChecksComeInOrder := by
  refine ⟨fun c s t e ok hr hc => ?_, fun c s h t ok blank hr ha hc => ?_⟩
  · obtain ⟨req, code, own, hh, he⟩ := exec_of_namedRecord hc
    have reports (a : Answer) (hp : s.deskRecord t e ok (own s) = refuse a) : DeskReports c s a [] :=
      deskReports_refuse hh (he s) hr hp
    refine ⟨fun hbad => reports _ (deskRecord_badField t e ok _ hbad), fun h1 h2 hok hexp => ⟨fun hnone => ?_, ?_⟩⟩
    · exact reports _ (deskRecord_notFound t e ok _ ⟨h1, h2⟩ hok hexp hnone)
    · exact fun r hrec hle hne => reports _ (deskRecord_notAsExpected t e ok _ r ⟨h1, h2⟩ hok hle hrec hne)
  · obtain ⟨kind, own, hh, he⟩ := exec_of_namedByHandset hc
    have ruled (a : Answer)
        (hp : (s.fromSender h blank fun a => s.handsetRecord t ok blank (own s a)) = refuseWith blank a) :
        HandsetAnswers c s a (some t) blank id := handsetAnswers_of_plan hh (he s) hr ha hp
    refine ⟨fun hnone => ruled _ (by simp [State.fromSender, State.boundSender, hnone]), fun hsome => ?_⟩
    obtain ⟨a, hbound⟩ := Option.ne_none_iff_exists'.mp hsome
    refine ⟨fun hbad => ruled _ ?_, fun hsite h1 h2 hok hnone => ruled _ ?_⟩
    · by_cases hsite : h.site ≤ 3
      · have hfields : (!ticketOk t || !ok) = true := by
          by_contra hgood
          simp only [Bool.or_eq_true, Bool.not_eq_true', not_or, Bool.not_eq_false] at hgood
          have ht := (ticketOk_iff t).mp hgood.1
          rcases hbad with hbad | rfl | hbad | rfl
          · omega
          · omega
          · omega
          · simp at hgood
        simp [State.fromSender, State.boundSender, hbound, siteOk, hsite, State.handsetRecord, hfields]
      · simp [State.fromSender, State.boundSender, hbound, siteOk, hsite]
    · simp [State.fromSender, State.boundSender, hbound, siteOk, hsite, State.handsetRecord,
        (ticketOk_iff t).mpr ⟨h1, h2⟩, hok, hnone]

/-- The plan of RETIRE by the record's state. -/
def retirePlan (t : Nat) (r : Record) : Plan :=
  if r.state = .suspended then done fun q => q.retireRecord t else refuse .wrongState

theorem exec_retire (s : State) (q t e : Nat) :
    exec (.retire q t e) s = deskCommand q 0x16 (fun s => s.deskRecord t e true (retirePlan t)) s := rfl

/-- Settles O11: RETIRE's own check is the record's state. -/
theorem retireEndsASuspendedRecord : Obligations.RetireEndsASuspendedRecord := by
  intro s q t e r h
  have he := exec_retire s q t e
  constructor
  · intro hst
    exact deskAnswers_named h rfl rfl he (if_pos hst)
  · intro hst
    exact deskReports_named h rfl rfl he (if_neg hst)

/-- The plan of HOLD by the record's state. -/
def holdPlan (t : Nat) (r : Record) : Plan :=
  match r.state with
  | .staged => refuse .wrongState
  | .suspended => refuse .already
  | _ => done fun q => q.suspend t .deskHold

theorem exec_hold (s : State) (q t e : Nat) :
    exec (.hold q t e) s = deskCommand q 0x12 (fun s => s.deskRecord t e true (holdPlan t)) s := rfl

/-- Settles O13: HOLD by the record's state. -/
theorem holdSetsARecordAside : Obligations.HoldSetsARecordAside := by
  intro s q t e r h
  have he := exec_hold s q t e
  refine ⟨fun hstaged hsusp => ?_, fun hst => ?_, fun hst => ?_⟩
  · refine deskAnswers_named (p := done fun q => q.suspend t .deskHold) h rfl rfl he ?_
    unfold holdPlan
    split
    · contradiction
    · contradiction
    · rfl
  · exact deskReports_named h rfl rfl he (by simp only [holdPlan, hst])
  · exact deskReports_named h rfl rfl he (by simp only [holdPlan, hst])

/-! ### RESOLVE (R22, R23) -/

/-- The plan of RESOLVE STORED at the record. -/
def State.resolveStoredPlan (s : State) (t : Nat) (r : Record) : Plan :=
  if r.state ≠ .suspended then refuse .wrongState
  else if !r.stall.any s.resolvable then refuse .wrongState
  else if !s.keyIsHome r then refuse .busy
  else done fun q => (q.setState t .stored).clearSuspension t

theorem exec_resolveStored (s : State) (q t e : Nat) :
    exec (.resolveStored q t e) s =
      deskCommand q 0x13 (fun s => s.deskRecord t e true (s.resolveStoredPlan t)) s := rfl

/-- The plan of RESOLVE MOVE TO at the record. -/
def State.resolveMoveToPlan (s : State) (t zone index : Nat) (r : Record) : Plan :=
  if r.state ≠ .suspended then refuse .wrongState
  else
    match s.stall? zone index with
    | none => refuse .badField
    | some x =>
      if !x.stray then refuse .wrongState
      else if !s.keyIsHome r then refuse .busy
      else done fun q =>
        (((q.placeInStray r ⟨zone, index⟩ x).setState t .stored).clearSuspension t).serveDue

theorem exec_resolveMoveTo (s : State) (q t zone index e : Nat) :
    exec (.resolveMoveTo q t zone index e) s =
      deskCommand q 0x14 (fun s => s.deskRecord t e (stallFieldOk zone index) (s.resolveMoveToPlan t zone index)) s := rfl

/-- The plan of RESOLVE WAITING at the record. -/
def State.resolveWaitingPlan (s : State) (t : Nat) (r : Record) : Plan :=
  if r.state ≠ .suspended then refuse .wrongState
  else if s.waitListFull then refuse .waitlistFull
  else if !s.keyIsHome r then refuse .busy
  else done fun q => (((q.releaseStall t).clearSuspension t).enterWaiting t).serveDue

theorem exec_resolveWaiting (s : State) (q t e : Nat) :
    exec (.resolveWaiting q t e) s =
      deskCommand q 0x15 (fun s => s.deskRecord t e true (s.resolveWaitingPlan t)) s := rfl

theorem waitListFull_iff (s : State) : s.waitListFull = true ↔ 24 ≤ s.sm.waitList.length := by
  simp only [State.waitListFull, decide_eq_true_eq]; exact Iff.rfl

/-- RESOLVE STORED, check by check. -/
theorem resolveStored_ruled {s : State} {q t e : Nat} {r : Record} (h : DeskNames s t e r) :
    (r.state ≠ .suspended → DeskReports (.resolveStored q t e) s .wrongState []) ∧
    (r.state = .suspended →
      (r.stall = none → DeskReports (.resolveStored q t e) s .wrongState []) ∧
      ∀ st, r.stall = some st →
        ((s.link st.zone).link = .live → (∀ x, s.stall? st.zone st.index = some x → x.sensed ≠ .occupied) →
          DeskReports (.resolveStored q t e) s .wrongState []) ∧
        ((s.link st.zone).link ≠ .live ∨ (∃ x, s.stall? st.zone st.index = some x ∧ x.sensed = .occupied) →
          (s.keyIsHome r = false → DeskReports (.resolveStored q t e) s .busy []) ∧
          (s.keyIsHome r = true →
            DeskAnswers (.resolveStored q t e) s ((s.begin.setState t .stored).clearSuspension t) .done []))) := by
  have refused (a : Answer) (hp : s.resolveStoredPlan t r = refuse a) : DeskReports (.resolveStored q t e) s a [] :=
    deskReports_named h rfl rfl (exec_resolveStored s q t e) hp
  refine ⟨fun hst => refused _ (by simp [State.resolveStoredPlan, hst]), fun hst => ⟨fun hnone => ?_, fun st hstall =>
    ⟨fun hlive hempty => ?_, fun hcar => ⟨fun hkey => ?_, fun hkey => ?_⟩⟩⟩⟩
  · exact refused _ (by simp [State.resolveStoredPlan, hst, hnone])
  · have hres : s.resolvable st = false := by
      cases hx : s.stall? st.zone st.index with
      | none => simp [State.resolvable, hlive, hx]
      | some x => simp [State.resolvable, hlive, hx, hempty x hx]
    exact refused _ (by simp [State.resolveStoredPlan, hst, hstall, hres])
  all_goals
    have hres : s.resolvable st = true := by
      rcases hcar with hlink | ⟨x, hx, hocc⟩
      · simp [State.resolvable, hlink]
      · simp [State.resolvable, hx, hocc]
  · exact refused _ (by simp [State.resolveStoredPlan, hst, hstall, hres, hkey])
  · exact deskAnswers_named (p := done fun q => (q.setState t .stored).clearSuspension t) h rfl rfl
      (exec_resolveStored s q t e) (by simp [State.resolveStoredPlan, hst, hstall, hres, hkey])

/-- RESOLVE MOVE TO, check by check. -/
theorem resolveMoveTo_ruled {s : State} {q t e zone index : Nat} {r : Record} (h : DeskNames s t e r)
    (hzone : zone < 12) (hindex : index < 96) :
    let c := Instr.resolveMoveTo q t zone index e
    (r.state ≠ .suspended → DeskReports c s .wrongState []) ∧
    (r.state = .suspended →
      (s.stall? zone index = none → DeskReports c s .badField []) ∧
      ∀ x, s.stall? zone index = some x →
        (x.stray = false → DeskReports c s .wrongState []) ∧
        (x.stray = true →
          (s.keyIsHome r = false → DeskReports c s .busy []) ∧
          (s.keyIsHome r = true →
            DeskAnswers c s
              ((((s.begin.placeInStray r ⟨zone, index⟩ x).setState t .stored).clearSuspension t).serveDue)
              .done []))) := by
  intro c
  have hok : stallFieldOk zone index = true := by
    simp only [stallFieldOk, Bool.and_eq_true, decide_eq_true_eq]; exact ⟨hzone, hindex⟩
  have refused (a : Answer) (hp : s.resolveMoveToPlan t zone index r = refuse a) : DeskReports c s a [] :=
    deskReports_named h hok rfl (exec_resolveMoveTo s q t zone index e) hp
  refine ⟨fun hst => refused _ (by simp [State.resolveMoveToPlan, hst]), fun hst => ⟨fun hnone => ?_, fun x hx =>
    ⟨fun hstray => ?_, fun hstray => ⟨fun hkey => ?_, fun hkey => ?_⟩⟩⟩⟩
  · exact refused _ (by simp [State.resolveMoveToPlan, hst, hnone])
  · exact refused _ (by simp [State.resolveMoveToPlan, hst, hx, hstray])
  · exact refused _ (by simp [State.resolveMoveToPlan, hst, hx, hstray, hkey])
  · exact deskAnswers_named (p := done fun q =>
        (((q.placeInStray r ⟨zone, index⟩ x).setState t .stored).clearSuspension t).serveDue) h hok rfl
      (exec_resolveMoveTo s q t zone index e) (by simp [State.resolveMoveToPlan, hst, hx, hstray, hkey])

/-- RESOLVE WAITING, check by check. -/
theorem resolveWaiting_ruled {s : State} {q t e : Nat} {r : Record} (h : DeskNames s t e r) :
    (r.state ≠ .suspended → DeskReports (.resolveWaiting q t e) s .wrongState []) ∧
    (r.state = .suspended →
      (24 ≤ s.sm.waitList.length → DeskReports (.resolveWaiting q t e) s .waitlistFull []) ∧
      (s.sm.waitList.length < 24 →
        (s.keyIsHome r = false → DeskReports (.resolveWaiting q t e) s .busy []) ∧
        (s.keyIsHome r = true →
          DeskAnswers (.resolveWaiting q t e) s
            ((((s.begin.releaseStall t).clearSuspension t).enterWaiting t).serveDue) .done []))) := by
  have refused (a : Answer) (hp : s.resolveWaitingPlan t r = refuse a) : DeskReports (.resolveWaiting q t e) s a [] :=
    deskReports_named h rfl rfl (exec_resolveWaiting s q t e) hp
  refine ⟨fun hst => refused _ (by simp [State.resolveWaitingPlan, hst]), fun hst => ⟨fun hfull => ?_, fun hroom =>
    ⟨fun hkey => ?_, fun hkey => ?_⟩⟩⟩
  · exact refused _ (by simp [State.resolveWaitingPlan, hst, (waitListFull_iff s).mpr hfull])
  all_goals
    have hfull : s.waitListFull = false := by
      rw [← Bool.not_eq_true, waitListFull_iff]; omega
  · exact refused _ (by simp [State.resolveWaitingPlan, hst, hfull, hkey])
  · exact deskAnswers_named (p := done fun q => (((q.releaseStall t).clearSuspension t).enterWaiting t).serveDue) h
      rfl rfl (exec_resolveWaiting s q t e) (by simp [State.resolveWaitingPlan, hst, hfull, hkey])

/-- The grade of a stall is read from the grade slots alone. -/
theorem gradeOf_congr {q s : State} (h : q.sm.gradeSlots = s.sm.gradeSlots) (x : Stall) : q.gradeOf x = s.gradeOf x := by
  unfold State.gradeOf; split <;> simp [h]

@[simp] theorem State.setState_sm (s : State) (t : Nat) (st : RecordState) :
    (s.setState t st).sm.gradeSlots = s.sm.gradeSlots ∧ (s.setState t st).sm.prefs = s.sm.prefs ∧
      (s.setState t st).sm.waitList = s.sm.waitList := by
  simp [State.setState]

@[simp] theorem State.holdStall_sm (s : State) (t : Nat) (st : StallId) :
    (s.holdStall t st).sm.gradeSlots = s.sm.gradeSlots ∧ (s.holdStall t st).sm.prefs = s.sm.prefs ∧
      (s.holdStall t st).sm.waitList = s.sm.waitList := by
  simp [State.holdStall]

@[simp] theorem State.releaseStall_sm (s : State) (t : Nat) :
    (s.releaseStall t).sm.gradeSlots = s.sm.gradeSlots ∧ (s.releaseStall t).sm.prefs = s.sm.prefs ∧
      (s.releaseStall t).sm.waitList = s.sm.waitList := by
  unfold State.releaseStall; split <;> simp

@[simp] theorem Record.released_misfit (r : Record) : (r.released.flags.stallChanged).misfit = false ∧
    (r.released.flags.stallChanged).chargeUnmet = false := ⟨rfl, rfl⟩

/-- The record that RESOLVE MOVE TO places in a stray stall, before its state changes: it names the stall, with MISFIT and
CHARGE_UNMET as the stall gives them. -/
theorem record?_placeInStray {s : State} {t zone index : Nat} {r : Record} (x : Stall) (hr : s.record? t = some r) :
    ∃ r', (s.placeInStray r ⟨zone, index⟩ x).record? t = some r' ∧ r'.stall = some ⟨zone, index⟩ ∧
      (r'.flags.misfit = true ↔ s.gradeOf x < r.grade) ∧
      (r'.flags.chargeUnmet = true ↔ r.need = .charger ∧ x.attr ≠ .charger) := by
  have hticket : r.ticket = t := record?_ticket s t r hr
  subst hticket
  unfold State.placeInStray
  dsimp only
  rw [gradeOf_congr (s := s) (by simp)]
  by_cases hgrade : s.gradeOf x < r.grade
  · rw [if_pos hgrade]
    by_cases hcharge : r.need = .charger ∧ x.attr ≠ .charger
    · simp [hr, hgrade, hcharge]
    · simp [hr, hgrade, hcharge]
  · rw [if_neg hgrade]
    by_cases hcharge : r.need = .charger ∧ x.attr ≠ .charger
    · simp [hr, hgrade, hcharge, RecordFlags.stallChanged]
    · simp [hr, hgrade, hcharge, RecordFlags.stallChanged]

end Sys2Proof.Machine
end

section
namespace Sys2Proof.Machine

open Sys2Proof.Safety

/-- The stalls after RESOLVE MOVE TO has placed the record: the stray stall is the record's, the stall it had has no holder. -/
theorem stall?_placeInStray {s : State} {t zone index : Nat} {r : Record} (x : Stall) (hr : s.record? t = some r)
    (z i : Nat) :
    (s.placeInStray r ⟨zone, index⟩ x).stall? z i =
      (((s.stall? z i).map (if r.stall = some ⟨z, i⟩ then fun y => { y.resetRuns with holder := none } else id)).map
        (if (⟨zone, index⟩ : StallId) = ⟨z, i⟩ then fun y => { y.resetRuns with holder := some t } else id)).map
        (if z = zone ∧ i = index then fun y => { y with stray := false } else id) := by
  have hticket : r.ticket = t := record?_ticket s t r hr
  subst hticket
  unfold State.placeInStray
  dsimp only
  split <;> simp only [State.raise_lookups, State.modRecord_lookups, State.noteFallback_lookups, stall?_modStall,
    stall?_holdStall, stall?_releaseStall, hr, Option.bind_some]

/-- Settles O15: the three commands check by check, and what RESOLVE MOVE TO leaves at the record and at its stalls. -/
theorem resolveReturnsASuspendedRecord : Obligations.ResolveReturnsASuspendedRecord := by
  refine ⟨fun s q t e r h => ?_, fun s q t e r h => resolveWaiting_ruled h, fun s t zone index r x hr hx => ?_⟩
  · obtain ⟨hwrong, hsusp⟩ := resolveStored_ruled (q := q) h
    exact ⟨hwrong, hsusp, fun zone index hz hi => resolveMoveTo_ruled h hz hi⟩
  intro q
  obtain ⟨r', hr', hstall, hmisfit, hcharge⟩ := record?_placeInStray (zone := zone) (index := index) x hr
  refine ⟨?_, ?_, fun st y hst hne hy => ?_⟩
  · refine ⟨{ r'.enter .stored (s.placeInStray r ⟨zone, index⟩ x).ct.parkLimit with reason := none, attendant := none },
      by simp [q, State.clearSuspension, hr'], rfl, hstall, rfl, rfl, ?_, ?_⟩
    · simpa [RecordFlags.leave] using hmisfit
    · simpa [RecordFlags.leave] using hcharge
  · refine ⟨{ x with holder := some t, stray := false, vacantRun := 0, occupiedRun := 0 }, ?_, rfl, rfl, rfl, rfl⟩
    simp only [q, State.clearSuspension, State.modRecord_lookups, stall?_setState, hr',
      stall?_placeInStray x hr, hx]
    by_cases hsame : r.stall = some ⟨zone, index⟩ <;> simp [hsame, hstall, Stall.resetRuns]
  · obtain ⟨z, i⟩ := st
    have hother : (⟨zone, index⟩ : StallId) ≠ ⟨z, i⟩ := fun h => hne h.symm
    have hplace : ¬(z = zone ∧ i = index) := by rintro ⟨rfl, rfl⟩; exact hother rfl
    simp only [q, State.clearSuspension, State.modRecord_lookups, holder_setState, stall?_placeInStray x hr, hy]
    simp [hst, hother, hplace]

/-! ### Retirement (R17) -/

/-- The hook of a retired record, and what is sent (R72; log entry 19). -/
theorem hook?_unbindHook {s : State} {h : Nat} {k : Hook} (t : Nat) (hk : s.hook? h = some k) :
    ((s.unbindHook h t).hook? h = some (if k.keyPresent then
        { Hook.freed t k with latch := some .opened, repeatTimer := some (Timer.start Config.latchRepeat) }
      else Hook.freed t k)) ∧
    (s.unbindHook h t).kc.sent = if k.keyPresent then s.kc.sent ++ [⟨h, .opened⟩] else s.kc.sent := by
  unfold State.unbindHook
  simp only [hk]
  split
  · simp [hk]
  · simp [hk]

theorem keyPresent_iff (k : Hook) : k.keyPresent = true ↔ k.state = .held ∨ k.state = .opened := by
  simp [Hook.keyPresent]

/-- What a retirement frees. -/
theorem retireRecord_frees {s : State} {t : Nat} {r : Record} (hr : s.record? t = some r) :
    let q := s.retireRecord t
    q.record? t = none ∧ (∀ u, u ≠ t → q.record? u = s.record? u) ∧ q.ct.counter = s.ct.counter ∧
    (∀ k, s.hook? r.hook = some k →
      ∃ k', q.hook? r.hook = some k' ∧ k'.state = .free ∧ k'.bound = none ∧ k'.attendant = none ∧
        k'.forced = false ∧ k'.warned = false ∧ k'.overdue = false ∧ k'.phase = .none ∧ k'.count = 0 ∧
        k'.window = none ∧ k'.custody = none ∧
        k'.strayTag = (if k.state = .held ∨ k.state = .opened then some t else k.strayTag) ∧
        (k.state = .held ∨ k.state = .opened → k'.latch = some .opened ∧ k'.repeatTimer = some ⟨0, 2⟩ ∧
          q.kc.sent = s.kc.sent ++ [⟨r.hook, .opened⟩]) ∧
        (k.state ≠ .held → k.state ≠ .opened →
          k'.latch = k.latch ∧ k'.repeatTimer = k.repeatTimer ∧ q.kc.sent = s.kc.sent)) ∧
    (∀ st x, r.stall = some st → s.stall? st.zone st.index = some x →
      q.stall? st.zone st.index = some { x with holder := none, vacantRun := 0, occupiedRun := 0 }) ∧
    (∀ b, r.bay = some b →
      q.bay b = { s.bay b with holder := none, dwell := none, driveOff := none }) := by
  intro q
  have hq : q = (((s.releaseStall t).freeBay r.bay).unbindHook r.hook t).dropRecord t := by
    simp only [q, State.retireRecord, hr]
  set p := (s.releaseStall t).freeBay r.bay with hp
  refine ⟨?_, fun u hu => ?_, ?_, fun k hk => ?_, fun st x hst hx => ?_, fun b hb => ?_⟩
  · simp [hq]
  · simp [hq, hp, hu]
  · simp [hq, hp, State.dropRecord]
  · have hkp : p.hook? r.hook = some k := by simp [hp, hk]
    obtain ⟨hhook, hsent⟩ := hook?_unbindHook t hkp
    have hqhook : q.hook? r.hook = (p.unbindHook r.hook t).hook? r.hook := by simp [hq]
    have hqsent : q.kc.sent = (p.unbindHook r.hook t).kc.sent := by simp [hq]
    have hpkc : p.kc = s.kc := by simp [hp]
    rw [hhook] at hqhook
    rw [hsent, hpkc] at hqsent
    refine ⟨_, hqhook, ?_⟩
    by_cases hkey : k.keyPresent = true
    · have hstate := (keyPresent_iff k).mp hkey
      rw [if_pos hkey] at hqsent ⊢
      refine ⟨rfl, rfl, rfl, rfl, rfl, rfl, rfl, rfl, rfl, rfl, rfl, fun _ => ⟨rfl, rfl, hqsent⟩, fun h1 h2 => ?_⟩
      exact absurd hstate (by simp [h1, h2])
    · have hstate : ¬(k.state = .held ∨ k.state = .opened) := fun h => hkey ((keyPresent_iff k).mpr h)
      rw [if_neg hkey] at hqsent ⊢
      exact ⟨rfl, rfl, rfl, rfl, rfl, rfl, rfl, rfl, rfl, rfl, rfl, fun h => absurd h hstate, fun _ _ =>
        ⟨rfl, rfl, hqsent⟩⟩
  · simp [hq, hp, stall?_releaseStall, hr, hst, hx, Stall.resetRuns]
  · have hqbay : q.bay = p.bay := by simp [hq]
    rw [hqbay, hp, hb, bay_freeBay]
    simp

theorem exec_handover_desk (s : State) (q t e : Nat) :
    exec (.handover (.desk q) t e) s = deskCommand q 0x11 (fun s => s.deskRecord t e true handoverPlan) s := rfl

theorem exec_handover_handset (s : State) (h : Handset) (t e : Nat) :
    exec (.handover (.handset h) t e) s = handsetMessage h 0x0E (some t)
      (fun s => s.fromSender h [] fun a => s.handsetRecord t true [] ((fun _ _ r => handoverPlan r) s a)) s := rfl

/-- Settles O12: HANDOVER by the record's state from both ports, and what a retirement frees. -/
theorem retirementFreesSlotHookStallAndBay : Obligations.RetirementFreesSlotHookStallAndBay := by
  refine ⟨fun s q t e r => ⟨fun h => ?_, fun hs a h => ?_⟩, fun s t r hr => retireRecord_frees hr⟩
  · have ht : r.ticket = t := record?_ticket s t r h.2.2.2.1
    subst ht
    have he := exec_handover_desk s q r.ticket e
    exact ⟨fun hst => deskAnswers_named (p := done fun x => x.retireRecord r.ticket) h rfl rfl he (if_pos hst),
      fun hst => deskReports_named h rfl rfl he (if_neg hst)⟩
  · have ht : r.ticket = t := record?_ticket s t r h.2.2.2
    subst ht
    have he := exec_handover_handset s hs r.ticket e
    exact ⟨fun hst => handsetAnswers_named (p := done fun x => x.retireRecord r.ticket) h rfl rfl he (if_pos hst),
      fun hst => handsetAnswers_named (p := refuse .wrongState) h rfl rfl he (if_neg hst)⟩

end Sys2Proof.Machine
end

section
/-! The record queries and the settings with a range (R6, R27 to R29, R57, R81, R85, R108, R120, R140). -/

namespace Sys2Proof.Machine

open Sys2Proof.Safety

theorem deskReports_report {s : State} {c : Instr} {plan : State → Plan} {req code : Nat} {fields : List Value}
    (hh : deskHeader c = some (req, code)) (he : exec c s = deskCommand req code plan s) (hr : s.running = true)
    (hp : plan s = report fields) : DeskReports c s .done fields :=
  deskReports_of_plan hh he hr hp rfl

/-! ### Queries (R27 to R29) -/

theorem exec_getRecord (s : State) (q t e : Nat) :
    exec (.getRecord q t e) s = deskCommand q 0x17 (fun s => s.deskRecord t e true fun r => report r.full) s := rfl

/-- AMEND at the record: the fields given are replaced. -/
def amendPlan (t : Nat) (plate : Option PlateField) (folio : Option OptWord) (r : Record) : Plan :=
  done fun q => q.modRecord t fun x =>
    { x with plate := (plate.bind plateOf).getD r.plate, folio := (folio.bind folioOf).getD r.folio }

theorem exec_amend (s : State) (q t : Nat) (plate : Option PlateField) (folio : Option OptWord) (e : Nat) :
    exec (.amend q t plate folio e) s = deskCommand q 0x18
      (fun s => s.deskRecord t e (plate.all (fun p => (plateOf p).isSome) && folio.all (fun w => (folioOf w).isSome))
        (amendPlan t plate folio)) s := rfl

theorem exec_findPlate (s : State) (q : Nat) (plate : PlateField) (start : Nat) :
    exec (.findPlate q plate start) s = deskCommand q 0x19
      (fun s => match plateOf plate, optSlotOf start with
        | some (c :: cs), some st => report (pageFields (s.page (st.getD 0) fun r => r.plate == c :: cs))
        | _, _ => refuse .badField) s := rfl

theorem exec_findFolio (s : State) (q : Nat) (folio : OptWord) (start : Nat) :
    exec (.findFolio q folio start) s = deskCommand q 0x1A
      (fun s => match folioOf folio, optSlotOf start with
        | some (some f), some st => report (pageFields (s.page (st.getD 0) fun r => r.folio == some f))
        | _, _ => refuse .badField) s := rfl

theorem exec_list (s : State) (q start filter : Nat) :
    exec (.list q start filter) s = deskCommand q 0x1B
      (fun s => match optSlotOf start, optStateOf filter with
        | some st, some want =>
          let page := s.page (st.getD s.ct.cursor) fun r => want.all fun w => r.state == w
          { answer := .done, fields := pageFields page
            effect := fun q => { q with ct := { q.ct with cursor := pageEnd page } } }
        | _, _ => refuse .badField) s := rfl

/-- A start slot that is no value of the field (R188). -/
theorem optSlotOf_eq_none {start : Nat} (h : 1023 < start ∧ start ≠ 65535) : optSlotOf start = none := by
  have hlt : ¬start < Config.recordSlots := Nat.not_lt.mpr h.1
  simp [optSlotOf, h.2, hlt]

/-- A start slot, or its absence. -/
theorem optSlotOf_eq_some {start : Nat} (h : start ≤ 1023 ∨ start = 65535) (d : Nat) :
    ∃ st, optSlotOf start = some st ∧ st.getD d = if start = 65535 then d else start := by
  by_cases habs : start = 65535
  · exact ⟨none, by simp [optSlotOf, habs], by simp [habs]⟩
  · have hlt : start < Config.recordSlots := Nat.lt_succ_of_le (h.resolve_right habs)
    exact ⟨some start, by simp [optSlotOf, habs, hlt], by simp [habs]⟩

/-- A state filter, by its code. -/
theorem optStateOf_eq_some {filter : Nat} (h : filter ≤ 7 ∨ filter = 255) :
    ∃ want, optStateOf filter = some want ∧
      (fun r : Record => want.all fun w => r.state == w) = fun r => filter == 255 || r.state.code == filter := by
  by_cases habs : filter = 255
  · exact ⟨none, by simp [optStateOf, habs], by simp [habs]⟩
  · obtain ⟨st, hcode, hst⟩ := optStateOf_of_le filter (h.resolve_right habs)
    refine ⟨some st, hst, funext fun r => ?_⟩
    have hcodes : ∀ x y : RecordState, (x == y) = (x.code == y.code) := by
      intro x y; cases x <;> cases y <;> rfl
    subst hcode
    simp [habs, hcodes]

/-- Settles O16: each query by the values its fields hold, and AMEND at the record. -/
theorem recordQueriesReadAndAmendReplaces : Obligations.RecordQueriesReadAndAmendReplaces := by
  refine ⟨fun s q t e r h => ⟨?_, fun plate folio hplate hfolio => ?_⟩, fun s q start hr => ⟨?_, ?_, ?_, ?_⟩⟩
  · exact deskReports_report rfl (exec_getRecord s q t e) h.1 (deskRecord_named h _)
  · have hok : (plate.all (fun p => (plateOf p).isSome) && folio.all (fun w => (folioOf w).isSome)) = true := by
      simp only [Bool.and_eq_true, Option.all_eq_true]
      exact ⟨hplate, hfolio⟩
    exact deskLeaves_of_plan (p := amendPlan t plate folio r) rfl (exec_amend s q t plate folio e) h.1
      (by rw [hok]; exact deskRecord_named h _) rfl
  · intro plate hbad
    refine deskReports_refuse rfl (exec_findPlate s q plate start) hr ?_
    rcases hbad with hbad | hbad | hbad
    · simp [hbad]
    · simp [hbad]
    · simp [optSlotOf_eq_none hbad]
  · intro folio hbad
    refine deskReports_refuse rfl (exec_findFolio s q folio start) hr ?_
    rcases hbad with hbad | hbad | hbad
    · simp [hbad]
    · simp [hbad]
    · simp [optSlotOf_eq_none hbad]
  · intro filter hbad
    refine deskReports_refuse rfl (exec_list s q start filter) hr ?_
    rcases hbad with hbad | hbad
    · simp [optSlotOf_eq_none hbad]
    · simp [optStateOf_of_gt filter hbad.1 hbad.2]
  · intro hstart
    obtain ⟨st, hslot, hfirst⟩ := optSlotOf_eq_some hstart 0
    refine ⟨fun plate ch rest hplate => ?_, fun folio v hfolio => ?_, fun filter hfilter => ?_⟩
    · refine deskReports_report rfl (exec_findPlate s q plate start) hr ?_
      simp only [hplate, hslot, hfirst]
      rfl
    · refine deskReports_report rfl (exec_findFolio s q folio start) hr ?_
      simp only [hfolio, hslot, hfirst]
      rfl
    · obtain ⟨st, hslot, hcursor⟩ := optSlotOf_eq_some hstart s.ct.cursor
      obtain ⟨want, hwant, hmatch⟩ := optStateOf_eq_some hfilter
      intro cursor page
      have hpage : s.page (st.getD s.ct.cursor) (fun r => want.all fun w => r.state == w) = page := by
        rw [hmatch, hcursor]; rfl
      refine deskLeaves_of_plan (p := ⟨.done, pageFields page,
        fun q => { q with ct := { q.ct with cursor := pageEnd page } }, none⟩) rfl (exec_list s q start filter) hr ?_ rfl
      simp only [hslot, hwant, hpage]

/-! ### Settings with a range -/

/-- A setting with a range takes a value of the range and refuses any other. -/
theorem ranged_ruled {s : State} {c : Instr} {req code lo hi v : Nat} {f : State → State} (hr : s.running = true)
    (hh : deskHeader c = some (req, code)) (he : exec c s = deskCommand req code (fun _ => ranged lo hi v f) s)
    (hdue : (f s.begin).due = .clear) :
    if lo ≤ v ∧ v ≤ hi then DeskLeaves c s (f s.begin) .done [] else DeskReports c s .badField [] := by
  split
  next hin => exact deskLeaves_of_plan (p := done f) hh he hr (if_pos hin) hdue
  next hout => exact deskReports_refuse hh he hr (if_neg hout)

/-- SET LEAD TIME, check by check. -/
def State.setLeadPlan (s : State) (zone seconds : Nat) : Plan :=
  if Config.zones ≤ zone ∨ 1800 < seconds then refuse .badField
  else done fun q =>
    ({ q with jq := { q.jq with leads := q.jq.leads.set (s.governing zone) seconds } }).lookIf (seconds < s.leadOf zone)

theorem exec_setLeadTime (s : State) (q zone seconds : Nat) :
    exec (.setLeadTime q zone seconds) s = deskCommand q 0x42 (fun s => s.setLeadPlan zone seconds) s := rfl

theorem governing_eq (s : State) (z : Nat) :
    s.governing z = if z % 2 = 1 ∧ (s.zone (z - 1)).paired = true then z - 1 else z := by
  simp [State.governing, State.isUpper]

/-- Settles O17: the six settings by their ranges, and SET LEAD TIME at the governing zone. -/
theorem timeSettingsHaveTheirRanges : Obligations.TimeSettingsHaveTheirRanges := by
  refine ⟨fun s q v hr => ⟨?_, ?_, ?_, ?_, ?_, ?_⟩, fun s q z v hr => ⟨fun hbad => ?_, fun hz hv => ?_⟩⟩
  · exact ranged_ruled (f := fun q => { q with ct := { q.ct with parkLimit := v } }) hr rfl rfl rfl
  · exact ranged_ruled (f := fun q => { q with zl := { q.zl with silenceTime := v } }) hr rfl rfl rfl
  · exact ranged_ruled (f := fun q => { q with kc := { q.kc with windowTime := v } }) hr rfl rfl rfl
  · exact ranged_ruled (f := fun q => { q with kc := { q.kc with custodyLimit := v } }) hr rfl rfl rfl
  · exact ranged_ruled (f := fun q => { q with dr := { q.dr with ackTime := v } }) hr rfl rfl rfl
  · exact ranged_ruled (f := fun q => { q with km := { q.km with dwellTime := v } }) hr rfl rfl rfl
  · refine deskReports_refuse rfl (exec_setLeadTime s q z v) hr ?_
    exact if_pos hbad
  · intro g
    have hg : s.governing z = g := governing_eq s z
    have hgood : ¬(Config.zones ≤ z ∨ 1800 < v) := by
      have : Config.zones = 12 := rfl
      omega
    have hplan : s.setLeadPlan z v = done fun q =>
        ({ q with jq := { q.jq with leads := q.jq.leads.set g v } } : State).lookIf (decide (v < s.jq.leads.getD g 0)) := by
      rw [State.setLeadPlan, if_neg hgood, State.leadOf, hg]
    exact deskAnswers_of_plan rfl (exec_setLeadTime s q z v) hr hplan

end Sys2Proof.Machine
end

section
/-! The handset messages about a record, check by check (R9, R18, R79, R102, R117, R121, R126, R138). -/

namespace Sys2Proof.Machine

open Sys2Proof.Safety

/-- A message that names a ticket and nothing else is ruled by its own plan. -/
theorem handsetAnswers_ticket {s : State} {c : Instr} {hs : Handset} {kind t a : Nat} {r : Record} {p : Plan}
    {own : State → Nat → Record → Plan} (h : HandsetNames s hs a t r) (hh : handsetHeader c = some (hs, kind))
    (he : exec c s = handsetTicket hs kind t own s) (hp : own s a r = p) :
    HandsetAnswers c s p.answer (some t) p.fields p.effect :=
  handsetAnswers_named (own := own) h rfl hh he hp

/-! ### PARKED, KEY_AGAIN, ACK, DECLINE and ABANDON -/

/-- PARKED at the record. -/
def parkedPlan (t : Nat) (r : Record) : Plan :=
  if r.state ≠ .inbound then refuse .wrongState
  else if r.parkMark then refuse .already
  else done fun q => q.setMarks t true r.keyMark

theorem exec_parked (s : State) (h : Handset) (t : Nat) :
    exec (.parked h t) s = handsetTicket h 0x06 t (fun s a r => s.actingOnly a r (parkedPlan t r)) s := rfl

theorem exec_keyAgain (s : State) (h : Handset) (t : Nat) :
    exec (.keyAgain h t) s = handsetTicket h 0x0C t (fun s a r => s.keyAgainPlan a r) s := rfl

theorem exec_ack (s : State) (h : Handset) (t : Nat) :
    exec (.ack h t) s = handsetTicket h 0x09 t (fun s a r => s.ackPlan a r) s := rfl

theorem exec_decline (s : State) (h : Handset) (t : Nat) :
    exec (.decline h t) s = handsetTicket h 0x0A t (fun s a r => s.declinePlan a r) s := rfl

/-- ABANDON at the record. -/
def abandonPlan (t a : Nat) (r : Record) : Plan :=
  if r.state ≠ .fetching then refuse .wrongState
  else if r.stall.isNone then refuse .tooLate
  else done fun q => (q.undoJob t .called).idleBack a

theorem exec_abandon (s : State) (h : Handset) (t : Nat) :
    exec (.abandon h t) s = handsetTicket h 0x0B t (fun s a r => s.actingOnly a r (abandonPlan t a r)) s := rfl

theorem parked_ruled {s : State} {h : Handset} {a t : Nat} {r : Record} (hn : HandsetNames s h a t r) :
    (¬MayAct s a r → HandsetAnswers (.parked h t) s .notYours (some t) [] id) ∧
    (MayAct s a r →
      (r.state ≠ .inbound → HandsetAnswers (.parked h t) s .wrongState (some t) [] id) ∧
      (r.state = .inbound → r.parkMark = true → HandsetAnswers (.parked h t) s .already (some t) [] id) ∧
      (r.state = .inbound → r.parkMark = false →
        HandsetAnswers (.parked h t) s .done (some t) [] fun q => q.setMarks t true r.keyMark)) := by
  have ruled (p : Plan) (hp : s.actingOnly a r (parkedPlan t r) = p) :
      HandsetAnswers (.parked h t) s p.answer (some t) p.fields p.effect :=
    handsetAnswers_ticket hn rfl (exec_parked s h t) hp
  refine ⟨fun hact => ruled _ (actingOnly_of_not_mayAct hact _), fun hact => ?_⟩
  rw [actingOnly_of_mayAct hact] at ruled
  refine ⟨fun hst => ruled (refuse .wrongState) ?_, fun hst hmark => ruled (refuse .already) ?_, fun hst hmark =>
    ruled (done fun q => q.setMarks t true r.keyMark) ?_⟩
  · simp [parkedPlan, hst]
  · simp [parkedPlan, hst, hmark]
  · simp [parkedPlan, hst, hmark]

theorem keyAgain_ruled {s : State} {h : Handset} {a t : Nat} {r : Record} (hn : HandsetNames s h a t r) :
    ((s.hook? r.hook).bind Hook.attendant ≠ some a → HandsetAnswers (.keyAgain h t) s .notYours (some t) [] id) ∧
    ∀ k, s.hook? r.hook = some k → k.attendant = some a →
      (k.state = .opened → HandsetAnswers (.keyAgain h t) s .already (some t) [] id) ∧
      (k.state ≠ .opened → k.state ≠ .held ∨ k.count ≠ 1 →
        HandsetAnswers (.keyAgain h t) s .wrongState (some t) [] id) ∧
      (k.state = .held → k.count = 1 →
        HandsetAnswers (.keyAgain h t) s .done (some t) [] fun q => q.updHook r.hook fun x =>
          { x with state := .opened, attendant := some a, phase := .running, count := 1
                   window := some ⟨0, s.kc.windowTime⟩ }) := by
  have ruled (p : Plan) (hp : s.keyAgainPlan a r = p) :
      HandsetAnswers (.keyAgain h t) s p.answer (some t) p.fields p.effect :=
    handsetAnswers_ticket hn rfl (exec_keyAgain s h t) hp
  refine ⟨fun hnot => ruled (refuse .notYours) ?_, fun k hk hatt => ⟨fun hst => ruled (refuse .already) ?_,
    fun hst hnot => ruled (refuse .wrongState) ?_, fun hst hcount => ?_⟩⟩
  · cases hk : s.hook? r.hook with
    | none => simp [State.keyAgainPlan, hk]
    | some k => simp [State.keyAgainPlan, hk, show k.attendant ≠ some a by simpa [hk] using hnot]
  · simp [State.keyAgainPlan, hk, hatt, hst]
  · simp [State.keyAgainPlan, hk, hatt, hst, hnot]
  · obtain ⟨hd, code, hh, he⟩ := ruled (done fun q => q.updHook r.hook (Hook.openFor a 1 q.kc.windowTime))
      (by simp [State.keyAgainPlan, hk, hatt, hst, hcount])
    refine ⟨hd, code, hh, ?_⟩
    rw [he]
    simp only [done, State.sendResult, State.pushFrame_frame, State.begin_kc]
    rfl

theorem ackAndDecline_ruled {s : State} {h : Handset} {a t : Nat} {r : Record} (hn : HandsetNames s h a t r) :
    (s.entry? t = none ∨ (∃ x, s.entry? t = some x ∧ x.status = .queued) →
      HandsetAnswers (.ack h t) s .withdrawn (some t) [] id ∧
      HandsetAnswers (.decline h t) s .withdrawn (some t) [] id) ∧
    ∀ x, s.entry? t = some x → x.status ≠ .queued →
      (x.attendant ≠ some a →
        HandsetAnswers (.ack h t) s .notYours (some t) [] id ∧
        HandsetAnswers (.decline h t) s .notYours (some t) [] id) ∧
      (x.attendant = some a → x.status = .taken →
        HandsetAnswers (.ack h t) s .already (some t) [] id ∧
        HandsetAnswers (.decline h t) s .tooLate (some t) [] id) ∧
      (x.attendant = some a → x.status = .offered →
        HandsetAnswers (.ack h t) s .done (some t) [] (fun q => q.takeJob r x a) ∧
        HandsetAnswers (.decline h t) s .done (some t) [] fun q => (q.requeue t).idleBack a) := by
  have hticket : r.ticket = t := record?_ticket s t r hn.2.2.2
  have acked (p : Plan) (hp : s.ackPlan a r = p) : HandsetAnswers (.ack h t) s p.answer (some t) p.fields p.effect :=
    handsetAnswers_ticket hn rfl (exec_ack s h t) hp
  have declined (p : Plan) (hp : s.declinePlan a r = p) :
      HandsetAnswers (.decline h t) s p.answer (some t) p.fields p.effect :=
    handsetAnswers_ticket hn rfl (exec_decline s h t) hp
  refine ⟨fun hgone => ⟨acked (refuse .withdrawn) ?_, declined (refuse .withdrawn) ?_⟩, fun x hx hst =>
    ⟨fun hnot => ⟨acked (refuse .notYours) ?_, declined (refuse .notYours) ?_⟩, fun hmine htaken =>
      ⟨acked (refuse .already) ?_, declined (refuse .tooLate) ?_⟩, fun hmine hoffered =>
      ⟨acked (done fun q => q.takeJob r x a) ?_, declined (done fun q => (q.requeue t).idleBack a) ?_⟩⟩⟩
  · rcases hgone with hnone | ⟨x, hx, hst⟩
    · simp [State.ackPlan, hticket, hnone]
    · simp [State.ackPlan, hticket, hx, hst]
  · rcases hgone with hnone | ⟨x, hx, hst⟩
    · simp [State.declinePlan, hticket, hnone]
    · simp [State.declinePlan, hticket, hx, hst]
  · cases hstatus : x.status <;> simp_all [State.ackPlan]
  · cases hstatus : x.status <;> simp_all [State.declinePlan]
  · simp [State.ackPlan, hticket, hx, hmine, htaken]
  · simp [State.declinePlan, hticket, hx, hmine, htaken]
  · simp [State.ackPlan, hticket, hx, hmine, hoffered]
  · simp [State.declinePlan, hticket, hx, hmine, hoffered]

theorem abandon_ruled {s : State} {h : Handset} {a t : Nat} {r : Record} (hn : HandsetNames s h a t r) :
    (¬MayAct s a r → HandsetAnswers (.abandon h t) s .notYours (some t) [] id) ∧
    (MayAct s a r →
      (r.state ≠ .fetching → HandsetAnswers (.abandon h t) s .wrongState (some t) [] id) ∧
      (r.state = .fetching → r.stall = none → HandsetAnswers (.abandon h t) s .tooLate (some t) [] id) ∧
      (r.state = .fetching → r.stall ≠ none →
        HandsetAnswers (.abandon h t) s .done (some t) [] fun q =>
          ((((q.setState t .called).modRecord t fun x => { x with attendant := none }).modEntry t fun e =>
            { e with status := .queued, attendant := none }).lookDue).idleBack a)) := by
  have ruled (p : Plan) (hp : s.actingOnly a r (abandonPlan t a r) = p) :
      HandsetAnswers (.abandon h t) s p.answer (some t) p.fields p.effect :=
    handsetAnswers_ticket hn rfl (exec_abandon s h t) hp
  refine ⟨fun hact => ruled _ (actingOnly_of_not_mayAct hact _), fun hact => ?_⟩
  rw [actingOnly_of_mayAct hact] at ruled
  refine ⟨fun hst => ruled (refuse .wrongState) ?_, fun hst hstall => ruled (refuse .tooLate) ?_, fun hst hstall =>
    ruled (done fun q => (q.undoJob t .called).idleBack a) ?_⟩
  · simp [abandonPlan, hst]
  · simp [abandonPlan, hst, hstall]
  · simp [abandonPlan, hst, hstall]

/-- Settles O35: each message by its plan. -/
theorem recordMessagesAreRuledInOrder : Obligations.RecordMessagesAreRuledInOrder := by
  refine ⟨fun s h a t r hn => ?_, fun s h a t r hn => ackAndDecline_ruled hn, fun s h a t r hn => abandon_ruled hn⟩
  obtain ⟨hnot, hmay⟩ := parked_ruled hn
  exact ⟨hnot, hmay, keyAgain_ruled hn⟩

/-! ### STAGED and REPARK -/

/-- STAGED at the record. -/
def State.stagedPlan (s : State) (t bay : Nat) (r : Record) : Plan :=
  if r.state = .staged ∧ r.bay = some bay then refuse .already
  else if r.state ≠ .fetching then refuse .wrongState
  else if !s.bayTakes (s.bay bay) then refuse .badBay
  else done fun q => q.stagedOk t bay

theorem exec_staged (s : State) (h : Handset) (t bay : Nat) :
    exec (.staged h t bay) s = handsetMessage h 0x0D (some t)
      (fun s => s.fromSender h [] fun a => s.handsetRecord t (bay < Config.bays) []
        ((fun s a r => s.actingOnly a r (s.stagedPlan t bay r)) s a)) s := rfl

theorem exec_repark (s : State) (h : Handset) (t : Nat) :
    exec (.repark h t) s = handsetMessage h 0x0F (some t)
      (fun s => s.fromSender h [.stall none] fun a => s.handsetRecord t true [.stall none] (s.reparkPlan a)) s := rfl

theorem bayTakes_iff (s : State) (b : Bay) :
    s.bayTakes b = true ↔ b.inLayout = true ∧ b.enabled = true ∧ (s.sa.state = .night → b.night = true) ∧
      b.loop = true ∧ b.holder = none := by
  simp only [State.bayTakes, State.bayUsable, Bool.and_eq_true, Bool.or_eq_true, bne_iff_ne, ne_eq,
    Option.isNone_iff_eq_none, ← imp_iff_not_or]
  tauto

theorem staged_ruled {s : State} {h : Handset} {a t b : Nat} {r : Record} (hn : HandsetNames s h a t r) :
    let bay := s.bay b
    let takes : Prop := bay.inLayout = true ∧ bay.enabled = true ∧ (s.sa.state = .night → bay.night = true) ∧
      bay.loop = true ∧ bay.holder = none
    (7 < b → HandsetAnswers (.staged h t b) s .badField (some t) [] id) ∧
    (b ≤ 7 →
      (¬MayAct s a r → HandsetAnswers (.staged h t b) s .notYours (some t) [] id) ∧
      (MayAct s a r →
        (r.state = .staged → r.bay = some b → HandsetAnswers (.staged h t b) s .already (some t) [] id) ∧
        (r.state ≠ .fetching → ¬(r.state = .staged ∧ r.bay = some b) →
          HandsetAnswers (.staged h t b) s .wrongState (some t) [] id) ∧
        (r.state = .fetching → ¬takes → HandsetAnswers (.staged h t b) s .badBay (some t) [] id) ∧
        (r.state = .fetching → takes →
          HandsetAnswers (.staged h t b) s .done (some t) [] fun q => q.stagedOk t b))) := by
  intro bay takes
  have he := exec_staged s h t b
  constructor
  · intro hb
    have hbad : decide (b < Config.bays) = false := decide_eq_false (Nat.not_lt.mpr hb)
    obtain ⟨hheard, -⟩ := hn
    have hplan := handsetAnswers_of_plan (p := refuse .badField) rfl he hheard.1 hheard.2.1
      (by rw [fromSender_heard hheard, hbad]; simp [State.handsetRecord, refuseWith, refuse])
    exact hplan
  · intro hb
    have hok : decide (b < Config.bays) = true := decide_eq_true (Nat.lt_succ_of_le hb)
    have ruled (p : Plan) (hp : s.actingOnly a r (s.stagedPlan t b r) = p) :
        HandsetAnswers (.staged h t b) s p.answer (some t) p.fields p.effect :=
      handsetAnswers_named hn hok rfl he hp
    refine ⟨fun hact => ruled _ (actingOnly_of_not_mayAct hact _), fun hact => ?_⟩
    rw [actingOnly_of_mayAct hact] at ruled
    refine ⟨fun hst hbay => ruled (refuse .already) (if_pos ⟨hst, hbay⟩), fun hst hnot =>
      ruled (refuse .wrongState) ?_, fun hst hnot => ruled (refuse .badBay) ?_, fun hst htakes =>
      ruled (done fun q => q.stagedOk t b) ?_⟩
    · rw [State.stagedPlan, if_neg hnot, if_pos hst]
    · have htakes : s.bayTakes (s.bay b) = false := by
        rw [← Bool.not_eq_true]; exact fun h => hnot ((bayTakes_iff s _).mp h)
      simp [State.stagedPlan, hst, htakes]
    · simp [State.stagedPlan, hst, (bayTakes_iff s (s.bay b)).mpr htakes]

theorem repark_ruled {s : State} {h : Handset} {a t : Nat} {r : Record} (hn : HandsetNames s h a t r) :
    let ruled (x : Answer) (f : State → State) : Prop := HandsetAnswers (.repark h t) s x (some t) [.stall none] f
    ((s.attendant a).state ≠ .idle → ruled .busy id) ∧
    ((s.attendant a).state = .idle →
      (r.state ≠ .staged ∨ 3 ≤ r.reparks → ruled .wrongState id) ∧
      (r.state = .staged → r.reparks < 3 →
        let others : Prop := (s.hook? r.hook).bind Hook.attendant ≠ some a
        (others → 3 ≤ s.keysOut a + s.openFor a → ruled .keyLimit id) ∧
        (¬others ∨ s.keysOut a + s.openFor a < 3 →
          let found := s.allocate r.grade r.need r.tier
          (found = none → 24 ≤ s.sm.waitList.length → ruled .waitlistFull id) ∧
          (found ≠ none ∨ s.sm.waitList.length < 24 →
            HandsetAnswers (.repark h t) s .done (some t) [.stall (found.map Prod.fst)] fun q =>
              q.reparkCar r a found)))) := by
  intro ruled
  have answers (p : Plan) (hp : s.reparkPlan a r = p) :
      HandsetAnswers (.repark h t) s p.answer (some t) p.fields p.effect :=
    handsetAnswers_named (own := fun s a => s.reparkPlan a) hn rfl rfl (exec_repark s h t) hp
  have refused (x : Answer) (hp : s.reparkPlan a r = refuseWith [.stall none] x) : ruled x id := answers _ hp
  refine ⟨fun hidle => refused _ ?_, fun hidle => ⟨fun hwrong => refused _ ?_, fun hst hreparks =>
    ⟨fun hother hload => refused _ ?_, fun hmay => ?_⟩⟩⟩
  · simp [State.reparkPlan, hidle]
  · have hwrong : r.state ≠ .staged ∨ Config.maxReparks ≤ r.reparks := hwrong
    simp [State.reparkPlan, hidle, hwrong]
  all_goals
    have hright : ¬(r.state ≠ .staged ∨ Config.maxReparks ≤ r.reparks) := by
      have : Config.maxReparks = 3 := rfl
      simp only [hst, ne_eq, not_true_eq_false, false_or]; omega
  · have hlimit : (s.hook? r.hook).bind Hook.attendant ≠ some a ∧ Config.keyLimit ≤ s.keyLoad a := ⟨hother, hload⟩
    simp only [State.reparkPlan, hidle, hright, hlimit, ne_eq, not_true_eq_false, not_false_eq_true, and_self, if_true,
      if_false]
  · have hlimit : ¬((s.hook? r.hook).bind Hook.attendant ≠ some a ∧ Config.keyLimit ≤ s.keyLoad a) := by
      rintro ⟨h1, h2⟩
      rcases hmay with h | h
      · exact h h1
      · exact absurd h (Nat.not_lt.mpr h2)
    intro found
    refine ⟨fun hnone hfull => refused _ ?_, fun hroom => ?_⟩
    · have hfound : s.allocate r.grade r.need r.tier = none := hnone
      simp only [State.reparkPlan, hidle, hright, hlimit, hfound, (waitListFull_iff s).mpr hfull, ne_eq,
        not_true_eq_false, if_false, if_true, Option.isNone_none, Bool.and_self]
    · have hplace : ¬((found.isNone && s.waitListFull) = true) := by
        rw [Bool.and_eq_true, waitListFull_iff, Option.isNone_iff_eq_none]
        rintro ⟨h1, h2⟩
        rcases hroom with h | h
        · exact h h1
        · omega
      refine answers ⟨.done, [.stall (found.map Prod.fst)], fun q => q.reparkCar r a found, none⟩ ?_
      simp only [State.reparkPlan, hidle, ne_eq, not_true_eq_false, if_false]
      rw [if_neg hright, if_neg hlimit, if_neg hplace]

/-- Settles O38: STAGED and REPARK by their plans. -/
theorem stagedAndReparkAreCheckedInOrder : Obligations.StagedAndReparkAreCheckedInOrder :=
  ⟨fun _ _ _ _ _ _ hn => staged_ruled hn, fun _ _ _ _ _ hn => repark_ruled hn⟩

end Sys2Proof.Machine
end

section
/-! ACCEPT and CANCEL CALL from both ports (R7, R8, R101, R127, R148, R188), and the record that ACCEPT creates. -/

namespace Sys2Proof.Machine

open Sys2Proof.Safety

/-! ### The fields of ACCEPT (R7, R188) -/

theorem acceptNeedOf_eq_none (n : Nat) : acceptNeedOf n = none ↔ 2 < n ∧ n ≠ 255 := by
  unfold acceptNeedOf
  by_cases h255 : n = 255
  · simp [h255]
  · simp only [h255, if_false, ne_eq, not_false_eq_true, and_true]
    match n with
    | 0 | 1 | 2 => simp [needOf]
    | m + 3 => simp [needOf]

theorem acceptTierOf_eq_none (n : Nat) : acceptTierOf n = none ↔ 3 < n ∧ n ≠ 255 := by
  unfold acceptTierOf tierOf
  by_cases h255 : n = 255
  · simp [h255]
  · simp [h255]

theorem plateChar_eq_false (ch : Nat) :
    plateChar ch = false ↔ ¬(65 ≤ ch ∧ ch ≤ 90) ∧ ¬(48 ≤ ch ∧ ch ≤ 57) ∧ ch ≠ 32 ∧ ch ≠ 45 := by
  simp only [plateChar, Bool.or_eq_false_iff, Bool.and_eq_false_iff, decide_eq_false_iff_not, beq_eq_false_iff_ne]
  tauto

theorem plateOf_eq_none (p : PlateField) :
    plateOf p = none ↔ 10 < p.len ∨ p.chars.length < p.len ∨
      ∃ ch ∈ p.chars.take p.len, ¬(65 ≤ ch ∧ ch ≤ 90) ∧ ¬(48 ≤ ch ∧ ch ≤ 57) ∧ ch ≠ 32 ∧ ch ≠ 45 := by
  have hlen : (p.chars.take p.len).length = p.len ↔ ¬p.chars.length < p.len := by
    rw [List.length_take]; omega
  have hchars : (p.chars.take p.len).all plateChar = true ↔
      ¬∃ ch ∈ p.chars.take p.len, ¬(65 ≤ ch ∧ ch ≤ 90) ∧ ¬(48 ≤ ch ∧ ch ≤ 57) ∧ ch ≠ 32 ∧ ch ≠ 45 := by
    rw [List.all_eq_true]
    refine ⟨fun h ⟨ch, hch, hbad⟩ => ?_, fun h ch hch => ?_⟩
    · exact absurd (h ch hch) (by simp [(plateChar_eq_false ch).mpr hbad])
    · by_contra hbad
      exact h ⟨ch, hch, (plateChar_eq_false ch).mp (by simpa using hbad)⟩
  unfold plateOf
  simp only [hlen, hchars]
  split
  next h => simp only [reduceCtorEq, false_iff, not_or]; exact ⟨by omega, h.2.1, h.2.2⟩
  next h =>
    simp only [true_iff]
    by_contra hc
    simp only [not_or] at hc
    exact h ⟨by omega, hc.2.1, hc.2.2⟩

theorem folioOf_eq_none (w : OptWord) :
    folioOf w = none ↔ 1 < w.presence ∨ (w.presence = 1 ∧ (w.value = 0 ∨ 4294967296 ≤ w.value)) := by
  unfold folioOf optWordOf
  by_cases h0 : w.presence = 0
  · simp [h0]
  by_cases h1 : w.presence = 1
  · by_cases hlt : w.value < 4294967296
    · have hge : ¬4294967296 ≤ w.value := by omega
      by_cases hzero : w.value = 0
      · simp [h1, hzero]
      · simp [h1, hlt, hzero, hge]
    · simp [h1, hlt, show 4294967296 ≤ w.value by omega]
  · simp [h0, h1, show 1 < w.presence by omega]

theorem optLaneOf_eq_none (n : Nat) : optLaneOf n = none ↔ 1 < n ∧ n ≠ 255 := by
  unfold optLaneOf
  have hlanes : Config.lanes = 2 := rfl
  by_cases h255 : n = 255
  · simp [h255]
  · by_cases hlt : n < Config.lanes
    · simp [h255, hlt]; omega
    · simp [h255, hlt]; omega

theorem arrivalOf_eq_none (grade need tier : Nat) (plate : PlateField) (folio : OptWord) (lane : Nat) :
    arrivalOf grade need tier plate folio lane = none ↔ 15 < grade ∨ acceptNeedOf need = none ∨
      acceptTierOf tier = none ∨ plateOf plate = none ∨ folioOf folio = none ∨ optLaneOf lane = none := by
  unfold arrivalOf
  by_cases hg : 15 < grade
  · simp [hg]
  · rw [if_neg hg]
    split
    next h1 h2 h3 h4 h5 => simp [hg, h1, h2, h3, h4, h5]
    next hsome =>
      simp only [hg, false_or, true_iff]
      by_contra hall
      simp only [not_or, ← ne_eq, Option.ne_none_iff_exists'] at hall
      obtain ⟨⟨n, hn⟩, ⟨t, ht⟩, ⟨p, hp⟩, ⟨f, hf⟩, ⟨l, hl⟩⟩ := hall
      exact hsome n t p f l hn ht hp hf hl

/-! ### ACCEPT's refusals in order, and the accepted car -/

theorem exec_accept_desk (s : State) (req grade need tier : Nat) (plate : PlateField) (folio : OptWord) (lane : Nat) :
    exec (.accept (.desk req) grade need tier plate folio lane) s = deskCommand req 0x10
      (fun s => s.acceptPlan none (arrivalOf grade need tier plate folio lane) deskAccepted) s := rfl

theorem exec_accept_handset (s : State) (h : Handset) (grade need tier : Nat) (plate : PlateField) (folio : OptWord)
    (lane : Nat) :
    exec (.accept (.handset h) grade need tier plate folio lane) s = handsetMessage h 0x05 none
      (fun s => s.boundSender h (handsetAccepted none none) fun a =>
        if (s.attendant a).state = .idle then
          s.acceptPlan (some a) (if siteOk h then arrivalOf grade need tier plate folio lane else none) handsetAccepted
        else refuseWith (handsetAccepted none none) .busy) s := rfl

/-- The fields of ACCEPT as its port hands them on: a handset's site field above 3 holds no value (log entry 16). -/
def acceptFields (port : Port) (given : Option Arrival) : Option Arrival :=
  match port with
  | .desk _ => given
  | .handset h => if h.site ≤ 3 then given else none

/-- What ACCEPT returns on its port. -/
def acceptReturns : Port → Option (Nat × Nat × Nat) → Option StallId → List Value
  | .desk _ => deskAccepted
  | .handset _ => handsetAccepted

section

variable {s : State} {port : Port} {sender : Option Nat} {grade need tier : Nat} {plate : PlateField} {folio : OptWord}
  {lane : Nat}

/-- From a sender that may send it, ACCEPT is ruled by its own plan. -/
theorem acceptAnswers_of_plan {x : Answer} {got : Option (Nat × Nat × Nat)} {stall : Option StallId}
    {f : State → State} (h : AcceptSender s port sender)
    (hp : s.acceptPlan sender (acceptFields port (arrivalOf grade need tier plate folio lane)) (acceptReturns port) =
      { answer := x, fields := acceptReturns port got stall, effect := f, issued := got.map Prod.fst }) :
    AcceptAnswers port (.accept port grade need tier plate folio lane) s x got stall f := by
  cases port with
  | desk req =>
    obtain ⟨hr, rfl⟩ := h
    exact deskAnswers_of_plan rfl (exec_accept_desk s req grade need tier plate folio lane) hr hp
  | handset hs =>
    obtain ⟨a, ⟨hr, hsite, hbound⟩, hidle, rfl⟩ := h
    have hplan := handsetAnswers_of_plan
      (p := { answer := x, fields := handsetAccepted got stall, effect := f, issued := got.map Prod.fst }) rfl
      (exec_accept_handset s hs grade need tier plate folio lane) hr hsite ?_
    · exact hplan
    simpa [State.boundSender, hbound, hidle, siteOk, acceptFields, acceptReturns] using hp

/-- A refusal of ACCEPT. -/
theorem acceptAnswers_refused {a : Answer} (h : AcceptSender s port sender)
    (hp : s.acceptPlan sender (acceptFields port (arrivalOf grade need tier plate folio lane)) (acceptReturns port) =
      refuseWith (acceptReturns port none none) a) :
    AcceptAnswers port (.accept port grade need tier plate folio lane) s a none none id :=
  acceptAnswers_of_plan h hp

end

theorem dispatching_iff (s : State) : s.dispatching = true ↔ s.sa.state = .opened ∨ s.sa.state = .night := by
  simp [State.dispatching]

/-- Settles O9: the fields by their encodings, then the plan of ACCEPT, clause by clause. -/
theorem acceptIsRefusedInOrderOrCreatesARecord : Obligations.AcceptIsRefusedInOrderOrCreatesARecord := by
  constructor
  · intro grade need tier plate folio lane
    rw [arrivalOf_eq_none, acceptNeedOf_eq_none, acceptTierOf_eq_none, plateOf_eq_none, folioOf_eq_none,
      optLaneOf_eq_none]
  intro port grade need tier plate folio lane s c given fields
  constructor
  · rintro h a rfl ⟨hr, hsite, hbound⟩ hbusy
    have hplan := handsetAnswers_of_plan (p := refuseWith (handsetAccepted none none) .busy) rfl
      (exec_accept_handset s h grade need tier plate folio lane) hr hsite
      (by simp [State.boundSender, hbound, hbusy])
    exact hplan
  intro sender hsender
  have hfields : acceptFields port given = fields := by cases port <;> rfl
  refine ⟨fun h1 h2 => acceptAnswers_refused hsender ?_, fun hopen => ?_⟩
  · have hclosed : s.dispatching = false := by
      rw [← Bool.not_eq_true, dispatching_iff]; exact not_or.mpr ⟨h1, h2⟩
    simp [State.acceptPlan, hclosed]
  have hdisp : s.dispatching = true := (dispatching_iff s).mpr hopen
  refine ⟨fun hnone => acceptAnswers_refused hsender ?_, fun f hf => ⟨fun hfull => acceptAnswers_refused hsender ?_,
    fun hroom => ⟨fun hnone => acceptAnswers_refused hsender ?_, fun hook hhook => ?_⟩⟩⟩
  · rw [hfields, hnone]
    simp [State.acceptPlan, hdisp]
  · have hfull : Config.recordSlots ≤ s.ct.records.length := hfull
    rw [hfields, hf]
    simp [State.acceptPlan, hdisp, hfull]
  all_goals
    have hslots : ¬Config.recordSlots ≤ s.ct.records.length := Nat.not_le.mpr hroom
  · rw [hfields, hf]
    simp [State.acceptPlan, hdisp, hslots, hnone]
  · intro found
    refine ⟨fun hnone hwait => acceptAnswers_refused hsender ?_, fun hplace => acceptAnswers_of_plan hsender ?_⟩
    · have hfound : s.allocate f.grade f.need f.tier = none := hnone
      rw [hfields, hf]
      simp [State.acceptPlan, hdisp, hslots, hhook, hfound, (waitListFull_iff s).mpr hwait]
    · have htaken : ¬((found.isNone && s.waitListFull) = true) := by
        rw [Bool.and_eq_true, waitListFull_iff, Option.isNone_iff_eq_none]
        rintro ⟨h1, h2⟩
        rcases hplace with h | h
        · exact h h1
        · omega
      rw [hfields, hf]
      simp only [State.acceptPlan, hdisp, Bool.not_true, Bool.false_eq_true, if_false, hhook]
      rw [if_neg hslots, if_neg htaken]
      rfl

/-! ### CANCEL CALL, check by check (R101, R127) -/

theorem exec_cancelCall_desk (s : State) (q t e : Nat) :
    exec (.cancelCall (.desk q) t e) s = deskCommand q 0x41 (fun s => s.deskRecord t e true s.cancelPlan) s := rfl

theorem exec_cancelCall_handset (s : State) (h : Handset) (t e : Nat) :
    exec (.cancelCall (.handset h) t e) s =
      handsetTicket h 0x08 t (fun s a r => s.actingOnly a r (s.cancelPlan r)) s := rfl

/-- The plan of CANCEL CALL, by the record's entry: every clause, for any way of answering that follows the plan. -/
theorem cancelPlan_ruled {s : State} {t : Nat} {r : Record} (ht : r.ticket = t) {refused : Answer → Prop} {taken : Prop}
    (hrefused : ∀ a, s.cancelPlan r = refuse a → refused a)
    (htaken : s.cancelPlan r = done (fun q => q.cancelCall r) → taken) :
    (s.entry? t = none → refused .wrongState) ∧
    ∀ x, s.entry? t = some x →
      (x.kind = .move → refused .wrongState) ∧
      (x.kind = .fetch →
        (x.status = .taken → refused .tooLate) ∧
        (x.status ≠ .taken →
          (r.state = .called → r.stall = none → 24 ≤ s.sm.waitList.length → refused .waitlistFull) ∧
          (¬(r.state = .called ∧ r.stall = none ∧ 24 ≤ s.sm.waitList.length) → taken))) := by
  subst ht
  refine ⟨fun hnone => hrefused _ ?_, fun x hx => ⟨fun hkind => hrefused _ ?_, fun hkind => ⟨fun hst => hrefused _ ?_,
    fun hst => ⟨fun hcalled hstall hfull => hrefused _ ?_, fun hroom => htaken ?_⟩⟩⟩⟩
  · simp [State.cancelPlan, hnone]
  · simp [State.cancelPlan, hx, hkind]
  · simp [State.cancelPlan, hx, hkind, hst]
  · simp [State.cancelPlan, hx, hkind, hst, hcalled, hstall, (waitListFull_iff s).mpr hfull]
  · have hroom : ¬(r.state = .called ∧ r.stall = none ∧ s.waitListFull = true) := by rwa [waitListFull_iff]
    simp only [State.cancelPlan, hx, hkind, hst, ne_eq, not_true_eq_false, if_false]
    rw [if_neg hroom]

theorem cancelCall_ruled (s : State) (t e : Nat) (r : Record) :
    let ruled (refused : Answer → Prop) (taken : Prop) : Prop :=
      (s.entry? t = none → refused .wrongState) ∧
      ∀ x, s.entry? t = some x →
        (x.kind = .move → refused .wrongState) ∧
        (x.kind = .fetch →
          (x.status = .taken → refused .tooLate) ∧
          (x.status ≠ .taken →
            (r.state = .called → r.stall = none → 24 ≤ s.sm.waitList.length → refused .waitlistFull) ∧
            (¬(r.state = .called ∧ r.stall = none ∧ 24 ≤ s.sm.waitList.length) → taken)))
    (∀ q, DeskNames s t e r →
      let c := Instr.cancelCall (.desk q) t e
      ruled (fun a => DeskReports c s a []) (DeskAnswers c s (s.begin.cancelCall r) .done [])) ∧
    ∀ h a, HandsetNames s h a t r →
      let c := Instr.cancelCall (.handset h) t e
      (¬MayAct s a r → HandsetAnswers c s .notYours (some t) [] id) ∧
      (MayAct s a r →
        ruled (fun x => HandsetAnswers c s x (some t) [] id)
          (HandsetAnswers c s .done (some t) [] fun q => q.cancelCall r)) := by
  intro ruled
  refine ⟨fun q h => ?_, fun h a hn => ?_⟩
  · have he := exec_cancelCall_desk s q t e
    exact cancelPlan_ruled (record?_ticket s t r h.2.2.2.1) (fun a hp => deskReports_named h rfl rfl he hp)
      fun hp => deskAnswers_named h rfl rfl he hp
  · intro c
    have answers (p : Plan) (hp : s.actingOnly a r (s.cancelPlan r) = p) :
        HandsetAnswers c s p.answer (some t) p.fields p.effect :=
      handsetAnswers_ticket hn rfl (exec_cancelCall_handset s h t e) hp
    refine ⟨fun hact => answers _ (actingOnly_of_not_mayAct hact _), fun hact => ?_⟩
    rw [actingOnly_of_mayAct hact] at answers
    exact cancelPlan_ruled (record?_ticket s t r hn.2.2.2) (fun x hp => answers (refuse x) hp) fun hp => answers _ hp

end Sys2Proof.Machine
end

section
/-! The record that ACCEPT creates (R1, R2, R8, R33, R72, R122, R131). -/

namespace Sys2Proof.Machine

open Sys2Proof.Safety

theorem find?_insertRecord_self (r : Record) (l : List Record) (h : ∀ q ∈ l, q.ticket ≠ r.ticket) :
    (insertRecord r l).find? (fun q => q.ticket == r.ticket) = some r := by
  induction l with
  | nil => simp [insertRecord]
  | cons p ps ih =>
    have hp : p.ticket ≠ r.ticket := h p List.mem_cons_self
    unfold insertRecord
    split
    · simp
    · simpa [hp] using ih fun q hq => h q (List.mem_cons_of_mem _ hq)

/-- ACCEPT before a stall is held or the wait list joined: the capture taken, the record in the table, its ticket in the
counter, its hook bound. -/
def State.enrol (s : State) (f : Arrival) (hook : Nat) (found : Bool) (sender : Option Nat) : State :=
  let q := (s.takeArrival f.lane).addRecord (s.newRecord f hook found sender)
  ({ q with ct := { q.ct with counter := s.nextTicket } }).bindHook hook s.nextTicket

theorem acceptCar_some (s : State) (f : Arrival) (hook : Nat) (st : StallId) (fallback : Bool) (sender : Option Nat) :
    s.acceptCar f hook (some (st, fallback)) sender =
      (((s.enrol f hook true sender).holdStall s.nextTicket st).noteFallback s.nextTicket fallback).startParking sender :=
  rfl

theorem acceptCar_none (s : State) (f : Arrival) (hook : Nat) (sender : Option Nat) :
    s.acceptCar f hook none sender = (s.enrol f hook false sender).joinWaitList s.nextTicket := rfl

section

variable (s : State) (f : Arrival) (hook : Nat) (found : Bool) (sender : Option Nat)

@[simp] theorem State.takeArrival_frame (l : Option Nat) :
    (s.takeArrival l).ct = s.ct ∧ (s.takeArrival l).sm = s.sm ∧ (s.takeArrival l).kc = s.kc ∧
      (s.takeArrival l).dr = s.dr := by
  cases l <;> simp [State.takeArrival]

@[simp] theorem State.enrol_frame :
    (s.enrol f hook found sender).sm = s.sm ∧ (s.enrol f hook found sender).dr = s.dr ∧
      (s.enrol f hook found sender).km = (s.takeArrival f.lane).km ∧
      (s.enrol f hook found sender).ct.counter = s.nextTicket := by
  simp [State.enrol]

/-- Only the named lane gives up its oldest capture (R131). -/
theorem lane_enrol (l : Nat) :
    (s.enrol f hook found sender).lane l =
      if f.lane = some l then { s.lane l with fifo := (s.lane l).fifo.tail } else s.lane l := by
  rw [lane_congr (State.enrol_frame s f hook found sender).2.2.1]
  cases hl : f.lane with
  | none => simp [State.takeArrival]
  | some m =>
    rw [State.takeArrival, lane_modLane _ _ _ _ rfl]
    simp [eq_comm]

/-- The hook becomes AWAIT for the record, and no command is sent: both positions are open (R71, R72). -/
theorem hook?_enrol {k : Hook} (hk : s.hook? hook = some k) (hfree : k.state = .free) :
    (s.enrol f hook found sender).hook? hook = some { k with state := .await, bound := some s.nextTicket } ∧
      (s.enrol f hook found sender).kc.sent = s.kc.sent := by
  unfold State.enrol State.bindHook
  set q : State := { ((s.takeArrival f.lane).addRecord (s.newRecord f hook found sender)) with
    ct := { ((s.takeArrival f.lane).addRecord (s.newRecord f hook found sender)).ct with counter := s.nextTicket } }
  have hkc : q.kc = s.kc := by simp [q]
  have hkq : q.hook? hook = some k := by rw [hook?_congr hkc, hk]
  obtain ⟨hhook, hsent⟩ := hook?_updHook_quiet q hook (fun k => { k with state := .await, bound := some s.nextTicket })
    k hkq (by simp [Hook.required, hfree])
  exact ⟨hhook, hsent.trans (by rw [hkc])⟩

/-- The new record is the one its ticket names. -/
theorem record?_enrol (hlen : s.ct.records.length < 1024) :
    (s.enrol f hook found sender).record? s.nextTicket = some (s.newRecord f hook found sender) := by
  have hfresh := (nextTicket_spec hlen).2.2
  have hct : (s.enrol f hook found sender).ct.records = insertRecord (s.newRecord f hook found sender) s.ct.records := by
    simp [State.enrol, State.addRecord]
  rw [State.record?, hct]
  exact find?_insertRecord_self (s.newRecord f hook found sender) s.ct.records hfresh

end

/-- Settles O10: what `enrol` leaves, then the stall held or the wait list joined. -/
theorem newRecordHasItsCreationValues : Obligations.NewRecordHasItsCreationValues := by
  intro s f hook found sender hsound hlen t
  obtain ⟨hticket1, hticket2, hfresh⟩ := nextTicket_spec hlen
  obtain ⟨-, hfree, hlowest⟩ := nextSlot_spec hsound hlen
  have hnew : s.record? s.nextTicket = none := by
    simpa [State.record?] using hfresh
  rcases found with _ | ⟨st, fallback⟩
  · have ht : t = (s.enrol f hook false sender).joinWaitList s.nextTicket := acceptCar_none s f hook sender
    refine ⟨⟨hnew, hticket1, hticket2, by simp [ht]⟩, fun k hk hkfree => ?_, fun l hl => ?_, fun l hl => ?_, ?_, ?_, ?_,
      s.newRecord f hook false sender, ?_, hfree, hlowest, ?_⟩
    · simpa [ht] using hook?_enrol s f hook false sender hk hkfree
    · simp [ht, lane_enrol, hl]
    · simp [ht, lane_enrol, hl]
    · simp
    · simp
    · simp [ht]
    · simpa [ht] using record?_enrol s f hook false sender hlen
    · simp [State.newRecord, ht]
  · have ht : t = _ := acceptCar_some s f hook st fallback sender
    refine ⟨⟨hnew, hticket1, hticket2, ?_⟩, fun k hk hkfree => ?_, fun l hl => ?_, fun l hl => ?_, ?_, ?_, ?_,
      { s.newRecord f hook true sender with stall := some st, flags := { chargeUnmet := fallback } }, ?_, hfree,
      hlowest, ?_⟩
    · cases sender <;> simp [ht]
    · simpa [ht] using hook?_enrol s f hook true sender hk hkfree
    · simp [ht, lane_enrol, hl]
    · simp [ht, lane_enrol, hl]
    · rintro st' fallback' x ⟨⟩ hx
      rw [ht]
      simp [stall?_holdStall, stall?_congr (State.enrol_frame s f hook true sender).1, hx, Stall.resetRuns]
    · rintro a rfl - ha
      simp [ht, State.startParking, ha]
    · rintro (rfl | hnone)
      · simp [ht, State.startParking]
      · cases hnone
    · rw [ht]
      cases fallback <;>
        simp [record?_enrol s f hook true sender hlen, State.newRecord, RecordFlags.stallChanged]
    · simp [State.newRecord, ht]

end Sys2Proof.Machine
end

section
/-! What a suspension does to the record, its hook, its entry and the attendant of its job (R19, R80, R122, R124, R152). -/

namespace Sys2Proof.Machine

open Sys2Proof.Safety

/-! ### Attendants of a job withdrawn -/

/-- The idle list and the roster after a return to the front depend on the roster alone. -/
theorem idleFront_dr_congr {q s : State} (h : q.dr = s.dr) (a : Nat) : (q.idleFront a).dr = (s.idleFront a).dr := by
  have hinsert (since : Time) (l : List Nat) : q.insertIdle a since l = s.insertIdle a since l := by
    induction l with
    | nil => rfl
    | cons b bs ih => simp only [State.insertIdle, ih, attendant_congr h]
  simp only [State.idleFront, State.lookDue_frame, State.setIdle, State.modAttendant, attendant_congr h, hinsert, h]

/-- After a return to the back they depend on the roster and on the elapsed count. -/
theorem idleBack_dr_congr {q s : State} (h : q.dr = s.dr) (hsa : q.sa = s.sa) (a : Nat) :
    (q.idleBack a).dr = (s.idleBack a).dr := by
  simp only [State.idleBack, State.lookDue_frame, State.setIdle, State.modAttendant, h, hsa]

/-- WITHDRAWN joins the transmit buffer (R150, R152, R155). -/
theorem withdrawnSent_sendWithdrawn {q s : State} (hdr : q.dr = s.dr) (hlk : q.lk = s.lk) (a t reason : Nat) :
    WithdrawnSent s a t reason (q.sendWithdrawn a t reason).lk.tx := by
  intro identity hon hhandset hroom
  have hroom : s.lk.tx.length < Config.txPlaces := hroom
  have hsigned : q.signedOn a = true := by simp [State.signedOn, attendant_congr hdr, hon]
  simp [State.sendWithdrawn, State.sendTo, hsigned, attendant_congr hdr, hhandset, State.pushFrame, hlk, hroom]

@[simp] theorem State.idleFront_due (s : State) (a : Nat) : (s.idleFront a).due = { s.due with look := true } := rfl

@[simp] theorem State.idleBack_due (s : State) (a : Nat) : (s.idleBack a).due = { s.due with look := true } := rfl

/-- The removal of an entry is a trigger for the serving pass (R96). -/
theorem removeEntry_serve {s : State} {t : Nat} {e : Entry} (he : s.entry? t = some e) :
    (s.removeEntry t).due.serve = true := by
  simp [State.removeEntry, he, State.serveDue]

theorem dropEntry_serve {s : State} {t : Nat} (he : s.entry? t ≠ none) : (s.dropEntry t).due.serve = true := by
  obtain ⟨e, he⟩ := Option.ne_none_iff_exists'.mp he
  unfold State.dropEntry
  simp only [he]
  split <;> simp [State.withdrawOffer, State.suspendJob, removeEntry_serve he]

@[simp] theorem State.removeEntry_dr (s : State) (t : Nat) : (s.removeEntry t).dr = s.dr := by simp

/-- A dropped entry that nobody works on leaves roster and links (R124). -/
theorem dropEntry_queued {s : State} {t : Nat} (h : ∀ x, s.entry? t = some x → x.status = .queued) :
    (s.dropEntry t).dr = s.dr ∧ (s.dropEntry t).lk = s.lk := by
  unfold State.dropEntry
  split
  · exact ⟨rfl, rfl⟩
  next e he =>
    simp only [h e he]
    simp

/-- A dropped entry that was offered returns its attendant to the front, told WITHDRAWN with reason 0 (R124). -/
theorem dropEntry_offered {s : State} {t a : Nat} {x : Entry} (hx : s.entry? t = some x) (hst : x.status = .offered)
    (ha : x.attendant = some a) :
    (s.dropEntry t).dr = (s.idleFront a).dr ∧ WithdrawnSent s a t 0 (s.dropEntry t).lk.tx := by
  have hq : s.dropEntry t = ((s.removeEntry t).sendWithdrawn a t 0).idleFront a := by
    simp only [State.dropEntry, hx, hst, ha]; rfl
  rw [hq]
  exact ⟨idleFront_dr_congr (by simp) a, withdrawnSent_sendWithdrawn (by simp) (by simp) a t 0⟩

/-- A dropped entry that was taken returns its attendant to the back, told WITHDRAWN with reason 1 (R122, R124). -/
theorem dropEntry_taken {s : State} {t a : Nat} {x : Entry} (hx : s.entry? t = some x) (hst : x.status = .taken)
    (ha : x.attendant = some a) :
    (s.dropEntry t).dr = (s.idleBack a).dr ∧ WithdrawnSent s a t 1 (s.dropEntry t).lk.tx := by
  have hq : s.dropEntry t = ((s.removeEntry t).sendWithdrawn a t 1).idleBack a := by
    simp only [State.dropEntry, hx, hst, ha]; rfl
  rw [hq]
  exact ⟨idleBack_dr_congr (by simp) (by simp) a, withdrawnSent_sendWithdrawn (by simp) (by simp) a t 1⟩

/-- The parker is left alone where the record is not INBOUND, names no attendant, or has a MOVE entry (R122). -/
theorem suspendParker_none {s : State} {r : Record}
    (h : r.state ≠ .inbound ∨ r.attendant = none ∨ s.hasEntry r.ticket .move = true) : s.suspendParker r = s := by
  unfold State.suspendParker
  split
  next a hst ha => rcases h with h | h | h <;> simp_all
  · rfl

/-! ### The hook of a suspended record (R80) -/

/-- The windows that a suspension ends at once: an OPEN hook in panel service, and a second period. -/
def Hook.windowEnds (service : Bool) (k : Hook) : Prop :=
  (k.state = .opened ∧ service = true) ∨ (k.state = .held ∧ k.phase = .running)

/-- The windows that a suspension closes: an OPEN hook out of service, in phase RUNNING or CLOSING. -/
def Hook.windowCloses (service : Bool) (k : Hook) : Prop :=
  k.state = .opened ∧ service = false ∧ (k.phase = .running ∨ k.phase = .closing)

section

variable {s : State} {h : Nat} {k : Hook}

theorem endWindow_ends (hk : s.hook? h = some k) (hends : k.windowEnds (s.hookInService h)) :
    (s.endWindow h).hook? h = some k.windowEnded := by
  have hq : s.endWindow h = s.updHook h Hook.windowEnded := by
    rcases hends with ⟨hst, hserv⟩ | ⟨hst, hph⟩
    · simp [State.endWindow, hk, hst, hserv]
    · simp [State.endWindow, hk, hst, hph]
  have hreq : k.windowEnded.required (s.hookInService h) = k.required (s.hookInService h) := by
    rcases hends with ⟨hst, hserv⟩ | ⟨hst, hph⟩
    · simp [Hook.required, hserv]
    · simp [Hook.required, Hook.windowEnded, hst]
  rw [hq]
  exact (hook?_updHook_quiet s h _ k hk hreq).1

theorem endWindow_closes (hk : s.hook? h = some k) (hcloses : k.windowCloses (s.hookInService h)) :
    ∃ k', (s.endWindow h).hook? h = some k' ∧ k'.state = .opened ∧ k'.phase = .ending ∧ k'.window = none ∧
      k'.attendant = k.attendant ∧ k'.bound = k.bound ∧
      (k.phase = .running → k'.latch = some .closed ∧ (s.endWindow h).kc.sent = s.kc.sent ++ [⟨h, .closed⟩]) ∧
      (k.phase = .closing → k'.latch = k.latch ∧ (s.endWindow h).kc.sent = s.kc.sent) := by
  obtain ⟨hst, hserv, hph⟩ := hcloses
  have hq : s.endWindow h = s.updHook h fun k => { k with window := none, phase := .ending } := by
    simp [State.endWindow, hk, hst, hserv, hph]
  rw [hq]
  rcases hph with hph | hph
  · obtain ⟨hhook, hsent⟩ := hook?_updHook_moved s h (fun k => { k with window := none, phase := .ending }) k hk
      (by simp [Hook.required, hst, hserv, hph])
    refine ⟨_, hhook, hst, rfl, rfl, rfl, rfl, fun _ => ⟨?_, ?_⟩, fun hc => absurd (hph.symm.trans hc) (by decide)⟩
    · simp [Hook.required, hst, hserv]
    · rw [hsent]; simp [Hook.required, hst, hserv]
  · obtain ⟨hhook, hsent⟩ := hook?_updHook_quiet s h (fun k => { k with window := none, phase := .ending }) k hk
      (by simp [Hook.required, hst, hserv, hph])
    exact ⟨_, hhook, hst, rfl, rfl, rfl, rfl, fun hc => absurd (hph.symm.trans hc) (by decide), fun _ => ⟨rfl, hsent⟩⟩

theorem endWindow_stays (hk : s.hook? h = some k) (hends : ¬k.windowEnds (s.hookInService h))
    (hcloses : ¬k.windowCloses (s.hookInService h)) : s.endWindow h = s := by
  unfold Hook.windowEnds at hends
  unfold Hook.windowCloses at hcloses
  unfold State.endWindow
  simp only [hk]
  split
  next hst =>
    have hserv : s.hookInService h = false := by
      rw [← Bool.not_eq_true]; exact fun hs => hends (Or.inl ⟨hst, hs⟩)
    have hph : ¬(k.phase = .running ∨ k.phase = .closing) := fun hp => hcloses ⟨hst, hserv, hp⟩
    simp [hserv, hph]
  next hst => simp [show k.phase ≠ .running from fun hp => hends (Or.inr ⟨hst, hp⟩)]
  · rfl

theorem hook?_endWindow_other {g : Nat} (hg : g ≠ h) : (s.endWindow h).hook? g = s.hook? g := by
  unfold State.endWindow
  repeat' split
  all_goals simp only [hook?_updHook_other s h g _ hg]

/-- A window ended gives no key away: the record's key is with the attendant it was with (R19). -/
theorem keyHolder_endWindow (s : State) (r : Record) : (s.endWindow r.hook).keyHolder r = s.keyHolder r := by
  cases hk : s.hook? r.hook with
  | none => simp [State.endWindow, hk]
  | some k =>
    by_cases hends : k.windowEnds (s.hookInService r.hook)
    · have hout : k.state ≠ .out := by rcases hends with ⟨hst, -⟩ | ⟨hst, -⟩ <;> simp [hst]
      simp [State.keyHolder, hk, endWindow_ends hk hends, Hook.windowEnded, hout]
    · by_cases hcloses : k.windowCloses (s.hookInService r.hook)
      · obtain ⟨k', hk', hst', -⟩ := endWindow_closes hk hcloses
        simp [State.keyHolder, hk, hk', hst', hcloses.1]
      · rw [endWindow_stays hk hends hcloses]

end

@[simp] theorem State.updHook_serve (s : State) (h : Nat) (f : Hook → Hook) :
    (s.updHook h f).due.serve = s.due.serve := by
  unfold State.updHook
  split
  · rfl
  · dsimp only; split <;> simp

@[simp] theorem State.endWindow_serve (s : State) (h : Nat) : (s.endWindow h).due.serve = s.due.serve := by
  unfold State.endWindow
  repeat' split
  all_goals simp

/-! ### The suspension (R19) -/

/-- The record as a suspension leaves it. -/
def Record.suspended (limit : Nat) (holder : Option Nat) (why : SuspendReason) (r : Record) : Record :=
  { r.enter .suspended limit with call := none, attendant := holder, reason := some why }

section

variable {s : State} {t : Nat} {r : Record}

/-- The state in which the record is set aside: its parker, its entry, its place on the wait list and its window gone. -/
def State.cutLoose (s : State) (t : Nat) (r : Record) : State :=
  (((s.suspendParker r).dropEntry t).leaveWaitList t).endWindow r.hook

theorem suspend_eq (hr : s.record? t = some r) (why : SuspendReason) :
    s.suspend t why = ((s.cutLoose t r).setState t .suspended).modRecord t fun q =>
      { q with call := none, attendant := s.keyHolder r, reason := some why } := by
  have hholder : (s.cutLoose t r).keyHolder r = s.keyHolder r := by
    rw [State.cutLoose, keyHolder_endWindow]
    simp [State.keyHolder, hook?_congr (q := ((s.suspendParker r).dropEntry t).leaveWaitList t) (s := s) (by simp)]
  simp only [State.suspend, hr]
  rw [← hholder]
  rfl

@[simp] theorem State.cutLoose_frame :
    (s.cutLoose t r).ct = s.ct ∧ (s.cutLoose t r).jq = ((s.suspendParker r).dropEntry t).jq ∧
      (s.cutLoose t r).dr = ((s.suspendParker r).dropEntry t).dr ∧
      (s.cutLoose t r).lk = ((s.suspendParker r).dropEntry t).lk ∧
      (s.cutLoose t r).sm.zones = s.sm.zones ∧ (s.cutLoose t r).sm.waitList = s.sm.waitList.filter (· != t) := by
  simp [State.cutLoose]

@[simp] theorem suspend_record? (hr : s.record? t = some r) (why : SuspendReason) (u : Nat) :
    (s.suspend t why).record? u =
      (s.record? u).map (if u = t then Record.suspended s.ct.parkLimit (s.keyHolder r) why else id) := by
  rw [suspend_eq hr]
  by_cases hu : u = t
  · subst hu
    simp [record?_congr (State.cutLoose_frame (s := s) (t := u) (r := r)).1, hr, Record.suspended]
  · simp [record?_congr (State.cutLoose_frame (s := s) (t := t) (r := r)).1, hu]

theorem suspend_frame (hr : s.record? t = some r) (why : SuspendReason) :
    (s.suspend t why).jq = ((s.suspendParker r).dropEntry t).jq ∧
      (s.suspend t why).dr = ((s.suspendParker r).dropEntry t).dr ∧
      (s.suspend t why).lk = ((s.suspendParker r).dropEntry t).lk ∧ (s.suspend t why).kc = (s.cutLoose t r).kc ∧
      (s.suspend t why).sm.waitList = s.sm.waitList.filter (· != t) := by
  rw [suspend_eq hr]; simp

/-- A suspension's work at the hook is the end of the window (R80). -/
theorem suspend_hook (hr : s.record? t = some r) (why : SuspendReason) :
    ∃ p : State, p.hook? = s.hook? ∧ p.hookInService = s.hookInService ∧ p.kc.sent = s.kc.sent ∧
      (s.suspend t why).hook? = (p.endWindow r.hook).hook? ∧
      (s.suspend t why).kc.sent = (p.endWindow r.hook).kc.sent := by
  have hkc := (suspend_frame hr why).2.2.2.1
  exact ⟨((s.suspendParker r).dropEntry t).leaveWaitList t, hook?_congr (by simp), hookInService_congr (by simp),
    by simp, hook?_congr hkc, congrArg Cabinet.sent hkc⟩

end

/-- Settles O14: the record, the entry and the wait list, the hook, and the attendant of the job. -/
theorem suspensionSetsTheRecordAside : Obligations.SuspensionSetsTheRecordAside := by
  intro s t r why hr q
  have hticket : r.ticket = t := record?_ticket s t r hr
  obtain ⟨hjq, hdr, hlk, -, hwait⟩ := suspend_frame hr why
  refine ⟨?_, ⟨?_, ?_, ?_, ?_⟩, fun k hk => ?_, fun x a hx ha hjob => ?_, fun a hin ha hqueued => ?_,
    fun hpark hqueued => ?_⟩
  · refine ⟨r.suspended s.ct.parkLimit (s.keyHolder r) why, by simp [q, suspend_record? hr, hr], rfl, rfl, rfl, rfl, rfl,
      fun hin => ?_, rfl, rfl, rfl⟩
    simp [Record.suspended, RecordFlags.leave, hin]
  · rw [entry?_congr hjq]; simp
  · simp [q, hwait]
  · intro u hu
    simp [q, suspend_record? hr, hu]
  · intro he
    have hserve : ((s.suspendParker r).dropEntry t).due.serve = true := dropEntry_serve (by simpa using he)
    simp only [q, suspend_eq hr, State.cutLoose, State.modRecord_frame, State.setState_frame, State.endWindow_serve,
      State.leaveWaitList_frame, hserve]
  · obtain ⟨p, hhook, hserv, hsent, hqhook, hqsent⟩ := suspend_hook hr why
    have hpk : p.hook? r.hook = some k := by rw [hhook, hk]
    intro service ends closes
    have hpserv : p.hookInService r.hook = service := congrFun hserv _
    refine ⟨fun hends => ?_, fun hcloses => ?_, fun hends hcloses => ?_⟩
    · rw [hqhook]
      exact endWindow_ends hpk (hpserv ▸ hends)
    · rw [hqhook, hqsent, ← hsent]
      exact endWindow_closes hpk (hpserv ▸ hcloses)
    · rw [hqhook, hqsent, endWindow_stays hpk (hpserv ▸ hends) (hpserv ▸ hcloses)]
      exact ⟨hpk, hsent⟩
  · have hidle : s.suspendParker r = s := by
      refine suspendParker_none ?_
      rcases hjob with hst | hkind
      · exact Or.inl hst
      · exact Or.inr (Or.inr (by simp [State.hasEntry, hticket, hx, hkind]))
    rw [hidle] at hdr hlk
    exact ⟨fun hst => by rw [hdr, hlk]; exact dropEntry_offered hx hst ha,
      fun hst => by rw [hdr, hlk]; exact dropEntry_taken hx hst ha⟩
  · have hnomove : s.hasEntry t .move = false := by
      cases hx : s.entry? t with
      | none => simp [State.hasEntry, hx]
      | some x => simp [State.hasEntry, hx, (hqueued x hx).1]
    have hpark : s.suspendParker r = (s.sendWithdrawn a t 1).idleBack a := by
      simp only [State.suspendParker, hin, ha, hticket, hnomove, Bool.false_eq_true, if_false]; rfl
    obtain ⟨hdrop, hdroplk⟩ := dropEntry_queued (s := s.suspendParker r) (t := t)
      fun x hx => (hqueued x (by simpa using hx)).2
    rw [hdr, hlk, hdrop, hdroplk, hpark]
    exact ⟨idleBack_dr_congr (by simp) (by simp) a, withdrawnSent_sendWithdrawn rfl rfl a t 1⟩
  · have hidle : s.suspendParker r = s := suspendParker_none (hpark.imp_right Or.inl)
    rw [hidle] at hdr hlk
    obtain ⟨hdrop, hdroplk⟩ := dropEntry_queued hqueued
    exact ⟨hdr.trans hdrop, hlk.trans hdroplk⟩

end Sys2Proof.Machine
end

section
/-! What a new call and a cancelled call leave of the record, the queue and the wait list (R12, R13, R96, R99 to R101, R124). -/

namespace Sys2Proof.Machine

open Sys2Proof.Safety

/-! ### A new call -/

/-- What a record leaves behind as it is called, by its state (R12). -/
def State.leaveForCall (s : State) (r : Record) : State :=
  match r.state with
  | .waiting => (s.leaveWaitList r.ticket).setState r.ticket .called
  | .granted => ((s.dropEntry r.ticket).releaseStall r.ticket).setState r.ticket .called
  | .inbound => s
  | _ => s.setState r.ticket .called

theorem newCall_eq (s : State) (r : Record) (c : CallField) :
    s.newCall r c = ((s.leaveForCall r).setCall r.ticket c).addEntry (Entry.ofCall r c) := rfl

section

variable {s : State} {r : Record}

/-- The record as it is called: an INBOUND one as it was, every other CALLED, a GRANTED one without its stall (R12). -/
theorem leaveForCall_record? (hr : s.record? r.ticket = some r) :
    ∃ r', (s.leaveForCall r).record? r.ticket = some r' ∧
      r'.state = (if r.state = .inbound then .inbound else .called) ∧
      (r.state = .granted → r'.stall = none) ∧ (r.state ≠ .granted → r'.stall = r.stall) := by
  unfold State.leaveForCall
  cases hst : r.state <;> simp [hr, hst]

/-- No entry stands for the record when its FETCH entry joins: a GRANTED record's MOVE entry is dropped (R12, R124). -/
theorem leaveForCall_entry? (h : r.state ≠ .granted → s.entry? r.ticket = none) :
    (s.leaveForCall r).entry? r.ticket = none := by
  by_cases hgranted : r.state = .granted
  · simp [State.leaveForCall, hgranted]
  · unfold State.leaveForCall
    split <;> simp_all

@[simp] theorem addEntry_waitList (s : State) (e : Entry) : (s.addEntry e).sm.waitList = s.sm.waitList := by simp

end

/-- Settles O23: the record leaves its old state, then takes the call field and the FETCH entry. -/
theorem newCallMakesTheRecordCalledWithAFetchEntry : Obligations.NewCallMakesTheRecordCalledWithAFetchEntry := by
  intro s r call hr _ hentry q
  have hq : q = ((s.leaveForCall r).setCall r.ticket call).addEntry (Entry.ofCall r call) := newCall_eq s r call
  refine ⟨?_, fun hwaiting => ?_, ?_⟩
  · obtain ⟨r', hr', hstate, hstall⟩ := leaveForCall_record? hr
    exact ⟨{ r' with call := some call }, by simp [hq, State.setCall, hr'], rfl, hstate, hstall⟩
  · simp [hq, State.setCall, State.leaveForCall, hwaiting, State.leaveWaitList, State.setWaitList]
  · rw [hq]
    exact entry?_addEntry_self _ (Entry.ofCall r call)
      (by simpa [State.setCall, Entry.ofCall, Entry.queued] using leaveForCall_entry? hentry)

/-! ### A call cancelled -/

/-- A cancelled call's entry and call field are gone; what follows is the record's own move (R13). -/
def State.uncall (s : State) (t : Nat) : State := (s.dropEntry t).modRecord t fun q => { q with call := none }

section

variable {s : State} {r : Record}

theorem cancelCall_stored (hcalled : r.state = .called) (hstall : r.stall ≠ none) :
    s.cancelCall r = (s.uncall r.ticket).setState r.ticket .stored := by
  obtain ⟨st, hst⟩ := Option.ne_none_iff_exists'.mp hstall
  simp only [State.cancelCall, hcalled, hst, State.uncall]

theorem cancelCall_waiting (hcalled : r.state = .called) (hstall : r.stall = none) :
    s.cancelCall r = ((s.uncall r.ticket).enterWaiting r.ticket).serveDue := by
  simp only [State.cancelCall, hcalled, hstall, State.uncall]

theorem cancelCall_stays (hcalled : r.state ≠ .called) : s.cancelCall r = s.uncall r.ticket := by
  unfold State.cancelCall
  split
  · contradiction
  · contradiction
  · rfl

/-- The wait list is apart from the stalls. -/
@[simp] theorem stall?_joinWaitList (s : State) (t : Nat) : (s.joinWaitList t).stall? = s.stall? := rfl

@[simp] theorem State.serveDue_serve (s : State) : s.serveDue.due.serve = true := rfl

/-- Whatever the record's state, a cancelled call changes nothing else (R13). -/
theorem cancelCall_frame (he : s.entry? r.ticket ≠ none) :
    (s.cancelCall r).jq = (s.dropEntry r.ticket).jq ∧ (s.cancelCall r).dr = (s.dropEntry r.ticket).dr ∧
      (s.cancelCall r).lk = (s.dropEntry r.ticket).lk ∧ (s.cancelCall r).kc = s.kc ∧
      (s.cancelCall r).due.serve = true ∧ (∀ u, u ≠ r.ticket → (s.cancelCall r).record? u = s.record? u) ∧
      ∀ z i, ((s.cancelCall r).stall? z i).map Stall.holder = (s.stall? z i).map Stall.holder := by
  have hserve := dropEntry_serve he
  by_cases hcalled : r.state = .called
  · by_cases hstall : r.stall = none
    · rw [cancelCall_waiting hcalled hstall]
      simp +contextual [State.uncall, State.enterWaiting]
    · rw [cancelCall_stored hcalled hstall]
      simp +contextual [State.uncall, hserve]
  · rw [cancelCall_stays hcalled]
    simp +contextual [State.uncall, hserve]

end

/-- Settles O24: the checks in order, then what a cancelled call leaves. -/
theorem cancelCallUndoesAStandingCall : Obligations.CancelCallUndoesAStandingCall := by
  refine ⟨cancelCall_ruled, fun s r x hr hx _ hst => ?_⟩
  intro t q undone
  obtain ⟨hjq, hdr, hlk, hkc, hserve, hothers, hholders⟩ := cancelCall_frame (s := s) (r := r) (by simp [hx])
  refine ⟨⟨by rw [entry?_congr hjq]; simp [t], fun u hu => ⟨?_, hothers u hu⟩, hserve, hkc, hholders⟩,
    fun hcalled hstall => ?_, fun hcalled hstall => ?_, fun hinbound => ?_, fun hqueued => ?_, fun a hoffered ha => ?_⟩
  · rw [entry?_congr hjq]
    simp [show u ≠ r.ticket from hu]
  · have hq : q = _ := cancelCall_stored hcalled hstall
    constructor
    · simp [hq, State.uncall, hr, t, Record.enter, RecordFlags.leave, hcalled, undone]
    · simp [hq, State.uncall]
  · have hq : q = _ := cancelCall_waiting hcalled hstall
    refine ⟨?_, ?_, fun hcauses => ?_⟩
    · simp [hq, State.uncall, hr, t, Record.enter, RecordFlags.leave, hcalled, undone]
    · simp [hq, State.uncall, State.enterWaiting, State.joinWaitList, State.setWaitList, t]
    · have hsa : q.sa = s.sa.raise .waitlisted (some t) := by
        simp [hq, State.uncall, State.enterWaiting, State.joinWaitList, t]
      rw [hsa]
      exact raise_latch s.sa .waitlisted _ (by rw [hcauses]; decide)
  · have hq : q = _ := cancelCall_stays (s := s) (by simp [hinbound])
    constructor <;> simp [hq, State.uncall, hr, t]
  · obtain ⟨hdrop, hdroplk⟩ := dropEntry_queued (s := s) (t := r.ticket) fun y hy => by
      rw [hx] at hy; exact Option.some.inj hy ▸ hqueued
    exact ⟨hdr.trans hdrop, hlk.trans hdroplk⟩
  · obtain ⟨hfront, hsent⟩ := dropEntry_offered hx hoffered ha
    exact ⟨hdr.trans hfront, (congrArg Links.tx hlk) ▸ hsent⟩

end Sys2Proof.Machine
end

section
/-! The marks of an INBOUND record, the storing that the second brings (R9, R100), and KEY_HOME by state (R5, R9, R10, R107). -/

namespace Sys2Proof.Machine

open Sys2Proof.Safety

/-! ### Storing -/

/-- The record as it is stored: STORED and with no attendant, and CALLED at once after an early call (R9, R100). -/
def Record.storedNow (limit : Nat) (r : Record) : Record :=
  if r.call.isSome then ((r.enter .stored limit).freed).enter .called limit else (r.enter .stored limit).freed

theorem Record.storedNow_fields (limit : Nat) (r : Record) (h : r.state = .inbound) :
    (r.storedNow limit).state = (if r.call = none then .stored else .called) ∧
      (r.storedNow limit).parkMark = false ∧ (r.storedNow limit).keyMark = false ∧ (r.storedNow limit).park = none ∧
      (r.storedNow limit).flags = { r.flags with inboundLate := false } ∧ (r.storedNow limit).attendant = none ∧
      (r.storedNow limit).stall = r.stall ∧ (r.storedNow limit).call = r.call := by
  unfold Record.storedNow
  cases hc : r.call <;> simp [Record.enter, Record.freed, RecordFlags.leave, h, hc]

@[simp] theorem Record.storedNow_ticket (limit : Nat) (r : Record) : (r.storedNow limit).ticket = r.ticket := by
  unfold Record.storedNow; split <;> rfl

/-- The state in which the record has no MOVE entry any more and its attendant is IDLE at the back (R122). -/
def State.storedJob (s : State) (t : Nat) (attendant : Option Nat) : State :=
  let p := if (s.setState t .stored).hasEntry t .move then (s.setState t .stored).removeEntry t
    else s.setState t .stored
  match attendant with
  | some a => p.idleBack a
  | none => p

section

variable {s : State} {t : Nat} {r : Record}

theorem enterStored_eq (hr : s.record? t = some r) :
    s.enterStored t =
      if r.call.isSome then (((s.storedJob t r.attendant).modRecord t Record.freed).setState t .called).lookDue
      else (s.storedJob t r.attendant).modRecord t Record.freed := by
  simp only [State.enterStored, hr]
  rfl

theorem storedJob_lookups (s : State) (t : Nat) (o : Option Nat) :
    (s.storedJob t o).record? = (s.setState t .stored).record? ∧
      (s.storedJob t o).ct.parkLimit = s.ct.parkLimit ∧
      (s.storedJob t o).entry? t = (if s.hasEntry t .move then none else s.entry? t) := by
  unfold State.storedJob State.hasEntry
  simp only [State.setState_lookups]
  split <;> split <;> simp

@[simp] theorem record?_enterStored (hr : s.record? t = some r) (u : Nat) :
    (s.enterStored t).record? u = (s.record? u).map (if u = t then Record.storedNow s.ct.parkLimit else id) := by
  obtain ⟨hrec, hlim, -⟩ := storedJob_lookups s t r.attendant
  rw [enterStored_eq hr]
  by_cases hu : u = t
  · subst hu
    split
    next hc => simp [hrec, hlim, hr, Record.storedNow, hc]
    next hc => simp [hrec, hr, Record.storedNow, hc]
  · split <;> simp [hrec, hu]

theorem entry?_enterStored (hr : s.record? t = some r) :
    (s.enterStored t).entry? t = if s.hasEntry t .move then none else s.entry? t := by
  obtain ⟨-, -, he⟩ := storedJob_lookups s t r.attendant
  rw [enterStored_eq hr, ← he]
  split <;> simp

@[simp] theorem State.lookDue_look (s : State) : s.lookDue.due.look = true := rfl

@[simp] theorem State.serveDue_look (s : State) : s.serveDue.due.look = s.due.look := rfl

@[simp] theorem State.lookIf_look (s : State) (b : Bool) : (s.lookIf b).due.look = (b || s.due.look) := by
  cases b <;> rfl

/-- Nothing of a storing takes back the readiness event. -/
theorem enterStored_look (hlook : s.due.look = true) : (s.enterStored t).due.look = true := by
  have hremove (q : State) (h : q.due.look = true) : (q.removeEntry t).due.look = true := by
    unfold State.removeEntry
    split <;> simp [h, State.serveDue]
  have hjob (o : Option Nat) : (s.storedJob t o).due.look = true := by
    unfold State.storedJob
    dsimp only
    split
    · simp
    · split
      · exact hremove _ (by simpa using hlook)
      · simpa using hlook
  cases hr : s.record? t with
  | none => simpa [State.enterStored, hr] using hlook
  | some r =>
    rw [enterStored_eq hr]
    split <;> simp [hjob]

theorem setMarks_both (s : State) (t : Nat) : s.setMarks t true true = s.enterStored t := rfl

theorem setMarks_one {park key : Bool} (h : (park && key) = false) :
    s.setMarks t park key = s.modRecord t fun r => { r with parkMark := park, keyMark := key } := by
  simp [State.setMarks, h]

theorem setMarks_look (park key : Bool) (hlook : s.due.look = true) : (s.setMarks t park key).due.look = true := by
  by_cases h : (park && key) = true
  · obtain ⟨rfl, rfl⟩ := Bool.and_eq_true_iff.mp h
    exact enterStored_look hlook
  · simp [setMarks_one (Bool.not_eq_true _ ▸ h), hlook]

@[simp] theorem record?_setMarks_other {park key : Bool} {u : Nat} (hu : u ≠ t) :
    (s.setMarks t park key).record? u = s.record? u := by
  by_cases h : (park && key) = true
  · obtain ⟨rfl, rfl⟩ := Bool.and_eq_true_iff.mp h
    rw [setMarks_both]
    cases hr : s.record? t with
    | none => simp [State.enterStored, hr]
    | some r => simp [record?_enterStored hr, hu]
  · simp [setMarks_one (Bool.not_eq_true _ ▸ h), hu]

/-! ### KEY_HOME -/

/-- The record with its key home: KEY_OVERDUE and KEY_AWAY clear (R5). -/
def Record.keyIsBack (r : Record) : Record := { r with flags := r.flags.keyHome }

/-- What KEY_HOME does in every state. -/
def State.keyIsBack (s : State) (t : Nat) : State := (s.modRecord t Record.keyIsBack).lookIf (s.entry? t).isSome

@[simp] theorem State.keyIsBack_frame :
    (s.keyIsBack t).jq = s.jq ∧ (s.keyIsBack t).dr = s.dr ∧ (s.keyIsBack t).sm = s.sm ∧ (s.keyIsBack t).sa = s.sa := by
  simp [State.keyIsBack]

@[simp] theorem record?_keyIsBack (u : Nat) :
    (s.keyIsBack t).record? u = (s.record? u).map (if u = t then Record.keyIsBack else id) := by
  simp [State.keyIsBack, record?_modRecord s t u Record.keyIsBack fun _ => rfl]

theorem keyHome_eq (hr : s.record? t = some r) :
    s.keyHome t =
      match r.state with
      | .inbound => if r.keyMark then s.keyIsBack t else (s.keyIsBack t).setMarks t r.parkMark true
      | .waiting => (s.keyIsBack t).serveDue
      | .suspended => (s.keyIsBack t).modRecord t Record.freed
      | _ => s.keyIsBack t := by
  simp only [State.keyHome, hr]
  rfl

theorem keyHome_unmarked (hr : s.record? t = some r) (hin : r.state = .inbound) (hkey : r.keyMark = false) :
    s.keyHome t = (s.keyIsBack t).setMarks t r.parkMark true := by
  simp [keyHome_eq hr, hin, hkey]

/-- Away from an INBOUND record KEY_HOME leaves the queue, the roster, the stalls and the attention causes (R10). -/
theorem keyHome_frame (hr : s.record? t = some r) (hin : r.state ≠ .inbound) :
    (s.keyHome t).jq = s.jq ∧ (s.keyHome t).dr = s.dr ∧ (s.keyHome t).sm = s.sm ∧ (s.keyHome t).sa = s.sa := by
  rw [keyHome_eq hr]
  split <;> simp_all

theorem keyHome_look (hr : s.record? t = some r) (he : s.entry? t ≠ none) : (s.keyHome t).due.look = true := by
  have hback : (s.keyIsBack t).due.look = true := by
    simp [State.keyIsBack, Option.isSome_iff_ne_none.mpr he]
  rw [keyHome_eq hr]
  split
  · split
    · exact hback
    · exact setMarks_look _ _ hback
  all_goals simpa using hback

theorem record?_keyHome_other (hr : s.record? t = some r) {u : Nat} (hu : u ≠ t) :
    (s.keyHome t).record? u = s.record? u := by
  rw [keyHome_eq hr]
  split
  · split <;> simp [hu]
  all_goals simp [hu]

end

/-- Settles O36: the marks, then KEY_HOME state by state. -/
theorem secondMarkStoresTheCar : Obligations.SecondMarkStoresTheCar := by
  refine ⟨fun s t r park key hr hin => ?_, fun s t r hr => ?_⟩
  · intro q
    refine ⟨fun hone => ?_, fun hboth => ?_⟩
    · exact ⟨_, by simp [q, setMarks_one hone, hr], rfl⟩
    · obtain ⟨rfl, rfl⟩ := Bool.and_eq_true_iff.mp hboth
      obtain ⟨hst, hpm, hkm, hpark, hflags, hatt, hstall, hcall⟩ := Record.storedNow_fields s.ct.parkLimit r hin
      refine ⟨⟨r.storedNow s.ct.parkLimit, by simp [q, setMarks_both, record?_enterStored hr, hr], hst, hpm, hkm, hpark,
        by rw [hflags], hatt, hstall, hcall⟩, fun e he hkind => ?_⟩
      simp [q, setMarks_both, entry?_enterStored hr, State.hasEntry, he, hkind]
  · intro q home
    have hback : (s.keyIsBack t).record? t = some home := by simp [hr, home, Record.keyIsBack, RecordFlags.keyHome]
    refine ⟨fun hin hkey hpark => ?_, fun hin hkey hpark => ?_, fun hsusp => ?_, fun hsusp hnot => ?_, fun hwait => ?_,
      keyHome_look hr, keyHome_frame hr, fun u => record?_keyHome_other hr⟩
    · have hq : q = _ := keyHome_unmarked hr hin hkey
      simp [hq, hpark, setMarks_one, hback, home]
    · have hq : q = _ := keyHome_unmarked hr hin hkey
      obtain ⟨hst, -, -, -, hflags, -, hstall, -⟩ := Record.storedNow_fields (s.keyIsBack t).ct.parkLimit home hin
      exact ⟨_, by simp [hq, hpark, setMarks_both, record?_enterStored hback, hback], hst, hstall, hflags⟩
    · simp only [q, keyHome_eq hr, hsusp, record?_modRecord _ t t Record.freed fun _ => rfl, hback, if_true]
      rfl
    · have hq : q = s.keyIsBack t ∨ q = (s.keyIsBack t).serveDue := by
        simp only [q, keyHome_eq hr]
        split <;> simp_all
      rcases hq with hq | hq <;> simp [hq, hback]
    · simp [q, keyHome_eq hr, hwait]

end Sys2Proof.Machine
end

section
/-! An acknowledged job (R14, R75, R121), an accepted STAGED (R16, R139) and an accepted REPARK (R18, R33, R86, R122, R142). -/

namespace Sys2Proof.Machine

open Sys2Proof.Safety

/-! ### The hook -/

section

variable {s : State} {h a : Nat} {k : Hook}

/-- A HELD hook opens for the attendant, in its first period (R75). -/
theorem requestWindow_held (hk : s.hook? h = some k) (hheld : k.state = .held) :
    ∃ k', (s.requestWindow h a).hook? h = some k' ∧ k'.state = .opened ∧ k'.attendant = some a ∧ k'.phase = .running ∧
      k'.count = 0 ∧ k'.window = some ⟨0, s.kc.windowTime⟩ ∧ k'.bound = k.bound := by
  obtain ⟨latch, timer, hook⟩ := hook?_updHook_upToLatch s h (Hook.openFor a 0 s.kc.windowTime) k hk
  have hq : s.requestWindow h a = s.updHook h (Hook.openFor a 0 s.kc.windowTime) := by
    simp only [State.requestWindow, hk, hheld]
  rw [hq]
  exact ⟨_, hook, rfl, rfl, rfl, rfl, rfl, rfl⟩

/-- The key of a hook passes to an attendant, and its custody timer starts (R10, R86). -/
def Hook.passTo (a limit : Nat) (k : Hook) : Hook := { k.startCustody limit with attendant := some a }

theorem passTo_fields (hk : s.hook? h = some k) (limit : Nat) :
    ∃ k', (s.updHook h (Hook.passTo a limit)).hook? h = some k' ∧ k'.state = k.state ∧ k'.attendant = some a ∧
      k'.custody = some ⟨0, limit⟩ ∧ k'.warned = false ∧ k'.overdue = false := by
  obtain ⟨latch, timer, hook⟩ := hook?_updHook_upToLatch s h (Hook.passTo a limit) k hk
  exact ⟨_, hook, rfl, rfl, rfl, rfl, rfl⟩

/-- A key that is out with nobody passes to the attendant (R10). -/
theorem requestWindow_out (hk : s.hook? h = some k) (hout : k.state = .out) (hnobody : k.attendant = none) :
    s.requestWindow h a = s.updHook h (Hook.passTo a s.kc.custodyLimit) := by
  simp only [State.requestWindow, hk, hout, hnobody]
  rfl

theorem reparkHook_out (hk : s.hook? h = some k) (hout : k.state = .out) :
    s.reparkHook h a = s.updHook h (Hook.passTo a s.kc.custodyLimit) := by
  simp only [State.reparkHook, hk, Option.map_some, hout]
  rfl

theorem reparkHook_held (hk : s.hook? h = some k) (hheld : k.state = .held) :
    s.reparkHook h a = s.requestWindow h a := by
  simp only [State.reparkHook, hk, Option.map_some, hheld]

end

/-! ### An acknowledged job -/

/-- The record's state with its job acknowledged (R14). -/
def JobKind.underway : JobKind → RecordState
  | .fetch => .fetching
  | .move => .inbound

/-- An acknowledged job before the release window is asked for. -/
def State.takenJob (s : State) (t : Nat) (kind : JobKind) (a : Nat) : State :=
  ((((s.modEntry t fun g => { g with status := .taken }).leaveIdle a kind.working).setState t kind.underway).modRecord t
    fun q => { q with attendant := some a })

theorem takeJob_eq {r : Record} {x : Entry}
    (h : (x.kind = .fetch ∧ r.state = .called) ∨ (x.kind = .move ∧ r.state = .granted)) (s : State) (a : Nat) :
    s.takeJob r x a = (s.takenJob r.ticket x.kind a).requestWindow r.hook a := by
  rcases h with ⟨hkind, hst⟩ | ⟨hkind, hst⟩
  all_goals
    simp only [State.takeJob, State.acked, hkind, hst]
    rfl

@[simp] theorem State.takenJob_kc (s : State) (t : Nat) (kind : JobKind) (a : Nat) :
    (s.takenJob t kind a).kc = s.kc := by
  simp [State.takenJob]

/-- Settles O37: the job is taken, then the window asked for. -/
theorem acknowledgedJobOpensTheHook : Obligations.AcknowledgedJobOpensTheHook := by
  intro s r x a hr hx ha hjob q
  have hq : q = (s.takenJob r.ticket x.kind a).requestWindow r.hook a := takeJob_eq hjob s a
  have hatt : q.attendant a = { s.attendant a with state := x.kind.working, idleSince := none, ack := none } := by
    simp [hq, State.takenJob, ha]
  refine ⟨by simp [hq, State.takenJob, hx], ?_, by rw [hatt], ?_, fun k hk => ⟨fun hheld => ?_, fun hout hnobody => ?_⟩⟩
  · rw [hatt]
    cases x.kind <;> rfl
  · refine ⟨{ r.enter x.kind.underway s.ct.parkLimit with attendant := some a }, ?_, ?_, rfl, rfl, rfl, rfl, rfl⟩
    · simp [hq, State.takenJob, hr]
    · cases hkind : x.kind <;> rfl
  · rw [hq, ← State.takenJob_kc s r.ticket x.kind a]
    exact requestWindow_held (by rw [hook?_congr (State.takenJob_kc s r.ticket x.kind a), hk]) hheld
  · rw [hq, ← State.takenJob_kc s r.ticket x.kind a]
    have hk : (s.takenJob r.ticket x.kind a).hook? r.hook = some k := by
      rw [hook?_congr (State.takenJob_kc s r.ticket x.kind a), hk]
    rw [requestWindow_out hk hout hnobody]
    obtain ⟨k', hk', hstate, hwith, hcustody, -⟩ := passTo_fields (a := a) hk _
    exact ⟨k', hk', hstate.trans hout, hwith, hcustody⟩

/-! ### An accepted STAGED -/

/-- The record as it is staged: STAGED in its bay, without call and attendant, its key not overdue (R16). -/
def Record.stagedAt (b limit : Nat) (r : Record) : Record :=
  let q := r.enter .staged limit
  { q with
    bay := some b, call := none, attendant := none
    flags := { q.flags with
      departureUnconfirmed := if q.stall.isSome then true else q.flags.departureUnconfirmed
      keyOverdue := false } }

/-- The bay bound, and the record staged in it, before its stall, entry and key are let go. -/
def State.inBay (s : State) (t b : Nat) : State :=
  (((s.modBay b fun x => { x with holder := some t, dwell := some (Timer.start s.km.dwellTime), driveOff := none }).setState
    t .staged).modRecord t fun q =>
      { q with
        bay := some b, call := none, attendant := none
        flags := { q.flags with
          departureUnconfirmed := if q.stall.isSome then true else q.flags.departureUnconfirmed
          keyOverdue := false } })

/-- The whole of an accepted STAGED but its attendant's return. -/
def State.stagedIn (s : State) (t b hook : Nat) : State :=
  (((s.inBay t b).releaseStall t).removeEntry t).updHook hook Hook.stopCustody

section

variable {s : State} {t b : Nat} {r : Record}

theorem stagedOk_eq (hr : s.record? t = some r) :
    s.stagedOk t b =
      match r.attendant with
      | some a => (s.stagedIn t b r.hook).idleBack a
      | none => s.stagedIn t b r.hook := by
  simp only [State.stagedOk, hr]
  rfl

/-- The attendant's return writes only the roster (R113). -/
theorem stagedOk_frame (hr : s.record? t = some r) :
    (s.stagedOk t b).ct = (s.stagedIn t b r.hook).ct ∧ (s.stagedOk t b).jq = (s.stagedIn t b r.hook).jq ∧
      (s.stagedOk t b).km = (s.stagedIn t b r.hook).km ∧ (s.stagedOk t b).sm = (s.stagedIn t b r.hook).sm ∧
      (s.stagedOk t b).kc = (s.stagedIn t b r.hook).kc := by
  rw [stagedOk_eq hr]
  split <;> simp

theorem inBay_record? (hr : s.record? t = some r) : (s.inBay t b).record? t = some (r.stagedAt b s.ct.parkLimit) := by
  simp [State.inBay, hr, Record.stagedAt]

@[simp] theorem State.inBay_kc : (s.inBay t b).kc = s.kc := by simp [State.inBay]

end

/-- Settles O39: the record, the entry, the bay, the stall and the key. -/
theorem stagingBindsTheBayAndEndsTheFetch : Obligations.StagingBindsTheBayAndEndsTheFetch := by
  intro s t b r hr hb q
  obtain ⟨hct, hjq, hkm, hsm, hkc⟩ := stagedOk_frame (b := b) hr
  refine ⟨⟨(r.stagedAt b s.ct.parkLimit).released, ?_, ?_⟩, ?_, ?_, fun st x hst hx => ?_, fun k hk => ?_⟩
  · rw [record?_congr hct]
    simp [State.stagedIn, inBay_record? hr]
  · cases hst : r.stall <;> simp [Record.stagedAt, Record.released, RecordFlags.stallChanged, RecordFlags.leave, hst]
  · rw [entry?_congr hjq]
    simp [State.stagedIn]
  · rw [bay_congr hkm]
    have hbay := bay_modBay_self s b
      (fun x => { x with holder := some t, dwell := some (Timer.start s.km.dwellTime), driveOff := none }) hb
    simpa [State.stagedIn, State.inBay, Timer.start] using hbay
  · rw [stall?_congr hsm]
    simp [State.stagedIn, stall?_releaseStall, State.inBay, stall?_setState, hr, hst, hx]
  · rw [hook?_congr hkc]
    have hk : (((s.inBay t b).releaseStall t).removeEntry t).hook? r.hook = some k := by
      rw [hook?_congr (s := s) (by simp), hk]
    obtain ⟨latch, timer, hook⟩ := hook?_updHook_upToLatch _ r.hook Hook.stopCustody k hk
    exact ⟨_, hook, rfl, rfl, rfl, rfl, rfl⟩

/-! ### An accepted REPARK -/

/-- The record of a repark, its bay given back (R18). -/
def Record.leftBay (r : Record) : Record :=
  { r with bay := none, reparks := r.reparks + 1, flags := { r.flags with departureUnconfirmed := false } }

/-- A repark before the record takes its next state: the bay is free, and the key with the sender or open to it (R86). -/
def State.reparked (s : State) (r : Record) (a : Nat) : State :=
  ((s.freeBay r.bay).modRecord r.ticket Record.leftBay).reparkHook r.hook a

/-- The part of a repark that finds a stall, but for the sender's PARKING (R18, R33). -/
def State.reparkedInto (s : State) (r : Record) (a : Nat) (st : StallId) (fallback : Bool) : State :=
  ((((s.reparked r a).setState r.ticket .inbound).holdStall r.ticket st).noteFallback r.ticket fallback).modRecord r.ticket
    fun q => { q with attendant := some a }

section

variable {s : State} {a : Nat} {r : Record}

theorem reparkCar_some (st : StallId) (fallback : Bool) :
    s.reparkCar r a (some (st, fallback)) = (s.reparkedInto r a st fallback).startParking (some a) := rfl

theorem reparkCar_none : s.reparkCar r a none = (s.reparked r a).enterWaiting r.ticket := rfl

@[simp] theorem State.reparked_frame :
    (s.reparked r a).sm = s.sm ∧ (s.reparked r a).dr = s.dr ∧ (s.reparked r a).ct.parkLimit = s.ct.parkLimit ∧
      (s.reparked r a).km = (s.freeBay r.bay).km ∧ (s.reparked r a).stall? = s.stall? := by
  refine ⟨by simp [State.reparked], by simp [State.reparked], by simp [State.reparked], by simp [State.reparked],
    stall?_congr (by simp [State.reparked])⟩

theorem record?_reparked (hr : s.record? r.ticket = some r) : (s.reparked r a).record? r.ticket = some r.leftBay := by
  simp [State.reparked, record?_modRecord _ r.ticket r.ticket Record.leftBay fun _ => rfl, hr]

/-- The hook of a repark is the one the transfer leaves, whatever stall was found (R86). -/
theorem hook?_reparkCar (found : Option (StallId × Bool)) :
    (s.reparkCar r a found).hook? r.hook = (s.reparked r a).hook? r.hook := by
  cases found with
  | none => simp [reparkCar_none]
  | some f => obtain ⟨st, fallback⟩ := f; simp [reparkCar_some, State.reparkedInto]

theorem km_reparkCar (found : Option (StallId × Bool)) : (s.reparkCar r a found).km = (s.freeBay r.bay).km := by
  cases found with
  | none => simp [reparkCar_none]
  | some f => obtain ⟨st, fallback⟩ := f; simp [reparkCar_some, State.reparkedInto]

/-- The record in the stall found (R18, R33). -/
theorem record?_reparkedInto (hr : s.record? r.ticket = some r) (st : StallId) (fallback : Bool) :
    ∃ r', (s.reparkedInto r a st fallback).record? r.ticket = some r' ∧ r'.bay = none ∧ r'.reparks = r.reparks + 1 ∧
      r'.flags.departureUnconfirmed = false ∧ (r.state = .staged → r'.flags.dwellExpired = false) ∧
      r'.parkMark = false ∧ r'.keyMark = false ∧ r'.state = .inbound ∧ r'.stall = some st ∧ r'.attendant = some a ∧
      r'.flags.chargeUnmet = fallback ∧ r'.park = some ⟨0, s.ct.parkLimit, false⟩ := by
  refine ⟨_, by simp [State.reparkedInto, record?_reparked hr]; rfl, ?_⟩
  cases fallback <;> simp +contextual [Record.leftBay, Record.enter, RecordFlags.leave, RecordFlags.stallChanged]

end

/-- Settles O40: the record, its stall, its sender, its bay and its hook. -/
theorem reparkTakesTheCarBack : Obligations.ReparkTakesTheCarBack := by
  intro s a r found hr hstaged hnostall q
  refine ⟨?_, fun st fallback x hfound hx => ?_, fun hfound ha => ?_, fun hfound => ?_, fun b hb => ?_,
    fun k hk => ?_⟩
  · cases found with
    | none =>
      have hq : q = (s.reparked r a).enterWaiting r.ticket := reparkCar_none
      refine ⟨r.leftBay.enter .waiting s.ct.parkLimit, by simp [hq, record?_reparked hr], rfl, rfl, rfl, ?_, rfl, rfl, rfl,
        hnostall, rfl, ?_⟩
      · simp [RecordFlags.leave, Record.leftBay, hstaged]
      · simp [hq, State.enterWaiting, State.joinWaitList, State.setWaitList]
    | some f =>
      obtain ⟨st, fallback⟩ := f
      obtain ⟨r', hr', hbay, hreparks, hdep, hdwell, hpm, hkm, hrest⟩ := record?_reparkedInto (a := a) hr st fallback
      refine ⟨r', by simpa [q, reparkCar_some] using hr', hbay, hreparks, hdep, hdwell hstaged, hpm, hkm, ?_⟩
      obtain ⟨hin, hstall, hatt, hunmet, hpark⟩ := hrest
      exact ⟨hin, hstall, hatt, hunmet, hpark, by simp [q, reparkCar_some, State.reparkedInto]⟩
  · subst hfound
    have hold : ((s.reparked r a).record? r.ticket).bind Record.stall = none := by
      rw [record?_reparked hr]; exact hnostall
    simp [q, reparkCar_some, State.reparkedInto, stall?_holdStall, stall?_setState, hold, hx, Stall.resetRuns]
  · obtain ⟨⟨st, fallback⟩, rfl⟩ := Option.ne_none_iff_exists'.mp hfound
    have hdr : (s.reparkedInto r a st fallback).dr = s.dr := by simp [State.reparkedInto]
    have hatt : q.attendant a = { s.attendant a with state := .parking, idleSince := none, ack := none } := by
      simp [q, reparkCar_some, State.startParking, hdr, ha, attendant_congr hdr]
    refine ⟨by rw [hatt], by rw [hatt], ?_⟩
    simp [q, reparkCar_some, State.startParking, State.leaveIdle, State.modAttendant, State.setIdle, hdr]
  · subst hfound
    simp [q, reparkCar_none]
  · rw [bay_congr (km_reparkCar found), hb]
    exact bay_freeBay s b
  · have hk : ((s.freeBay r.bay).modRecord r.ticket Record.leftBay).hook? r.hook = some k := by
      rw [hook?_congr (s := s) (by simp), hk]
    refine ⟨fun hout => ?_, fun hheld => ?_⟩
    · obtain ⟨k', hk', hstate, hrest⟩ := passTo_fields (a := a) hk s.kc.custodyLimit
      refine ⟨k', ?_, hstate.trans hout, hrest⟩
      rw [hook?_reparkCar, State.reparked, reparkHook_out hk hout, ← hk']
      simp
    · obtain ⟨k', hk', hstate, hwith, hphase, hcount, hwindow, -⟩ := requestWindow_held (a := a) hk hheld
      refine ⟨k', ?_, hstate, hwith, hphase, hcount, by simpa using hwindow⟩
      rw [hook?_reparkCar, State.reparked, reparkHook_held hk hheld, hk']

end Sys2Proof.Machine
end

section
/-! The removals of a key and the lapses of a window (R15, R20, R76, R77, R82, R88, R97, R125). -/

namespace Sys2Proof.Machine

open Sys2Proof.Safety

/-! ### WINDOW_LAPSED (R15) -/

/-- The records whose job a second lapse undoes (R15). -/
def State.hasJobToUndo (s : State) (r : Record) : Prop :=
  r.state = .fetching ∨ (r.state = .inbound ∧ s.hasEntry r.ticket .move = true)

/-- The state that an undone job gives back (R15). -/
def Record.beforeJob (r : Record) : RecordState := if r.state = .fetching then .called else .granted

section

variable {s : State} {t : Nat} {r : Record}

theorem windowLapsed_undone (hr : s.record? t = some r) (hjob : s.hasJobToUndo r) :
    s.windowLapsed t = (s.undoJob t r.beforeJob).lapseAttendant t r.attendant := by
  have ht := record?_ticket s t r hr
  rcases hjob with hst | ⟨hst, hmove⟩
  · simp [State.windowLapsed, hr, hst, Record.beforeJob]
  · rw [ht] at hmove
    simp [State.windowLapsed, hr, hst, hmove, Record.beforeJob]

theorem windowLapsed_stays (hr : s.record? t = some r) (hjob : ¬s.hasJobToUndo r) : s.windowLapsed t = s := by
  have ht := record?_ticket s t r hr
  simp only [State.hasJobToUndo, ht, not_or, not_and] at hjob
  simp only [State.windowLapsed, hr]
  split
  · exact absurd ‹_› hjob.1
  · rw [if_neg (hjob.2 ‹_›)]
  · rfl

theorem record?_undoJob (hr : s.record? t = some r) (st : RecordState) :
    (s.undoJob t st).record? t = some (r.enter st s.ct.parkLimit).freed := by
  simp only [State.undoJob, State.requeue_lookups, record?_modRecord _ t t Record.freed fun _ => rfl, record?_setState,
    hr, if_true]
  rfl

/-- The record, its entry, its attendant and the readiness event of a job undone (R15, R97, R125). -/
theorem windowLapsed_undoes (hr : s.record? t = some r) (hjob : s.hasJobToUndo r) :
    let q := s.windowLapsed t
    (∃ r', q.record? t = some r' ∧ r'.state = r.beforeJob ∧ r'.attendant = none ∧ r'.parkMark = false ∧
      r'.keyMark = false ∧ r'.park = none ∧ r'.call = r.call ∧ r'.stall = r.stall) ∧
    (∀ x, s.entry? t = some x → q.entry? t = some { x with status := .queued, attendant := none }) ∧
    (∀ a, r.attendant = some a → WithdrawnSent s a t 2 q.lk.tx ∧
      (a < s.dr.attendants.length → (q.attendant a).state = .away ∧ (q.attendant a).idleSince = none)) ∧
    q.due.look = true := by
  rw [windowLapsed_undone hr hjob]
  refine ⟨⟨(r.enter r.beforeJob s.ct.parkLimit).freed, ?_, rfl, rfl, rfl, rfl, ?_, rfl, rfl⟩, fun x hx => ?_,
    fun a ha => ⟨?_, fun hlt => ?_⟩, ?_⟩
  · simp [record?_undoJob hr]
  · unfold Record.beforeJob
    split <;> rfl
  · simp [State.undoJob, hx]
  · rw [ha]
    exact withdrawnSent_sendWithdrawn (q := s.undoJob t r.beforeJob) (by simp) (by simp) a t 2
  · have hatt : ((s.undoJob t r.beforeJob).lapseAttendant t (some a)).attendant a =
        { s.attendant a with state := .away, idleSince := none, ack := none } := by
      simp [State.lapseAttendant, attendant_congr (q := s.undoJob t r.beforeJob) (s := s) (by simp), hlt]
    rw [ha, hatt]
    exact ⟨rfl, rfl⟩
  · simp [State.undoJob, State.requeue]

/-- A lapse touches neither what the record is told of its key nor the record's being there (R5, R15). -/
theorem windowLapsed_keyAway (hr : s.record? t = some r) :
    ∃ r', (s.windowLapsed t).record? t = some r' ∧ r'.flags.keyAway = r.flags.keyAway := by
  by_cases hjob : s.hasJobToUndo r
  · refine ⟨(r.enter r.beforeJob s.ct.parkLimit).freed, ?_, rfl⟩
    rw [windowLapsed_undone hr hjob]
    simp [record?_undoJob hr]
  · exact ⟨r, by rw [windowLapsed_stays hr hjob, hr], rfl⟩

/-! ### KEY_FORCED (R20) -/

theorem keyForced_staged (hr : s.record? t = some r) (hst : r.state = .staged) : s.keyForced t = s := by
  simp [State.keyForced, hr, hst]

theorem keyForced_suspended (hr : s.record? t = some r) (hst : r.state = .suspended) :
    s.keyForced t = s.modRecord t fun q => { q with reason := some .keyForced } := by
  simp [State.keyForced, hr, hst]

theorem keyForced_suspends (hr : s.record? t = some r) (hstaged : r.state ≠ .staged) (hsusp : r.state ≠ .suspended) :
    s.keyForced t = s.suspend t .keyForced := by
  simp only [State.keyForced, hr]

/-- A forced removal sets every record aside but a STAGED one (R20). -/
theorem keyForced_record? (hr : s.record? t = some r) (hst : r.state ≠ .staged) :
    ∃ r', (s.keyForced t).record? t = some r' ∧ r'.state = .suspended ∧ r'.reason = some .keyForced ∧
      r'.stall = r.stall := by
  by_cases hsusp : r.state = .suspended
  · exact ⟨{ r with reason := some .keyForced }, by simp [keyForced_suspended hr hsusp, hr], hsusp, rfl, rfl⟩
  · refine ⟨r.suspended s.ct.parkLimit (s.keyHolder r) .keyForced, ?_, rfl, rfl, rfl⟩
    simp [keyForced_suspends hr hst hsusp, suspend_record? hr, hr]

/-- A hook whose key is out stays as it is through the notice: a suspension ends a window, and an OUT hook has none (R80). -/
theorem hook?_keyForced {h : Nat} {k : Hook} (hk : s.hook? h = some k) (hout : k.state = .out) :
    (s.keyForced t).hook? h = some k := by
  cases hr : s.record? t with
  | none => simp [State.keyForced, hr, hk]
  | some r =>
    by_cases hstaged : r.state = .staged
    · rw [keyForced_staged hr hstaged, hk]
    · by_cases hsusp : r.state = .suspended
      · simp [keyForced_suspended hr hsusp, hk]
      · obtain ⟨p, hhook, -, -, hqhook, -⟩ := suspend_hook hr .keyForced
        rw [keyForced_suspends hr hstaged hsusp, hqhook]
        by_cases hh : h = r.hook
        · subst hh
          rw [endWindow_stays (hhook ▸ hk) (by simp [Hook.windowEnds, hout]) (by simp [Hook.windowCloses, hout]), hhook, hk]
        · rw [hook?_endWindow_other hh, hhook, hk]

end

/-! ### The hook of a removal or a lapse (R76, R77, R82, R88) -/

/-- The hook of a key taken by the attendant its window is for (R76). -/
def Hook.taken (limit : Nat) (k : Hook) : Hook :=
  { k.startCustody limit with state := .out, phase := .none, count := 0, window := none }

/-- The hook of a forced removal (R82). -/
def Hook.forcedOut (k : Hook) : Hook :=
  { k with state := .out, attendant := none, forced := true, phase := .none, count := 0, window := none }

/-- The hook of a removal in panel service, which ends a second period (R88). -/
def Hook.servedOut (second : Bool) (k : Hook) : Hook :=
  if second then { k with state := .out, attendant := none, phase := .none, count := 2, window := none }
  else { k with state := .out, attendant := none }

/-- The hook of a first lapse: its second period runs (R77). -/
def Hook.firstLapse (limit : Nat) (k : Hook) : Hook :=
  { k with state := .held, count := 1, phase := .running, window := some (Timer.start limit) }

/-- The hook of a second lapse: its window is over (R77). -/
def Hook.secondLapse (k : Hook) : Hook := { k with state := .held, count := 2, phase := .none, attendant := none, window := none }

section

variable {s : State} {h : Nat} {k : Hook}

theorem kc_takeKey : (s.takeKey h k).kc = (s.updHook h (Hook.taken s.kc.custodyLimit)).kc := by
  unfold State.takeKey
  split
  · rw [(State.keyTaken_frame _ _ _).2.2.1]; rfl
  · rfl

theorem forceKey_bound {t : Nat} (ht : k.bound = some t) :
    s.forceKey h k = ((s.updHook h Hook.forcedOut).keyForced t).raise .keyForced (some t) := by
  simp only [State.forceKey, ht]
  rfl

theorem hook?_forceKey (hk : s.hook? h = some k) :
    ∃ latch timer, (s.forceKey h k).hook? h = some { k.forcedOut with latch := latch, repeatTimer := timer } := by
  obtain ⟨latch, timer, hook⟩ := hook?_updHook_upToLatch s h Hook.forcedOut k hk
  refine ⟨latch, timer, ?_⟩
  cases ht : k.bound with
  | none =>
    simp only [State.forceKey, ht]
    exact hook
  | some t => simp [forceKey_bound ht, hook?_keyForced hook rfl]

/-- What a removal in panel service asks of the record (R88). -/
def State.keyWentAway (s : State) (t : Nat) (second : Bool) : State :=
  let p := s.modRecord t fun q => { q with flags := { q.flags with keyAway := true } }
  if second then p.windowLapsed t else p

theorem serviceKey_bound {t : Nat} (ht : k.bound = some t) :
    s.serviceKey h k = (s.updHook h (Hook.servedOut (k.phase == .running))).keyWentAway t (k.phase == .running) := by
  simp only [State.serviceKey, ht]
  rfl

@[simp] theorem State.keyWentAway_kc (s : State) (t : Nat) (second : Bool) : (s.keyWentAway t second).kc = s.kc := by
  unfold State.keyWentAway
  cases second <;> simp

theorem record?_keyWentAway {q : State} {t : Nat} {r : Record} (hr : q.record? t = some r) (second : Bool) :
    ∃ r', (q.keyWentAway t second).record? t = some r' ∧ r'.flags.keyAway = true := by
  have haway : (q.modRecord t fun x => { x with flags := { x.flags with keyAway := true } }).record? t =
      some { r with flags := { r.flags with keyAway := true } } := by simp [hr]
  cases second with
  | false => exact ⟨_, haway, rfl⟩
  | true => exact windowLapsed_keyAway haway

theorem kc_serviceKey :
    (s.serviceKey h k).kc = (s.updHook h (Hook.servedOut (k.phase == .running))).kc := by
  cases ht : k.bound with
  | none => simp only [State.serviceKey, ht]; rfl
  | some t => rw [serviceKey_bound ht, State.keyWentAway_kc]

theorem completeLapse_first (hcount : k.count = 0) :
    s.completeLapse h k = s.updHook h (Hook.firstLapse s.kc.windowTime) := by
  simp only [State.completeLapse, hcount, if_true]
  rfl

theorem completeLapse_second {t : Nat} (hcount : k.count = 1) (ht : k.bound = some t) :
    s.completeLapse h k = (s.updHook h Hook.secondLapse).windowLapsed t := by
  simp only [State.completeLapse, hcount, one_ne_zero, if_false, ht]
  rfl

theorem kc_completeLapse_second (hcount : k.count = 1) :
    (s.completeLapse h k).kc = (s.updHook h Hook.secondLapse).kc := by
  cases ht : k.bound with
  | none => simp only [State.completeLapse, hcount, one_ne_zero, if_false, ht]; rfl
  | some t => rw [completeLapse_second hcount ht, (State.windowLapsed_frame _ t).2.1]

end

/-- Settles O44: each removal and each lapse at the hook, then at the record. -/
theorem removalsAndLapsesSettleTheHook : Obligations.RemovalsAndLapsesSettleTheHook := by
  intro s h k hk
  refine ⟨?_, ?_, fun t r ht hr _ => ⟨fun hst => ?_, fun hst => ?_, fun hcauses => ?_, ?_⟩, ?_, fun hcount => ?_,
    fun hcount => ⟨?_, fun t r ht hr => ?_⟩⟩
  · obtain ⟨latch, timer, hook⟩ := hook?_updHook_upToLatch s h (Hook.taken s.kc.custodyLimit) k hk
    exact ⟨_, (congrFun (hook?_congr kc_takeKey) h).trans hook, rfl, rfl, rfl, rfl, rfl, rfl, rfl, rfl, rfl⟩
  · obtain ⟨latch, timer, hook⟩ := hook?_forceKey hk
    exact ⟨_, hook, rfl, rfl, rfl, rfl, rfl, rfl, rfl⟩
  · rw [forceKey_bound ht]
    simp [keyForced_staged (s := s.updHook h Hook.forcedOut) (t := t) (r := r) (by simpa using hr) hst, hr]
  · rw [forceKey_bound ht]
    simpa using keyForced_record? (s := s.updHook h Hook.forcedOut) (t := t) (r := r) (by simpa using hr) hst
  · have hsa : (s.forceKey h k).sa = s.sa.raise .keyForced (some t) := by simp [forceKey_bound ht]
    rw [hsa]
    exact raise_latch s.sa .keyForced _ (by rw [hcauses]; decide)
  · rw [serviceKey_bound ht]
    exact record?_keyWentAway (r := r) (by simpa using hr) _
  · obtain ⟨latch, timer, hook⟩ := hook?_updHook_upToLatch s h (Hook.servedOut (k.phase == .running)) k hk
    refine ⟨_, (congrFun (hook?_congr kc_serviceKey) h).trans hook, ?_⟩
    by_cases hphase : k.phase = .running <;> simp [Hook.servedOut, hphase]
  · rw [completeLapse_first hcount]
    obtain ⟨latch, timer, hook⟩ := hook?_updHook_upToLatch s h (Hook.firstLapse s.kc.windowTime) k hk
    exact ⟨_, hook, rfl, rfl, rfl, rfl, rfl⟩
  · obtain ⟨latch, timer, hook⟩ := hook?_updHook_upToLatch s h Hook.secondLapse k hk
    exact ⟨_, (congrFun (hook?_congr (kc_completeLapse_second hcount)) h).trans hook, rfl, rfl, rfl, rfl, rfl⟩
  · intro q undone
    let p := s.updHook h Hook.secondLapse
    have hq : q = p.windowLapsed t := completeLapse_second hcount ht
    have hpr : p.record? t = some r := by simpa [p] using hr
    have hundone : p.hasJobToUndo r ↔ undone := by
      simp [State.hasJobToUndo, State.hasEntry, p, undone, record?_ticket s t r hr]
    rw [hq, ← hundone]
    refine ⟨fun hjob => ?_, fun hjob => ?_⟩
    · obtain ⟨hrec, hentry, hatt, hlook⟩ := windowLapsed_undoes hpr hjob
      refine ⟨hrec, fun x hx => hentry x (by simpa [p] using hx), fun a ha => ?_, hlook⟩
      obtain ⟨hsent, haway⟩ := hatt a ha
      have hdr : p.dr = s.dr := by simp [p]
      have hlk : p.lk = s.lk := by simp [p]
      refine ⟨?_, fun hlt => haway (by rwa [hdr])⟩
      unfold WithdrawnSent at hsent ⊢
      rwa [attendant_congr hdr, hlk] at hsent
    · rw [windowLapsed_stays hpr hjob]
      exact ⟨hpr, by simp [p], by simp [p], by simp [p]⟩

end Sys2Proof.Machine
end

section
/-! A grant (R11, R52, R95, R153), a serving pass (R51) and the end of an event (R50, R118). -/

namespace Sys2Proof.Machine

open Sys2Proof.Safety

/-! ### STALL_GRANT to every attendant signed on -/

/-- The frame that an attendant gets, where it is signed on and has a handset (R150). -/
def State.frameTo (s : State) (kind : Nat) (body : List Value) (a : Nat) : Option HandsetFrame :=
  if (s.attendant a).state = .off then none
  else (s.attendant a).handset.map fun identity =>
    { site := if s.lk.siteFixed then s.lk.siteId else 0, identity := identity, kind := kind, req := 0, body := body }

/-- A list cut to the room of the buffer, and more frames after it. -/
theorem take_append_append {α : Type} (n : Nat) (l m : List α) : ((l.take n) ++ m).take n = (l ++ m).take n := by
  rw [List.take_append, List.take_append, List.take_take, Nat.min_self, List.length_take]
  by_cases h : l.length ≤ n
  · rw [Nat.min_eq_right h]
  · rw [Nat.min_eq_left (by omega), Nat.sub_self, Nat.sub_eq_zero_of_le (by omega)]

section

variable {s q : State}

/-- A produced frame joins while the buffer has room (R155). -/
theorem sendTo_tx (a kind : Nat) (body : List Value) (hroom : s.lk.tx.length ≤ 64) :
    (s.sendTo a kind body).lk.tx = (s.lk.tx ++ (s.frameTo kind body a).toList).take 64 := by
  have hwhole : s.lk.tx.take 64 = s.lk.tx := List.take_of_length_le hroom
  unfold State.sendTo State.frameTo State.signedOn
  cases hoff : decide ((s.attendant a).state = .off) with
  | true => simp [of_decide_eq_true hoff, hwhole]
  | false =>
    have hon := of_decide_eq_false hoff
    cases hhandset : (s.attendant a).handset with
    | none => simp [hon, hwhole]
    | some identity =>
      have hsigned : ((s.attendant a).state != .off) = true := by simp [hon]
      simp only [hsigned, hon, if_false, State.pushFrame]
      by_cases hlt : s.lk.tx.length < 64
      · rw [if_pos (show s.lk.tx.length < Config.txPlaces from hlt), List.take_of_length_le]
        · rfl
        · simpa using hlt
      · have hfull : s.lk.tx.length = 64 := by omega
        rw [if_neg (show ¬s.lk.tx.length < Config.txPlaces from hlt), ← hfull, List.take_left]

theorem frameTo_congr (hdr : q.dr = s.dr) (hid : q.lk.siteId = s.lk.siteId) (hfix : q.lk.siteFixed = s.lk.siteFixed) :
    q.frameTo = s.frameTo := by
  funext kind body a
  simp only [State.frameTo, attendant_congr hdr, hid, hfix]

@[simp] theorem frameTo_sendTo (a kind : Nat) (body : List Value) : (s.sendTo a kind body).frameTo = s.frameTo := by
  refine frameTo_congr (by simp) ?_ ?_
  all_goals
    unfold State.sendTo State.pushFrame
    repeat' split
    all_goals rfl

/-- One frame to each attendant of a list in its order, cut to the room of the buffer (R153, R155). -/
theorem foldl_sendTo_tx (kind : Nat) (body : List Value) (l : List Nat) (hroom : s.lk.tx.length ≤ 64) :
    (l.foldl (fun q a => q.sendTo a kind body) s).lk.tx =
      (s.lk.tx ++ l.filterMap (s.frameTo kind body)).take 64 := by
  induction l generalizing s with
  | nil => simp [List.take_of_length_le hroom]
  | cons a as ih =>
    have htx := sendTo_tx a kind body hroom
    have hlen : (s.sendTo a kind body).lk.tx.length ≤ 64 := by rw [htx]; exact List.length_take_le 64 _
    rw [List.foldl_cons, ih hlen, htx, frameTo_sendTo, take_append_append, List.append_assoc]
    cases hf : s.frameTo kind body a <;> simp [hf]

/-! ### A grant -/

/-- A grant before it is announced. -/
def State.granting (s : State) (r : Record) (st : StallId) (fallback : Bool) : State :=
  ((((s.leaveWaitList r.ticket).holdStall r.ticket st).setState r.ticket .granted).noteFallback r.ticket fallback)

/-- The MOVE entry of a grant (R52). -/
def Record.moveEntry (r : Record) (now : Time) : Entry := Entry.queued .move r r.tier now none

variable {r : Record} {st : StallId} {fallback : Bool}

theorem grant_eq :
    s.grant r st fallback = ((s.granting r st fallback).addEntry (r.moveEntry s.sa.clock)).announceGrant r st := by
  have hsa : (s.granting r st fallback).sa = s.sa := by simp [State.granting]
  simp only [← hsa]
  rfl

@[simp] theorem State.granting_frame :
    (s.granting r st fallback).jq = s.jq ∧ (s.granting r st fallback).dr = s.dr ∧
      (s.granting r st fallback).lk = s.lk ∧ (s.granting r st fallback).sa = s.sa ∧
      (s.granting r st fallback).sm.waitList = s.sm.waitList.filter (· != r.ticket) := by
  simp [State.granting, State.leaveWaitList, State.setWaitList]

theorem addEntry_sa (s : State) (e : Entry) :
    (s.addEntry e).sa =
      if 55 ≤ s.jq.entries.length then s.sa.raise .queueHigh (some e.ticket) else s.sa := by
  have hlen : (s.setEntries (insertEntry e s.jq.entries)).lookDue.jq.entries.length = s.jq.entries.length + 1 := by
    simp [length_insertEntry]
  simp only [State.addEntry, hlen, show Config.queueHigh = 56 from rfl]
  by_cases h : 55 ≤ s.jq.entries.length
  · rw [if_pos h, if_pos (by omega)]; simp
  · rw [if_neg h, if_neg (by omega)]; simp

@[simp] theorem addEntry_look (s : State) (e : Entry) : (s.addEntry e).due.look = true := by
  unfold State.addEntry
  dsimp only
  split <;> simp

/-- A grant lengthens the queue by its entry, and is an event for the arbiter (R95, R107). -/
theorem grant_queue : (s.grant r st fallback).jq.entries.length = s.jq.entries.length + 1 ∧
    (s.grant r st fallback).due.look = true := by
  constructor <;> simp [grant_eq, length_insertEntry]

@[simp] theorem grant_waitList :
    (s.grant r st fallback).sm.waitList = s.sm.waitList.filter (· != r.ticket) := by
  simp [grant_eq]

/-- The record as it is granted (R11, R52). -/
def Record.grantedAt (limit : Nat) (st : StallId) (fallback : Bool) (r : Record) : Record :=
  let q := ({ r with stall := some st, flags := r.flags.stallChanged } : Record).enter .granted limit
  if fallback then { q with flags := { q.flags with chargeUnmet := true } } else q

@[simp] theorem Record.grantedAt_ticket (limit : Nat) (r : Record) : (r.grantedAt limit st fallback).ticket = r.ticket := by
  unfold Record.grantedAt; dsimp only; split <;> rfl

@[simp] theorem record?_grant (u : Nat) :
    (s.grant r st fallback).record? u =
      (s.record? u).map (if u = r.ticket then Record.grantedAt s.ct.parkLimit st fallback else id) := by
  by_cases hu : u = r.ticket
  · subst hu
    cases hr : s.record? r.ticket with
    | none => simp [grant_eq, State.granting, hr]
    | some x => cases fallback <;> simp [grant_eq, State.granting, hr, Record.grantedAt]
  · simp [grant_eq, State.granting, hu]

/-! ### A serving pass -/

/-- What holds at the start of a pass and through a grant to a record of the list holds at its end (R51). -/
theorem serveList_induction {P : State → Prop} {l : List Nat} (hstart : P s)
    (hgrant : ∀ (q : State) (r : Record) (st : StallId) (fallback : Bool), r.ticket ∈ l → q.jq.entries.length < 64 →
      P q → P (q.grant r st fallback)) : P (s.serveList l) := by
  induction l generalizing s with
  | nil => exact hstart
  | cons t ts ih =>
    have htail {q : State} (h : P q) : P (q.serveList ts) :=
      ih h fun p r st fb hmem => hgrant p r st fb (List.mem_cons_of_mem t hmem)
    unfold State.serveList
    split
    · exact hstart
    next hroom =>
      split
      · exact htail hstart
      next r hr =>
        split
        · split
          next st fb _ =>
            have hmem : r.ticket ∈ t :: ts := by rw [record?_ticket s t r hr]; exact List.mem_cons_self
            exact htail (hgrant s r st fb hmem (Nat.not_le.mp hroom) hstart)
          · exact htail hstart
        · exact htail hstart

/-- A pass grants nothing, or the queue grows and the arbiter has an event (R52, R107). -/
theorem serveList_grants (s : State) (l : List Nat) :
    s.serveList l = s ∨ (s.jq.entries.length < (s.serveList l).jq.entries.length ∧ (s.serveList l).due.look = true) := by
  refine serveList_induction
    (P := fun q => q = s ∨ (s.jq.entries.length < q.jq.entries.length ∧ q.due.look = true)) (Or.inl rfl) ?_
  intro q r st fb _ _ hq
  obtain ⟨hlen, hlook⟩ := grant_queue (s := q) (r := r) (st := st) (fallback := fb)
  refine Or.inr ⟨?_, hlook⟩
  rcases hq with rfl | ⟨hlt, -⟩ <;> omega

theorem keyIsHome_iff (s : State) (r : Record) :
    s.keyIsHome r = true ↔ ∃ k, s.hook? r.hook = some k ∧ k.state = .held := by
  simp [State.keyIsHome, State.hookState?]

/-- A pass over a list, entry by entry (R51). -/
theorem serveList_cons_full {t : Nat} {ts : List Nat} (h : 64 ≤ s.jq.entries.length) : s.serveList (t :: ts) = s := by
  have hfull : Config.queuePlaces ≤ s.jq.entries.length := h
  simp only [State.serveList, hfull, if_true]

theorem serveList_cons_away {t : Nat} {ts : List Nat} (h : s.jq.entries.length < 64) (hr : s.record? t = some r)
    (haway : ¬s.keyIsHome r = true) : s.serveList (t :: ts) = s.serveList ts := by
  have hroom : ¬Config.queuePlaces ≤ s.jq.entries.length := Nat.not_le.mpr h
  rw [State.serveList, if_neg hroom]
  simp only [hr]
  rw [if_neg haway]

theorem serveList_cons_none {t : Nat} {ts : List Nat} (h : s.jq.entries.length < 64) (hr : s.record? t = some r)
    (hhome : s.keyIsHome r = true) (hnone : s.allocate r.grade r.need r.tier = none) :
    s.serveList (t :: ts) = s.serveList ts := by
  have hroom : ¬Config.queuePlaces ≤ s.jq.entries.length := Nat.not_le.mpr h
  rw [State.serveList, if_neg hroom]
  simp only [hr, hnone]
  rw [if_pos hhome]

theorem serveList_cons_grants {t : Nat} {ts : List Nat} (h : s.jq.entries.length < 64) (hr : s.record? t = some r)
    (hhome : s.keyIsHome r = true) (hfound : s.allocate r.grade r.need r.tier = some (st, fallback)) :
    s.serveList (t :: ts) = (s.grant r st fallback).serveList ts := by
  have hroom : ¬Config.queuePlaces ≤ s.jq.entries.length := Nat.not_le.mpr h
  rw [State.serveList, if_neg hroom]
  simp only [hr, hfound]
  rw [if_pos hhome]

end

/-- Settles O51: the grant, the pass, and the end of an event. -/
theorem grantGivesAStallAndAMoveEntry : Obligations.GrantGivesAStallAndAMoveEntry := by
  refine ⟨fun s r st x fallback hr hx hentry => ?_, fun s => ⟨rfl, rfl, ?_, fun hlen => ?_⟩,
    fun s t rest => ⟨serveList_cons_full, fun hlen r hr => ?_⟩, fun s => ?_⟩
  · intro q
    have hsa : q.sa = if 55 ≤ s.jq.entries.length then s.sa.raise .queueHigh (some r.ticket) else s.sa := by
      simp [q, grant_eq, addEntry_sa, Record.moveEntry, Entry.queued]
    refine ⟨⟨r.grantedAt s.ct.parkLimit st fallback, by simp [q, hr], ?_, ?_, ?_⟩, ?_, by simp [q], ?_,
      by simp [q, grant_queue], fun hhigh hcauses => ?_, fun hlow => ?_, fun htx => ?_⟩
    · cases fallback <;> rfl
    · cases fallback <;> rfl
    · cases fallback <;> rfl
    · have hstall : (s.leaveWaitList r.ticket).stall? = s.stall? := rfl
      simp [q, grant_eq, State.granting, stall?_holdStall, hstall, hx]
    · have hnew := entry?_addEntry_self (s.granting r st fallback) (r.moveEntry s.sa.clock)
        (by rw [entry?_congr (State.granting_frame).1]; exact hentry)
      rw [show q = _ from grant_eq, (State.announceGrant_lookups _ r st).2.1]
      exact hnew
    · rw [hsa, if_pos hhigh]
      exact raise_latch s.sa .queueHigh _ (by rw [hcauses]; decide)
    · rw [hsa, if_neg (by omega)]
    · let p := (s.granting r st fallback).addEntry (r.moveEntry s.sa.clock)
      have hlk : p.lk = s.lk := by simp [p]
      have hframe : p.frameTo = s.frameTo := frameTo_congr (by simp [p]) (by rw [hlk]) (by rw [hlk])
      have hsent := foldl_sendTo_tx (s := p) 0x84 [.ticket r.ticket, .plate r.plate, .stall (some st), .half r.hook]
        (List.range 32) (by rwa [hlk])
      rw [hframe, hlk] at hsent
      have hq : q = p.announceGrant r st := grant_eq
      have hann : p.announceGrant r st = (List.range 32).foldl (fun q a => q.sendTo a 0x84
        [.ticket r.ticket, .plate r.plate, .stall (some st), .half r.hook]) p := rfl
      rw [hq, hann, hsent]
      congr 2
  · refine serveList_induction (P := fun q => q.sm.waitList.Sublist s.sm.waitList) (List.Sublist.refl _) ?_
    intro q r st fb _ _ hq
    rw [grant_waitList]
    exact List.filter_sublist.trans hq
  · refine serveList_induction (P := fun q => q.jq.entries.length ≤ 64) hlen ?_
    intro q r st fb _ hroom _
    rw [grant_queue.1]
    omega
  · rw [← keyIsHome_iff]
    exact ⟨serveList_cons_away hlen hr, serveList_cons_none hlen hr, fun st fallback => serveList_cons_grants hlen hr⟩
  · intro p
    have hfinish : s.finish = { p.lookStep with due := .clear } := rfl
    have hpass : p = s ∨ (s.jq.entries.length < p.jq.entries.length ∧ p.due.look = true) := by
      by_cases hserve : s.due.serve = true
      · simp only [p, hserve, if_true]
        exact serveList_grants s _
      · simp only [p, hserve, Bool.false_eq_true, if_false, true_or]
    refine ⟨fun hlook => ?_, fun hlook => ?_, fun hlook => ?_, fun hlook hjq => ?_⟩
    · rw [hfinish, State.lookStep, if_pos hlook]; rfl
    · rw [hfinish, State.lookStep, if_neg (by simp [hlook])]; rfl
    · rcases hpass with h | ⟨-, h⟩
      · rw [h]; exact hlook
      · exact h
    · rcases hpass with h | ⟨h, -⟩
      · rw [h]; exact hlook
      · rw [hjq] at h; exact absurd h (lt_irrefl _)

end Sys2Proof.Machine
end

section
/-! The reconciliation of the records at a warm restart (R25, R91, R184). -/

namespace Sys2Proof.Machine

open Sys2Proof.Safety

/-! ### The hooks at the restart (R91) -/

@[simp] theorem Hook.restart_out (k : Hook) : k.restart.state = .out ↔ k.state = .out := by
  unfold Hook.restart
  dsimp only
  split
  next h => rcases h with h | ⟨h, -⟩ <;> simp [Hook.stopCustody, Hook.windowEnded, h]
  · simp [Hook.stopCustody]

theorem Hook.restart_attendant {k : Hook} (h : k.state = .out) : k.restart.attendant = k.attendant := by
  simp [Hook.restart, h, Hook.stopCustody]

section

variable {s : State}

/-- The restart of the cabinet is the restart of each of its hooks (R91). -/
theorem hook?_volatileReset (h : Nat) : s.volatileReset.hook? h = (s.hook? h).map Hook.restart := by
  have hpanel : s.volatileReset.panel (panelOf h) = (s.panel (panelOf h)).restart := by
    have habsent : Panel.absent.restart = Panel.absent := rfl
    simp only [State.panel, State.volatileReset, Cabinet.restart, List.getD_eq_getElem?_getD, List.getElem?_map]
    cases s.kc.panels[panelOf h]? <;> simp [habsent]
  simp [State.hook?, hpanel, Panel.restart]

theorem keyHolder_volatileReset {r : Record} {k : Hook} (hk : s.hook? r.hook = some k) :
    s.volatileReset.keyHolder r = if k.state = .out then k.attendant else none := by
  simp only [State.keyHolder, hook?_volatileReset, hk, Option.map_some, Hook.restart_out]
  split
  next h => exact Hook.restart_attendant h
  · rfl

/-! ### The records -/

/-- Where the tickets of the table are distinct, a record of the table is the one that its ticket looks up (R1). -/
theorem record?_of_mem {r : Record} (hsound : TableSound s) (hr : r ∈ s.ct.records) :
    s.record? r.ticket = some r := by
  obtain ⟨-, -, hdistinct⟩ := hsound
  unfold State.record?
  generalize s.ct.records = l at hr hdistinct
  induction l with
  | nil => cases hr
  | cons q qs ih =>
    obtain ⟨hq, hqs⟩ := List.pairwise_cons.mp hdistinct
    rcases List.mem_cons.mp hr with rfl | hmem
    · simp
    · simp [hq r hmem, ih hmem hqs]

/-- A record as the restart reconciles it with its hook and the queue before (R25). -/
def State.reconciled (s : State) (r : Record) : Record :=
  r.reconcile s.ct.parkLimit (s.volatileReset.hookState? r == some .out) (s.volatileReset.keyHolder r)
    (s.jq.entries.any fun e => e.ticket == r.ticket && e.kind == .move)

@[simp] theorem State.reconciled_ticket (s : State) (r : Record) : (s.reconciled r).ticket = r.ticket := by
  simp [State.reconciled]

/-- The beginning of RECOVERY leaves the records and the stalls (R186). -/
theorem beginRecovery_ct_sm (q : State) : q.beginRecovery.ct = q.ct ∧ q.beginRecovery.sm = q.sm := by
  unfold State.beginRecovery State.endRecovery
  repeat' split
  all_goals exact ⟨rfl, rfl⟩

theorem restarted_records : s.restarted.ct.records = s.ct.records.map s.reconciled := by
  rw [State.restarted, (beginRecovery_ct_sm _).1]
  rfl

theorem restarted_waitList : s.restarted.sm.waitList = s.sm.waitList := by
  rw [State.restarted, (beginRecovery_ct_sm _).2]
  rfl

theorem record?_restarted (t : Nat) : s.restarted.record? t = (s.record? t).map s.reconciled := by
  simp [State.record?, restarted_records, List.find?_map]

/-- The restart's serving pass changes no record that is off the wait list (R51, R67). -/
theorem record?_warmRestart {t : Nat} (ht : t ∉ s.sm.waitList) : s.warmRestart.record? t = s.restarted.record? t := by
  have hpass : s.restarted.servePass.record? t = s.restarted.record? t := by
    refine serveList_induction (P := fun q => q.record? t = s.restarted.record? t) rfl ?_
    intro q r st fallback hmem _ hq
    have hne : t ≠ r.ticket := fun h => ht (by rw [h, ← restarted_waitList]; exact hmem)
    simpa [hne] using hq
  have hwarm : s.warmRestart.record? = (if restartServes s s.restarted then s.restarted.servePass else s.restarted).record? :=
    record?_congr rfl
  rw [hwarm]
  split
  · exact hpass
  · rfl

/-! ### The cases of R25 -/

variable {limit : Nat} {out hadMove : Bool} {holder : Option Nat} {r : Record}

/-- In every state the stall stays with the record, and KEY_OVERDUE clears (R5, R25). -/
theorem Record.reconcile_keeps :
    (r.reconcile limit out holder hadMove).stall = r.stall ∧
      (r.reconcile limit out holder hadMove).flags.keyOverdue = false := by
  unfold Record.reconcile
  dsimp only
  repeat' split
  all_goals exact ⟨rfl, rfl⟩

theorem Record.reconcile_fetching_out (h : r.state = .fetching) :
    r.reconcile limit true holder hadMove =
      { ({ r with flags := { r.flags with keyOverdue := false } } : Record).enter .suspended limit with
        call := none, attendant := holder, reason := some .restart } := by
  simp [Record.reconcile, h]

theorem Record.reconcile_fetching_home (h : r.state = .fetching) :
    r.reconcile limit false holder hadMove =
      (({ r with flags := { r.flags with keyOverdue := false } } : Record).enter .called limit).freed := by
  simp [Record.reconcile, h]

theorem Record.reconcile_move_home (h : r.state = .inbound) :
    r.reconcile limit false holder true =
      (({ r with flags := { r.flags with keyOverdue := false } } : Record).enter .granted limit).freed := by
  simp [Record.reconcile, h]

theorem Record.reconcile_inbound (h : r.state = .inbound) (hstays : (hadMove && !out) = false) :
    r.reconcile limit out holder hadMove =
      { ({ r with flags := { r.flags with keyOverdue := false } } : Record).freed with
        park := some { elapsed := 0, length := limit, reached := false } } := by
  simp [Record.reconcile, h, hstays]

theorem Record.reconcile_rest (hfetch : r.state ≠ .fetching) (hin : r.state ≠ .inbound) :
    r.reconcile limit out holder hadMove =
      { r with
        flags := { r.flags with keyOverdue := false }
        attendant := if r.state = .suspended then r.attendant else none } := by
  unfold Record.reconcile
  cases hst : r.state <;> simp_all [Record.freed]

end

/-- Settles O33: the record is reconciled with its hook as the restart finds it, state by state. -/
theorem warmRestartReconcilesRecordsAgainstHooks : Obligations.WarmRestartReconcilesRecordsAgainstHooks := by
  intro s r k hsound hr hk move
  have hlook : s.restarted.record? r.ticket = some (s.reconciled r) := by
    rw [record?_restarted, record?_of_mem hsound hr, Option.map_some]
  have hstate : (s.volatileReset.hookState? r == some .out) = decide (k.state = .out) := by
    rw [Bool.eq_iff_iff]
    simp [State.hookState?, hook?_volatileReset, hk]
  have hmove : (s.jq.entries.any fun e => e.ticket == r.ticket && e.kind == .move) = decide move := by
    rw [Bool.eq_iff_iff]
    simp [move]
  have hrec : s.reconciled r = r.reconcile s.ct.parkLimit (decide (k.state = .out))
      (if k.state = .out then k.attendant else none) (decide move) := by
    rw [State.reconciled, hstate, keyHolder_volatileReset hk, hmove]
  refine ⟨s.reconciled r, hlook, fun ht => by rw [record?_warmRestart ht, hlook], ?_⟩
  have hhome (h : k.state = .held ∨ k.state = .opened) : decide (k.state = .out) = false := by
    rcases h with h | h <;> simp [h]
  rw [hrec]
  refine ⟨Record.reconcile_keeps.1, Record.reconcile_keeps.2, fun hst hout => ?_, fun hst hheld => ?_,
    fun hst hmoving hheld => ?_, fun hst hstays => ?_, fun hfetch hin => Record.reconcile_rest hfetch hin⟩
  · simp [hout, Record.reconcile_fetching_out hst]
  · simp [hhome hheld, Record.reconcile_fetching_home hst]
  · rw [hhome hheld, decide_eq_true hmoving, Record.reconcile_move_home hst]
    exact ⟨rfl, rfl, rfl, by simp [RecordFlags.leave, hst], rfl⟩
  · have hkeeps : (decide move && !decide (k.state = .out)) = false := by
      rcases hstays with h | h <;> simp [h]
    simp [Record.reconcile_inbound hst hkeeps, Record.freed, hst]

end Sys2Proof.Machine
end

section
/-! The ten expiries: each acts when its timer has reached its length, and changes nothing otherwise (R180). -/

namespace Sys2Proof.Machine

open Sys2Proof.Safety

/-! ### Events and timers -/

theorem timerDue_iff (x : Option Timer) : timerDue x = true ↔ ∃ d, x = some d ∧ d.length ≤ d.elapsed := by
  cases x <;> simp [timerDue]

section

variable {c : Instr} {occurs : State → Bool} {f : State → State} {s : State}

/-- An event that occurs while the controller runs is taken. -/
theorem eventLeaves_of_occurs (hexec : exec c s = event occurs f s) (hrun : s.running = true) (hoccurs : occurs s = true) :
    EventLeaves c s (f s.begin) := by
  simp [EventLeaves, hexec, event, hrun, hoccurs]

/-- An event that has not occurred changes nothing. -/
theorem exec_of_not_occurs (hexec : exec c s = event occurs f s) (hoccurs : occurs s = false) : exec c s = .next s := by
  simp [hexec, event, hoccurs]

end

/-! ### Each expiry is its event -/

section

variable (s : State) (n : Nat)

theorem exec_silenceTimerExpiry : exec (.silenceTimerExpiry n) s =
    event (fun s => (s.link n).link == .live && timerDue (s.link n).silence) (fun s => s.silence n) s := rfl

theorem exec_latchRepeat : exec (.latchRepeat n) s =
    event (fun s => s.onHook n fun k => k.latch.isSome && timerDue k.repeatTimer) (fun s => s.resendLatch n) s := rfl

theorem exec_windowTimerExpiry : exec (.windowTimerExpiry n) s =
    event (fun s => s.onHook n fun k => timerDue k.window) (fun s => s.expireWindow n) s := rfl

theorem exec_keyWarningPoint : exec (.keyWarningPoint n) s =
    event (fun s => s.onHook n Hook.warningDue) (fun s => s.warnKey n) s := rfl

theorem exec_custodyLimitReached : exec (.custodyLimitReached n) s =
    event (fun s => s.onHook n fun k => !k.overdue && timerDue k.custody) (fun s => s.overdueKey n) s := rfl

theorem exec_parkLimitReached : exec (.parkLimitReached n) s =
    event (fun s => (s.record? n).any Record.parkDue) (fun s => s.lateInbound n) s := rfl

theorem exec_ackTimerExpiry : exec (.ackTimerExpiry n) s =
    event (fun s => (s.attendant n).state == .offered && timerDue (s.attendant n).ack) (fun s => s.ackTimeout n) s := rfl

theorem exec_dwellTimerExpiry : exec (.dwellTimerExpiry n) s =
    event (fun s => timerDue (s.bay n).dwell) (fun s => s.expireDwell n) s := rfl

theorem exec_driveOffTimerExpiry : exec (.driveOffTimerExpiry n) s =
    event (fun s => timerDue (s.bay n).driveOff) (fun s => s.driveOff n) s := rfl

theorem exec_recoveryTimerExpiry : exec .recoveryTimerExpiry s =
    event (fun s => s.sa.recovery.any fun rc => timerDue (some rc.timer)) State.endRecovery s := rfl

end

/-! ### The expiries at a hook -/

section

variable {s : State} {h : Nat} {k : Hook}

theorem onHook_some (hk : s.hook? h = some k) (p : Hook → Bool) : s.onHook h p = p k := by simp [State.onHook, hk]

theorem onHook_none (hk : s.hook? h = none) (p : Hook → Bool) : s.onHook h p = false := by simp [State.onHook, hk]

theorem hook?_begin (h : Nat) : s.begin.hook? h = s.hook? h := rfl

theorem resendLatch_some {l : Latch} (hk : s.hook? h = some k) (hl : k.latch = some l) :
    s.resendLatch h = s.sendLatch h l := by
  simp [State.resendLatch, hk, hl]

/-- An OPEN window out of service closes its latch first (R77). -/
theorem expireWindow_closes (hk : s.hook? h = some k) (hst : k.state = .opened) (hserv : s.hookInService h = false) :
    s.expireWindow h = s.updHook h fun x => { x with window := none, phase := .closing } := by
  simp [State.expireWindow, hk, hst, hserv]

/-- A second period, or an OPEN window in panel service, lapses at once (R77, R87). -/
theorem expireWindow_lapses (hk : s.hook? h = some k)
    (hst : k.state = .held ∨ (k.state = .opened ∧ s.hookInService h = true)) :
    s.expireWindow h = s.completeLapse h k := by
  rcases hst with hst | ⟨hst, hserv⟩
  · simp [State.expireWindow, hk, hst]
  · simp [State.expireWindow, hk, hst, hserv]

theorem expireWindow_stops (hk : s.hook? h = some k) (hheld : k.state ≠ .held) (hopen : k.state ≠ .opened) :
    s.expireWindow h = s.updHook h fun x => { x with window := none } := by
  unfold State.expireWindow
  simp only [hk]

theorem warningDue_iff (k : Hook) :
    k.warningDue = true ↔ k.warned = false ∧ ∃ d, k.custody = some d ∧ d.length * 3 / 4 ≤ d.elapsed := by
  simp only [Hook.warningDue, Bool.and_eq_true, Bool.not_eq_true', Option.any_eq_true, decide_eq_true_eq]
  rfl

/-- The warning of a bound record's key (R84, R154). -/
theorem warnKey_bound {t : Nat} {d : Timer} (hk : s.hook? h = some k) (ht : k.bound = some t) (hd : k.custody = some d) :
    let q := (s.updHook h fun x => { x with warned := true }).raise .keyWarning (some t)
    s.warnKey h = match k.attendant with
      | none => q
      | some a => q.sendTo a 0x85 [.ticket t, .half h, .word (BitVec.ofNat 32 (d.length - d.length * 3 / 4))] := by
  intro q
  cases ha : k.attendant <;> simp only [State.warnKey, hk, ht, ha, hd] <;> rfl

theorem overdueKey_bound {t : Nat} (hk : s.hook? h = some k) (ht : k.bound = some t) :
    s.overdueKey h = ((s.updHook h fun x => { x with overdue := true }).modRecord t fun r =>
      { r with flags := { r.flags with keyOverdue := true } }).raise .keyOverdue (some t) := by
  simp only [State.overdueKey, hk, ht]

end

/-! ### The expiries at a record, an attendant and a bay -/

section

variable {s : State}

theorem parkDue_iff (t : Nat) : (s.record? t).any Record.parkDue = true ↔
    ∃ r d, s.record? t = some r ∧ r.park = some d ∧ d.reached = false ∧ d.length ≤ d.elapsed := by
  simp [Record.parkDue, Option.any_eq_true]

theorem ackTimeout_offered {a : Nat} {e : Entry} (he : s.entryOf a = some e) :
    s.ackTimeout a = ((s.requeue e.ticket).leaveIdle a .away).raise .ackTimeout (some a) := by
  simp only [State.ackTimeout, he]

theorem expireDwell_held {b t : Nat} (ht : (s.bay b).holder = some t) :
    s.expireDwell b = ((s.modBay b fun x => { x with dwell := none }).modRecord t fun r =>
      { r with flags := { r.flags with dwellExpired := true } }).raise .dwellExpired (some t) := by
  simp only [State.expireDwell, ht]

theorem driveOff_held {b t : Nat} {r : Record} (ht : (s.bay b).holder = some t) (hr : s.record? t = some r) :
    let q := (s.modBay b fun x => { x with driveOff := none }).raise .driveOff (some t)
    s.driveOff b = if r.state = .staged then q.retireRecord t else q := by
  simp [State.driveOff, ht, hr]

end

/-! ### The obligation, timer by timer -/

section

variable {s : State} {h : Nat} {k : Hook}

theorem latchRepeat_ruled (hrun : s.running = true) (hk : s.hook? h = some k) :
    let reached (x : Option Timer) : Prop := ∃ d, x = some d ∧ d.length ≤ d.elapsed
    (∀ l, k.latch = some l → reached k.repeatTimer → EventLeaves (.latchRepeat h) s (s.begin.sendLatch h l)) ∧
    (¬(k.latch ≠ none ∧ reached k.repeatTimer) → exec (.latchRepeat h) s = .next s) := by
  intro reached
  refine ⟨fun l hl hdue => ?_, fun hnot => exec_of_not_occurs (exec_latchRepeat s h) ?_⟩
  · rw [← resendLatch_some ((hook?_begin h).trans hk) hl]
    refine eventLeaves_of_occurs (exec_latchRepeat s h) hrun ?_
    simp [onHook_some hk, hl, (timerDue_iff _).mpr hdue]
  · rw [onHook_some hk, ← Bool.not_eq_true, Bool.and_eq_true, timerDue_iff, Option.isSome_iff_ne_none]
    exact hnot

theorem windowTimerExpiry_ruled (hrun : s.running = true) (hk : s.hook? h = some k) :
    let reached (x : Option Timer) : Prop := ∃ d, x = some d ∧ d.length ≤ d.elapsed
    (¬reached k.window → exec (.windowTimerExpiry h) s = .next s) ∧
    (reached k.window →
      (k.state = .opened → s.hookInService h = false →
        EventLeaves (.windowTimerExpiry h) s (s.begin.updHook h fun x => { x with window := none, phase := .closing })) ∧
      (k.state = .held ∨ (k.state = .opened ∧ s.hookInService h = true) →
        EventLeaves (.windowTimerExpiry h) s (s.begin.completeLapse h k)) ∧
      (k.state ≠ .held → k.state ≠ .opened →
        EventLeaves (.windowTimerExpiry h) s (s.begin.updHook h fun x => { x with window := none }))) := by
  intro reached
  have hbegin : s.begin.hook? h = some k := hk
  refine ⟨fun hnot => exec_of_not_occurs (exec_windowTimerExpiry s h) ?_, fun hdue => ?_⟩
  · rw [onHook_some hk, ← Bool.not_eq_true, timerDue_iff]
    exact hnot
  · have htaken := eventLeaves_of_occurs (exec_windowTimerExpiry s h) hrun
      ((onHook_some hk _).trans ((timerDue_iff _).mpr hdue))
    refine ⟨fun hst hserv => ?_, fun hst => ?_, fun hheld hopen => ?_⟩
    · rwa [expireWindow_closes hbegin hst hserv] at htaken
    · rwa [expireWindow_lapses hbegin hst] at htaken
    · rwa [expireWindow_stops hbegin hheld hopen] at htaken

theorem keyWarningPoint_ruled (hrun : s.running = true) (hk : s.hook? h = some k) :
    let warns : Prop := k.warned = false ∧ ∃ d, k.custody = some d ∧ d.length * 3 / 4 ≤ d.elapsed
    (¬warns → exec (.keyWarningPoint h) s = .next s) ∧
    (warns → ∀ t d, k.bound = some t → k.custody = some d →
      EventLeaves (.keyWarningPoint h) s (s.begin.warnKey h)) := by
  intro warns
  refine ⟨fun hnot => exec_of_not_occurs (exec_keyWarningPoint s h) ?_, fun hwarns t d _ _ =>
    eventLeaves_of_occurs (exec_keyWarningPoint s h) hrun ?_⟩
  · rw [onHook_some hk, ← Bool.not_eq_true, warningDue_iff]
    exact hnot
  · rw [onHook_some hk, warningDue_iff]
    exact hwarns

theorem custodyLimitReached_ruled (hrun : s.running = true) (hk : s.hook? h = some k) :
    let passed : Prop := k.overdue = false ∧ ∃ d, k.custody = some d ∧ d.length ≤ d.elapsed
    (¬passed → exec (.custodyLimitReached h) s = .next s) ∧
    (passed → EventLeaves (.custodyLimitReached h) s (s.begin.overdueKey h)) := by
  intro passed
  have hoccurs : (!k.overdue && timerDue k.custody) = true ↔ passed := by
    rw [Bool.and_eq_true, timerDue_iff, Bool.not_eq_true']
  refine ⟨fun hnot => exec_of_not_occurs (exec_custodyLimitReached s h) ?_, fun hpassed =>
    eventLeaves_of_occurs (exec_custodyLimitReached s h) hrun ?_⟩
  · rw [onHook_some hk, ← Bool.not_eq_true, hoccurs]
    exact hnot
  · rw [onHook_some hk, hoccurs]
    exact hpassed

/-- A hook that is not there has no timers. -/
theorem hookExpiries_absent (hk : s.hook? h = none) :
    exec (.latchRepeat h) s = .next s ∧ exec (.windowTimerExpiry h) s = .next s ∧
      exec (.keyWarningPoint h) s = .next s ∧ exec (.custodyLimitReached h) s = .next s :=
  ⟨exec_of_not_occurs (exec_latchRepeat s h) (onHook_none hk _),
    exec_of_not_occurs (exec_windowTimerExpiry s h) (onHook_none hk _),
    exec_of_not_occurs (exec_keyWarningPoint s h) (onHook_none hk _),
    exec_of_not_occurs (exec_custodyLimitReached s h) (onHook_none hk _)⟩

end

/-- Settles O45: zones and hooks, then records, attendants, bays and RECOVERY. -/
theorem expiriesActAtTheirLength : Obligations.ExpiriesActAtTheirLength := by
  intro s hrun reached
  refine ⟨fun z => ⟨fun hlive hdue => ?_, fun hnot => ?_⟩, fun h => hookExpiries_absent, fun h k hk => ?_,
    fun t => ⟨fun hlate => ?_, fun hnot => ?_⟩, fun a => ⟨fun htimeout e he => ?_, fun hnot => ?_⟩,
    fun b => ⟨fun hdue t ht => ?_, fun hnot => ?_, fun hdue t r ht hr => ?_, fun hnot => ?_⟩, fun hdue => ?_,
    fun hnot => ?_⟩
  · have htaken := eventLeaves_of_occurs (exec_silenceTimerExpiry s z) hrun
      (by simp [hlive, (timerDue_iff _).mpr hdue])
    exact htaken
  · refine exec_of_not_occurs (exec_silenceTimerExpiry s z) ?_
    rw [← Bool.not_eq_true, Bool.and_eq_true, timerDue_iff, beq_iff_eq]
    exact hnot
  · have hbegin : s.begin.hook? h = some k := hk
    obtain ⟨hagain, hnotAgain⟩ := latchRepeat_ruled hrun hk
    obtain ⟨hopen, hwindow⟩ := windowTimerExpiry_ruled hrun hk
    obtain ⟨hnotWarned, hwarned⟩ := keyWarningPoint_ruled hrun hk
    obtain ⟨hnotPassed, hpassed⟩ := custodyLimitReached_ruled hrun hk
    refine ⟨hagain, hnotAgain, hopen, hwindow, hnotWarned, fun hw t d ht hd => ?_, hnotPassed, fun hp t ht => ?_⟩
    · have htaken := hwarned hw t d ht hd
      rw [warnKey_bound hbegin ht hd] at htaken
      cases ha : k.attendant <;> simpa only [ha] using htaken
    · have htaken := hpassed hp
      rwa [overdueKey_bound hbegin ht] at htaken
  · exact eventLeaves_of_occurs (exec_parkLimitReached s t) hrun ((parkDue_iff t).mpr hlate)
  · refine exec_of_not_occurs (exec_parkLimitReached s t) ?_
    rw [← Bool.not_eq_true, parkDue_iff]
    exact hnot
  · have htaken := eventLeaves_of_occurs (exec_ackTimerExpiry s a) hrun
      (by simp [htimeout.1, (timerDue_iff _).mpr htimeout.2])
    rwa [ackTimeout_offered (s := s.begin) he] at htaken
  · refine exec_of_not_occurs (exec_ackTimerExpiry s a) ?_
    rw [← Bool.not_eq_true, Bool.and_eq_true, timerDue_iff, beq_iff_eq]
    exact hnot
  · have htaken := eventLeaves_of_occurs (exec_dwellTimerExpiry s b) hrun ((timerDue_iff _).mpr hdue)
    rwa [expireDwell_held (s := s.begin) ht] at htaken
  · refine exec_of_not_occurs (exec_dwellTimerExpiry s b) ?_
    rw [← Bool.not_eq_true, timerDue_iff]
    exact hnot
  · have htaken := eventLeaves_of_occurs (exec_driveOffTimerExpiry s b) hrun ((timerDue_iff _).mpr hdue)
    rwa [driveOff_held (s := s.begin) ht hr] at htaken
  · refine exec_of_not_occurs (exec_driveOffTimerExpiry s b) ?_
    rw [← Bool.not_eq_true, timerDue_iff]
    exact hnot
  · have htaken := eventLeaves_of_occurs (exec_recoveryTimerExpiry s) hrun
      (by simpa [Option.any_eq_true, timerDue] using hdue)
    exact htaken
  · refine exec_of_not_occurs (exec_recoveryTimerExpiry s) ?_
    rw [← Bool.not_eq_true]
    simpa [Option.any_eq_true, timerDue] using hnot

end Sys2Proof.Machine
end

section
/-! The stall map's conditions (R31, R41 to R47): the offer condition and fit, item by item, and what allocation finds. -/

namespace Sys2Proof.Machine

open Sys2Proof.Safety

/-! ### The offer condition and fit (R41 to R44) -/

theorem withdrawnAlone_iff (s : State) (z : Nat) :
    s.withdrawnAlone z = true ↔ (s.link z).link ≠ .live ∧ (s.zone z).withdrawal = true := by
  simp [State.withdrawnAlone]

theorem mem_members (s : State) (g z : Nat) :
    z ∈ s.members g ↔ z = g ∨ ((s.zone g).paired = true ∧ z = g + 1) := by
  unfold State.members
  split <;> simp_all

/-- A zone counts as withdrawn with either zone of its pair (R41). -/
theorem withdrawn_iff (s : State) (z : Nat) :
    s.withdrawn z = true ↔ s.withdrawnAlone (s.governing z) = true ∨
      ((s.zone (s.governing z)).paired = true ∧ s.withdrawnAlone (s.governing z + 1) = true) := by
  simp [State.withdrawn, List.any_eq_true, mem_members, or_and_right, exists_or, and_assoc]

theorem permitHeld_iff (s : State) (z : Nat) :
    s.permitHeld z = true ↔
      (s.lk.mask.getLsbD (s.governing z) = true → s.lk.permits.getLsbD (s.governing z) = true) := by
  unfold State.permitHeld
  cases s.lk.mask.getLsbD (s.governing z) <;> simp

/-- The offer condition in the words of R43, at the governing zone `g`. -/
theorem offerable_iff (s : State) (z g : Nat) (hg : s.governing z = g) (x : Stall) :
    s.offerable z x = true ↔
      (s.zone g).isOpen = true ∧
      ¬(s.withdrawnAlone g = true ∨ ((s.zone g).paired = true ∧ s.withdrawnAlone (g + 1) = true)) ∧
      (s.lk.mask.getLsbD g = true → s.lk.permits.getLsbD g = true) ∧
      x.enabled = true ∧
      (x.sensed = .vacant ∨ (x.sensed = .unknown ∧ (s.zone z).withdrawal = false)) ∧
      x.holder = none ∧ x.stray = false ∧ (s.sa.state = .night → (s.zone g).night = true) := by
  have hnight : (s.sa.state != .night || s.zoneNight z) = true ↔ (s.sa.state = .night → (s.zone g).night = true) := by
    rw [State.zoneNight, hg]
    by_cases h : s.sa.state = .night <;> simp [h]
  simp only [State.offerable, Bool.and_eq_true, hnight, permitHeld_iff, Bool.not_eq_true', State.zoneOpen, hg,
    ← Bool.not_eq_true, withdrawn_iff, Bool.or_eq_true, beq_iff_eq, Option.isNone_iff_eq_none, and_assoc]

/-- An offerable stall has no holder and is not stray (R43). -/
theorem offerable_free {s : State} {z : Nat} {x : Stall} (h : s.offerable z x = true) :
    x.holder = none ∧ x.stray = false := by
  obtain ⟨-, -, -, -, -, hholder, hstray, -⟩ := (offerable_iff s z _ rfl x).mp h
  exact ⟨hholder, hstray⟩

/-- Fit in the words of R44. -/
theorem fits_iff (s : State) (grade : Nat) (need : Need) (fallback : Bool) (z : Nat) (x : Stall) :
    s.fits grade need fallback z x = true ↔
      grade ≤ s.gradeOf x ∧
      match need with
      | .secure => x.attr = .secure
      | .charger => x.attr = if fallback then .none else .charger
      | .none => x.attr = .none ∨ (s.zone (s.governing z)).spill = true := by
  rw [State.fits, Bool.and_eq_true, decide_eq_true_eq]
  refine and_congr_right fun _ => ?_
  cases need with
  | secure => simp [State.attrSuits]
  | charger => cases fallback <;> simp [State.attrSuits]
  | none => simp [State.attrSuits, State.zoneSpill]

/-- Settles O47: the offer condition and fit by their items, read at the governing zone. -/
theorem offerConditionAndFitAreJudgedItemByItem : Obligations.OfferConditionAndFitAreJudgedItemByItem := by
  intro s z x upper g withdrawn
  have hg : s.governing z = g := governing_eq s z
  refine ⟨?_, fun grade need fallback => ?_, fun h => ?_, fun h => ?_⟩
  · simp only [offerable_iff s z g hg, withdrawnAlone_iff]
    exact Iff.rfl
  · have hfits := fits_iff s grade need fallback z x
    rw [hg] at hfits
    exact hfits
  · rw [hg]; exact if_pos h
  · rw [hg]; exact if_neg h

/-! ### The candidates of a zone or pair (R46) -/

/-- The order of the stalls in a zone or pair: by zone, then by index. -/
def StallId.before (y w : StallId) : Prop := y.zone < w.zone ∨ (y.zone = w.zone ∧ y.index < w.index)

section

variable {s : State} {grade : Nat} {need : Need} {fallback : Bool}

theorem mem_zoneStalls (z i : Nat) (x : Stall) : (i, x) ∈ s.zoneStalls z ↔ s.stall? z i = some x := by
  simp [State.zoneStalls, State.stall?, List.mem_iff_getElem?]

/-- The candidates are the offerable fitting stalls of the zones that `g` stands for. -/
theorem mem_candidates (g : Nat) (y : StallId) (x : Stall) :
    (y, x) ∈ s.candidates grade need fallback g ↔
      y.zone ∈ s.members g ∧ s.stall? y.zone y.index = some x ∧ s.offerable y.zone x = true ∧
        s.fits grade need fallback y.zone x = true := by
  obtain ⟨z, i⟩ := y
  simp only [State.candidates, List.mem_flatMap, List.mem_map, List.mem_filter, Bool.and_eq_true, Prod.exists,
    mem_zoneStalls, Prod.mk.injEq, StallId.mk.injEq]
  constructor
  · rintro ⟨_, hz, _, _, ⟨hx, hoff, hfit⟩, ⟨rfl, rfl⟩, rfl⟩
    exact ⟨hz, hx, hoff, hfit⟩
  · rintro ⟨hz, hx, hoff, hfit⟩
    exact ⟨z, hz, i, x, ⟨hx, hoff, hfit⟩, ⟨rfl, rfl⟩, rfl⟩

theorem zoneStalls_ordered (z : Nat) : (s.zoneStalls z).Pairwise fun p q => p.1 < q.1 := by
  rw [State.zoneStalls, List.pairwise_iff_getElem]
  intro i j hi hj hlt
  simpa using hlt

/-- The candidates stand in the order of the stalls: the lower zone first, each zone in index order. -/
theorem candidates_ordered (g : Nat) :
    (s.candidates grade need fallback g).Pairwise fun p q => p.1.before q.1 := by
  have hzones : (s.members g).Pairwise (· < ·) := by
    unfold State.members
    split <;> simp
  refine List.pairwise_flatMap.mpr ⟨fun z _ => ?_, hzones.imp fun {z w} hlt p hp q hq => ?_⟩
  · rw [List.pairwise_map]
    exact ((zoneStalls_ordered z).filter _).imp fun hlt => Or.inr ⟨rfl, hlt⟩
  · obtain ⟨_, -, rfl⟩ := List.mem_map.mp hp
    obtain ⟨_, -, rfl⟩ := List.mem_map.mp hq
    exact Or.inl hlt

/-! ### The choice among candidates (R46) -/

theorem smallest_eq_none {l : List (StallId × Stall)} : s.smallest l = none ↔ l = [] := by
  cases l with
  | nil => simp [State.smallest]
  | cons p ps =>
    simp only [State.smallest, reduceCtorEq, iff_false]
    repeat' split
    all_goals simp

/-- The choice is a candidate; none is of smaller grade, and those before it are of greater grade. -/
theorem smallest_spec {l : List (StallId × Stall)} {p : StallId × Stall} (h : s.smallest l = some p) :
    ∃ front back, l = front ++ p :: back ∧ (∀ q ∈ front, s.gradeOf p.2 < s.gradeOf q.2) ∧
      ∀ q ∈ back, s.gradeOf p.2 ≤ s.gradeOf q.2 := by
  induction l generalizing p with
  | nil => simp [State.smallest] at h
  | cons a as ih =>
    simp only [State.smallest] at h
    split at h
    next hnone =>
      cases h
      exact ⟨[], as, rfl, by simp, by simp [smallest_eq_none.mp hnone]⟩
    next b hb =>
      obtain ⟨front, back, rfl, hfront, hback⟩ := ih hb
      split at h
      next hlt =>
        cases h
        refine ⟨a :: front, back, rfl, fun q hq => ?_, hback⟩
        rcases List.mem_cons.mp hq with rfl | hq
        · exact hlt
        · exact hfront q hq
      next hge =>
        cases h
        refine ⟨[], _, rfl, by simp, fun q hq => ?_⟩
        rcases List.mem_append.mp hq with hq | hq
        · have := hfront q hq; omega
        · rcases List.mem_cons.mp hq with rfl | hq
          · omega
          · have := hback q hq; omega

/-- Of candidates in the order of the stalls the choice has the smallest grade, and the earliest place among equals. -/
theorem smallest_best {l : List (StallId × Stall)} (hord : l.Pairwise fun p q => p.1.before q.1)
    {p : StallId × Stall} (h : s.smallest l = some p) {q : StallId × Stall} (hq : q ∈ l) :
    s.gradeOf p.2 < s.gradeOf q.2 ∨ (s.gradeOf p.2 = s.gradeOf q.2 ∧
      (p.1.zone < q.1.zone ∨ (p.1.zone = q.1.zone ∧ p.1.index ≤ q.1.index))) := by
  obtain ⟨front, back, rfl, hfront, hback⟩ := smallest_spec h
  rcases List.mem_append.mp hq with hq | hq
  · exact Or.inl (hfront q hq)
  rcases List.mem_cons.mp hq with rfl | hq
  · exact Or.inr ⟨rfl, Or.inr ⟨rfl, le_rfl⟩⟩
  · have hbefore : p.1.before q.1 := (List.pairwise_cons.mp (List.pairwise_append.mp hord).2.1).1 q hq
    rcases (hback q hq).lt_or_eq with hlt | heq
    · exact Or.inl hlt
    · exact Or.inr ⟨heq, hbefore.imp_right fun ⟨hz, hi⟩ => ⟨hz, hi.le⟩⟩

theorem smallest_mem {l : List (StallId × Stall)} {p : StallId × Stall} (h : s.smallest l = some p) : p ∈ l := by
  obtain ⟨front, back, rfl, -, -⟩ := smallest_spec h
  simp

theorem plainFirst_sublist (need : Need) (l : List (StallId × Stall)) : (plainFirst need l).Sublist l := by
  unfold plainFirst
  dsimp only
  split
  · split
    · exact List.Sublist.refl l
    · exact List.filter_sublist
  · exact List.Sublist.refl l

/-- Where there are candidates, some are left to choose from. -/
theorem plainFirst_eq_nil {l : List (StallId × Stall)} : plainFirst need l = [] ↔ l = [] := by
  unfold plainFirst
  dsimp only
  split
  · split
    · exact Iff.rfl
    next h => exact ⟨fun h' => absurd (List.isEmpty_iff.mpr h') h, fun h' => by simp [h']⟩
  · exact Iff.rfl

/-- A need other than NONE chooses among all candidates. -/
theorem plainFirst_of_need (h : need ≠ .none) (l : List (StallId × Stall)) : plainFirst need l = l := by
  cases need with
  | none => exact absurd rfl h
  | charger => rfl
  | secure => rfl

/-- With need NONE the choice is among the NONE stalls where there is one, and otherwise among all (R46). -/
theorem plainFirst_none (l : List (StallId × Stall)) :
    (∀ q ∈ l, q.2.attr = .none → q ∈ plainFirst .none l ∧ ∀ p ∈ plainFirst .none l, p.2.attr = .none) ∧
      ∀ p ∈ plainFirst .none l, p.2.attr ≠ .none → plainFirst .none l = l ∧ ∀ q ∈ l, q.2.attr ≠ .none := by
  have hplain : ∀ q, q ∈ l.filter (fun p => p.2.attr == .none) ↔ q ∈ l ∧ q.2.attr = .none := by simp
  by_cases hnone : (l.filter fun p => p.2.attr == .none).isEmpty = true
  · have heq : plainFirst .none l = l := if_pos hnone
    have hall : ∀ q ∈ l, q.2.attr ≠ .none := fun q hq hattr => by
      have := (hplain q).mpr ⟨hq, hattr⟩
      rw [List.isEmpty_iff.mp hnone] at this
      cases this
    exact ⟨fun q hq hattr => absurd hattr (hall q hq), fun _ _ _ => ⟨heq, hall⟩⟩
  · have heq : plainFirst .none l = l.filter fun p => p.2.attr == .none := if_neg hnone
    rw [heq]
    exact ⟨fun q hq hattr => ⟨(hplain q).mpr ⟨hq, hattr⟩, fun p hp => ((hplain p).mp hp).2⟩,
      fun p hp hattr => absurd ((hplain p).mp hp).2 hattr⟩

/-! ### The walk of a preference list, and allocation (R45 to R47) -/

/-- The zones and pairs that a walk looks into: those of the layout, a pair at its even zone (R45). -/
def State.searched (s : State) (z : Nat) : Prop := (s.zone z).inLayout = true ∧ s.isUpper z = false

theorem walk_cons_skipped {z : Nat} (h : ¬s.searched z) (zs : List Nat) :
    s.walk grade need fallback (z :: zs) = s.walk grade need fallback zs := by
  rw [State.walk, if_pos]
  unfold State.searched at h
  cases hin : (s.zone z).inLayout <;> simp_all

theorem walk_cons_searched {z : Nat} (h : s.searched z) (zs : List Nat) :
    s.walk grade need fallback (z :: zs) =
      match s.smallest (plainFirst need (s.candidates grade need fallback z)) with
      | some p => some p.1
      | none => s.walk grade need fallback zs := by
  obtain ⟨hin, hlower⟩ := h
  have hskip : ¬(!(s.zone z).inLayout || s.isUpper z) = true := by simp [hin, hlower]
  exact if_neg hskip

/-- A walk that finds nothing has looked into every zone or pair of the list and found no candidate. -/
theorem walk_none {l : List Nat} (h : s.walk grade need fallback l = none) :
    ∀ z ∈ l, s.searched z → s.candidates grade need fallback z = [] := by
  induction l with
  | nil => simp
  | cons z zs ih =>
    by_cases hz : s.searched z
    · rw [walk_cons_searched hz] at h
      split at h
      · cases h
      next hnone =>
        have hempty := plainFirst_eq_nil.mp (smallest_eq_none.mp hnone)
        exact List.forall_mem_cons.mpr ⟨fun _ => hempty, ih h⟩
    · rw [walk_cons_skipped hz] at h
      exact List.forall_mem_cons.mpr ⟨fun h' => absurd h' hz, ih h⟩

/-- A walk finds the choice of the first zone or pair of the list that has a candidate. -/
theorem walk_some {l : List Nat} {st : StallId} (h : s.walk grade need fallback l = some st) :
    ∃ earlier z later x, l = earlier ++ z :: later ∧ s.searched z ∧
      s.smallest (plainFirst need (s.candidates grade need fallback z)) = some (st, x) ∧
      ∀ z' ∈ earlier, s.searched z' → s.candidates grade need fallback z' = [] := by
  induction l with
  | nil => simp [State.walk] at h
  | cons z zs ih =>
    by_cases hz : s.searched z
    · rw [walk_cons_searched hz] at h
      split at h
      next p hp =>
        cases h
        exact ⟨[], z, zs, p.2, rfl, hz, hp, by simp⟩
      next hnone =>
        obtain ⟨earlier, z', later, x, rfl, hz', hx, hearlier⟩ := ih h
        have hempty := plainFirst_eq_nil.mp (smallest_eq_none.mp hnone)
        exact ⟨z :: earlier, z', later, x, rfl, hz', hx, List.forall_mem_cons.mpr ⟨fun _ => hempty, hearlier⟩⟩
    · rw [walk_cons_skipped hz] at h
      obtain ⟨earlier, z', later, x, rfl, hz', hx, hearlier⟩ := ih h
      exact ⟨z :: earlier, z', later, x, rfl, hz', hx,
        List.forall_mem_cons.mpr ⟨fun h' => absurd h' hz, hearlier⟩⟩

/-- What allocation answers: the first walk's find, or a CHARGER record's second walk after a first without one (R47). -/
theorem allocate_cases (s : State) (grade : Nat) (need : Need) (tier : Nat) :
    (∃ st, s.walk grade need false (s.sm.prefs.getD tier []) = some st ∧
        s.allocate grade need tier = some (st, false)) ∨
      (s.walk grade need false (s.sm.prefs.getD tier []) = none ∧
        ((need = .charger ∧ s.allocate grade need tier =
            (s.walk grade need true (s.sm.prefs.getD tier [])).map fun st => (st, true)) ∨
          (need ≠ .charger ∧ s.allocate grade need tier = none))) := by
  cases hwalk : s.walk grade need false (s.sm.prefs.getD tier []) with
  | some st => exact Or.inl ⟨st, rfl, by simp only [State.allocate, hwalk]⟩
  | none =>
    refine Or.inr ⟨rfl, ?_⟩
    cases need <;> simp only [State.allocate, hwalk] <;> simp

/-- A stall found was found by the walk of its kind. -/
theorem walk_of_allocate {tier : Nat} {st : StallId} (h : s.allocate grade need tier = some (st, fallback)) :
    s.walk grade need fallback (s.sm.prefs.getD tier []) = some st ∧
      (fallback = true → need = .charger ∧ s.walk grade need false (s.sm.prefs.getD tier []) = none) := by
  rcases allocate_cases s grade need tier with ⟨st', hwalk, hst'⟩ | ⟨hnone, ⟨hneed, hst'⟩ | ⟨-, hst'⟩⟩
  · rw [hst'] at h
    cases h
    exact ⟨hwalk, by simp⟩
  · rw [hst'] at h
    obtain ⟨st'', hwalk, heq⟩ := Option.map_eq_some_iff.mp h
    cases heq
    exact ⟨hwalk, fun _ => ⟨hneed, hnone⟩⟩
  · rw [hst'] at h
    cases h

/-- The stall that allocation finds is there, without a holder and not stray (R43, R46). -/
theorem allocate_free {tier : Nat} {st : StallId} (h : s.allocate grade need tier = some (st, fallback)) :
    ∃ x, s.stall? st.zone st.index = some x ∧ x.holder = none ∧ x.stray = false := by
  obtain ⟨-, z, -, x, -, -, hx, -⟩ := walk_some (walk_of_allocate h).1
  obtain ⟨-, hthere, hoff, -⟩ := (mem_candidates z st x).mp ((plainFirst_sublist need _).mem (smallest_mem hx))
  exact ⟨x, hthere, offerable_free hoff⟩

end

/-- Settles O48: the choice of the first zone or pair with a candidate, and the walks that found none. -/
theorem allocationTakesTheSmallestFittingStall : Obligations.AllocationTakesTheSmallestFittingStall := by
  intro s grade need tier prefs searched may
  have none_may {fallback : Bool} {z : Nat} (h : s.candidates grade need fallback z = []) :
      ∀ y w, ¬may fallback z y w := fun y w hmay => by
    have hmem := (mem_candidates z y w).mpr hmay
    rw [h] at hmem
    cases hmem
  refine ⟨fun st fallback hfound => ?_, fun hnone z hz hsearched y x => ?_⟩
  · obtain ⟨hwalk, hfallback⟩ := walk_of_allocate hfound
    obtain ⟨earlier, z, later, x, hprefs, hz, hx, hearlier⟩ := walk_some hwalk
    have hmem := smallest_mem hx
    have hord := (candidates_ordered (s := s) (grade := grade) (need := need) (fallback := fallback) z).sublist
      (plainFirst_sublist need _)
    refine ⟨fun h => ⟨(hfallback h).1, fun z' hz' hs => none_may (walk_none (hfallback h).2 z' hz' hs)⟩,
      earlier, z, later, x, hprefs, hz, (mem_candidates z st x).mp ((plainFirst_sublist need _).mem hmem),
      fun z' hz' hs => none_may (hearlier z' hz' hs), fun y w hw => ?_⟩
    intro better
    have hcand : (y, w) ∈ s.candidates grade need fallback z := (mem_candidates z y w).mpr hw
    have best (h : (y, w) ∈ plainFirst need (s.candidates grade need fallback z)) : better :=
      smallest_best hord hx h
    by_cases hneed : need = .none
    · subst hneed
      obtain ⟨hplain, hspill⟩ := plainFirst_none (s.candidates grade .none fallback z)
      refine ⟨fun hattr => ?_, fun _ hattr => ?_⟩
      · obtain ⟨hin, hall⟩ := hplain _ hcand (hattr.resolve_left fun h => h rfl)
        exact ⟨fun _ => hall _ hmem, best hin⟩
      · obtain ⟨heq, hall⟩ := hspill _ hmem hattr
        exact ⟨hall _ hcand, best (by rw [heq]; exact hcand)⟩
    · exact ⟨fun _ => ⟨fun h => absurd h hneed, best (plainFirst_of_need hneed _ ▸ hcand)⟩, fun h => absurd h hneed⟩
  · rcases allocate_cases s grade need tier with ⟨st, -, hst⟩ | ⟨hfirst, ⟨-, hst⟩ | ⟨hneed, -⟩⟩
    · rw [hst] at hnone; cases hnone
    · rw [hst, Option.map_eq_none_iff] at hnone
      exact ⟨none_may (walk_none hfirst z hz hsearched) y x,
        fun _ => none_may (walk_none hnone z hz hsearched) y x⟩
    · exact ⟨none_may (walk_none hfirst z hz hsearched) y x, fun h => absurd h hneed⟩

end Sys2Proof.Machine
end

section
/-! The desk commands of the stall map and of its zones, check by check (R31, R34 to R40, R45, R53, R59). -/

namespace Sys2Proof.Machine

open Sys2Proof.Safety

section

variable {s : State} {c : Instr} {plan : State → Plan} {f : State → State} {req code : Nat}

/-- A command whose plan is an effect is answered DONE. -/
theorem deskAnswers_done (hh : deskHeader c = some (req, code)) (he : exec c s = deskCommand req code plan s)
    (hr : s.running = true) (hp : plan s = done f) : DeskAnswers c s (f s.begin) .done [] :=
  deskAnswers_of_plan hh he hr hp

/-- A command whose effect calls for nothing leaves it as it is. -/
theorem deskLeaves_done (hh : deskHeader c = some (req, code)) (he : exec c s = deskCommand req code plan s)
    (hr : s.running = true) (hp : plan s = done f) (hdue : (f s.begin).due = .clear) :
    DeskLeaves c s (f s.begin) .done [] :=
  deskLeaves_of_plan hh he hr hp hdue

/-! ### A stall or a zone that a command names -/

variable {z i : Nat}

theorem onStall_none {own : Stall → Plan} (h : s.stall? z i = none) : s.onStall z i own = refuse .badField := by
  simp only [State.onStall, h]

theorem onStall_some {own : Stall → Plan} {x : Stall} (h : s.stall? z i = some x) : s.onStall z i own = own x := by
  simp only [State.onStall, h]

theorem onZone_out {own : Plan} (h : (s.zone z).inLayout = false) : s.onZone z own = refuse .badField := by
  simp [State.onZone, h]

theorem onZone_in {own : Plan} (h : (s.zone z).inLayout = true) : s.onZone z own = own := by
  simp [State.onZone, h]

/-! ### ENABLE STALL and DISABLE STALL (R36) -/

/-- ENABLE STALL at the stall. -/
def enableStallPlan (z i : Nat) (x : Stall) : Plan :=
  if x.enabled then refuse .already else done fun q => (q.modStall z i fun y => { y with enabled := true }).serveDue

/-- DISABLE STALL at the stall. -/
def disableStallPlan (z i : Nat) (x : Stall) : Plan :=
  if x.isFixed then refuse .fixed
  else if !x.enabled then refuse .already
  else done fun q => q.modStall z i fun y => { y with enabled := false }

theorem exec_enableStall (s : State) (q z i : Nat) :
    exec (.enableStall q z i) s = deskCommand q 0x20 (fun s => s.onStall z i (enableStallPlan z i)) s := rfl

theorem exec_disableStall (s : State) (q z i : Nat) :
    exec (.disableStall q z i) s = deskCommand q 0x21 (fun s => s.onStall z i (disableStallPlan z i)) s := rfl

/-- The stall's enable by its two commands. -/
theorem stallEnable_ruled (q : Nat) (hr : s.running = true) {x : Stall} (hx : s.stall? z i = some x) :
    (x.enabled = true → DeskReports (.enableStall q z i) s .already []) ∧
    (x.enabled = false → DeskAnswers (.enableStall q z i) s
      ((s.begin.modStall z i fun y => { y with enabled := true }).serveDue) .done []) ∧
    (x.isFixed = true → DeskReports (.disableStall q z i) s .fixed []) ∧
    (x.isFixed = false → x.enabled = false → DeskReports (.disableStall q z i) s .already []) ∧
    (x.isFixed = false → x.enabled = true → DeskLeaves (.disableStall q z i) s
      (s.begin.modStall z i fun y => { y with enabled := false }) .done []) := by
  have enables (p : Plan) (hp : enableStallPlan z i x = p) : s.onStall z i (enableStallPlan z i) = p :=
    (onStall_some hx).trans hp
  have disables (p : Plan) (hp : disableStallPlan z i x = p) : s.onStall z i (disableStallPlan z i) = p :=
    (onStall_some hx).trans hp
  refine ⟨fun hon => ?_, fun hoff => ?_, fun hfix => ?_, fun hfree hoff => ?_, fun hfree hon => ?_⟩
  · exact deskReports_refuse rfl (exec_enableStall s q z i) hr (enables _ (by simp [enableStallPlan, hon]))
  · exact deskAnswers_done (f := fun q => (q.modStall z i fun y => { y with enabled := true }).serveDue) rfl
      (exec_enableStall s q z i) hr (enables _ (by simp [enableStallPlan, hoff]))
  · exact deskReports_refuse rfl (exec_disableStall s q z i) hr (disables _ (by simp [disableStallPlan, hfix]))
  · exact deskReports_refuse rfl (exec_disableStall s q z i) hr (disables _ (by simp [disableStallPlan, hfree, hoff]))
  · exact deskLeaves_done (f := fun q => q.modStall z i fun y => { y with enabled := false }) rfl
      (exec_disableStall s q z i) hr (disables _ (by simp [disableStallPlan, hfree, hon])) rfl

/-! ### OPEN ZONE, CLOSE ZONE, SET ZONE FLAGS and SET WITHDRAWAL (R37, R38, R59) -/

/-- OPEN ZONE at a zone of the layout. -/
def State.openZonePlan (s : State) (z : Nat) : Plan :=
  if s.zoneOpen z then refuse .already
  else done fun q => (q.modZone (s.governing z) fun x => { x with isOpen := true }).serveDue

/-- CLOSE ZONE at a zone of the layout. -/
def State.closeZonePlan (s : State) (z : Nat) : Plan :=
  if !s.zoneOpen z then refuse .already
  else done fun q => q.modZone (s.governing z) fun x => { x with isOpen := false }

/-- SET ZONE FLAGS at a zone of the layout. -/
def State.zoneFlagsPlan (s : State) (z : Nat) (n p : Bool) : Plan :=
  done fun q => (q.modZone (s.governing z) fun x => { x with night := n, spill := p }).serveIf
    ((p && !s.zoneSpill z) || (n && !s.zoneNight z && s.sa.state == .night))

/-- SET WITHDRAWAL at a zone of the layout. -/
def State.withdrawalPlan (s : State) (z : Nat) (b : Bool) : Plan :=
  if (s.zone z).withdrawal = b then refuse .already
  else done fun q => (q.modZone z fun x => { x with withdrawal := b }).serveIf (!b)

theorem exec_openZone (s : State) (q z : Nat) :
    exec (.openZone q z) s = deskCommand q 0x22 (fun s => s.onZone z (s.openZonePlan z)) s := rfl

theorem exec_closeZone (s : State) (q z : Nat) :
    exec (.closeZone q z) s = deskCommand q 0x23 (fun s => s.onZone z (s.closeZonePlan z)) s := rfl

theorem exec_setZoneFlags (s : State) (q z night spill : Nat) :
    exec (.setZoneFlags q z night spill) s = deskCommand q 0x24
      (fun s => match boolOf night, boolOf spill with
        | some n, some p => s.onZone z (s.zoneFlagsPlan z n p)
        | _, _ => refuse .badField) s := rfl

theorem exec_setWithdrawal (s : State) (q z on : Nat) :
    exec (.setWithdrawal q z on) s = deskCommand q 0x31
      (fun s => match boolOf on with
        | none => refuse .badField
        | some b => s.onZone z (s.withdrawalPlan z b)) s := rfl

@[simp] theorem boolOf_toNat (b : Bool) : boolOf b.toNat = some b := by cases b <;> rfl

theorem boolOf_eq_none {n : Nat} (h : 1 < n) : boolOf n = none := by
  simp [boolOf, show n ≠ 0 by omega, show n ≠ 1 by omega]

/-- A zone outside the layout is no value of the four commands. -/
theorem zoneCommands_out (q : Nat) (hr : s.running = true) (hout : (s.zone z).inLayout = false) :
    DeskReports (.openZone q z) s .badField [] ∧ DeskReports (.closeZone q z) s .badField [] ∧
      (∀ n p, DeskReports (.setZoneFlags q z n p) s .badField []) ∧
      ∀ b, DeskReports (.setWithdrawal q z b) s .badField [] := by
  refine ⟨deskReports_refuse rfl (exec_openZone s q z) hr (onZone_out hout),
    deskReports_refuse rfl (exec_closeZone s q z) hr (onZone_out hout), fun n p => ?_, fun b => ?_⟩
  · refine deskReports_refuse rfl (exec_setZoneFlags s q z n p) hr ?_
    split
    · exact onZone_out hout
    · rfl
  · refine deskReports_refuse rfl (exec_setWithdrawal s q z b) hr ?_
    split
    · rfl
    · exact onZone_out hout

/-- OPEN ZONE and CLOSE ZONE by the open state of the governing zone `g`. -/
theorem zoneOpening_ruled (q : Nat) {g : Nat} (hr : s.running = true) (hg : s.governing z = g)
    (hin : (s.zone z).inLayout = true) :
    ((s.zone g).isOpen = true → DeskReports (.openZone q z) s .already []) ∧
    ((s.zone g).isOpen = false → DeskAnswers (.openZone q z) s
      ((s.begin.modZone g fun x => { x with isOpen := true }).serveDue) .done []) ∧
    ((s.zone g).isOpen = false → DeskReports (.closeZone q z) s .already []) ∧
    ((s.zone g).isOpen = true → DeskLeaves (.closeZone q z) s
      (s.begin.modZone g fun x => { x with isOpen := false }) .done []) := by
  subst hg
  refine ⟨fun h => ?_, fun h => ?_, fun h => ?_, fun h => ?_⟩
  · exact deskReports_refuse rfl (exec_openZone s q z) hr
      ((onZone_in hin).trans (by simp [State.openZonePlan, State.zoneOpen, h]))
  · exact deskAnswers_done
      (f := fun q => (q.modZone (s.governing z) fun x => { x with isOpen := true }).serveDue) rfl
      (exec_openZone s q z) hr ((onZone_in hin).trans (by simp [State.openZonePlan, State.zoneOpen, h]))
  · exact deskReports_refuse rfl (exec_closeZone s q z) hr
      ((onZone_in hin).trans (by simp [State.closeZonePlan, State.zoneOpen, h]))
  · exact deskLeaves_done (f := fun q => q.modZone (s.governing z) fun x => { x with isOpen := false }) rfl
      (exec_closeZone s q z) hr ((onZone_in hin).trans (by simp [State.closeZonePlan, State.zoneOpen, h])) rfl

/-- SET ZONE FLAGS at the governing zone `g`, and its flag bytes (log entry 34). -/
theorem zoneFlags_ruled (q : Nat) {g : Nat} (hr : s.running = true) (hg : s.governing z = g)
    (hin : (s.zone z).inLayout = true) :
    (∀ n p, 1 < n ∨ 1 < p → DeskReports (.setZoneFlags q z n p) s .badField []) ∧
    (∀ n p : Bool, DeskAnswers (.setZoneFlags q z n.toNat p.toNat) s
      ((s.begin.modZone g fun x => { x with night := n, spill := p }).serveIf
        ((p && !(s.zone g).spill) || (n && !(s.zone g).night && s.sa.state == .night))) .done []) := by
  subst hg
  refine ⟨fun n p hbad => ?_, fun n p => ?_⟩
  · refine deskReports_refuse rfl (exec_setZoneFlags s q z n p) hr ?_
    rcases hbad with h | h <;> simp [boolOf_eq_none h]
  · refine deskAnswers_of_plan (p := s.zoneFlagsPlan z n p) rfl (exec_setZoneFlags s q z _ _) hr ?_
    simp only [boolOf_toNat, onZone_in hin]

/-- SET WITHDRAWAL at the zone it names. -/
theorem withdrawal_ruled (q : Nat) (hr : s.running = true) (hin : (s.zone z).inLayout = true) :
    (∀ b, 1 < b → DeskReports (.setWithdrawal q z b) s .badField []) ∧
    (∀ b : Bool, (s.zone z).withdrawal = b → DeskReports (.setWithdrawal q z b.toNat) s .already []) ∧
    ∀ b : Bool, (s.zone z).withdrawal ≠ b → DeskAnswers (.setWithdrawal q z b.toNat) s
      ((s.begin.modZone z fun x => { x with withdrawal := b }).serveIf (!b)) .done [] := by
  refine ⟨fun b hbad => ?_, fun b heq => ?_, fun b hne => ?_⟩
  · refine deskReports_refuse rfl (exec_setWithdrawal s q z b) hr ?_
    simp only [boolOf_eq_none hbad]
  · refine deskReports_refuse rfl (exec_setWithdrawal s q z _) hr ?_
    simp only [boolOf_toNat, onZone_in hin]
    exact if_pos heq
  · refine deskAnswers_done (f := fun q => (q.modZone z fun x => { x with withdrawal := b }).serveIf (!b)) rfl
      (exec_setWithdrawal s q z _) hr ?_
    simp only [boolOf_toNat, onZone_in hin]
    exact if_neg hne

/-! ### SET PREFERENCE (R45) -/

/-- SET PREFERENCE, its fields read. -/
def preferencePlan (tier count : Nat) (zones : List Nat) : Plan :=
  match tierOf tier, preferenceOf count zones with
  | some t, some l => done fun q => ({ q with sm := { q.sm with prefs := q.sm.prefs.set t l } } : State).serveDue
  | _, _ => refuse .badField

theorem exec_setPreference (s : State) (q tier count : Nat) (zones : List Nat) :
    exec (.setPreference q tier count zones) s = deskCommand q 0x25 (fun _ => preferencePlan tier count zones) s := rfl

/-- The list that a preference field of twelve places holds: distinct zones, as many as its count (R45, R188). -/
theorem preferenceOf_eq {count : Nat} {zones : List Nat} (hlen : zones.length = 12) :
    preferenceOf count zones =
      if count ≤ 12 ∧ (∀ z ∈ zones.take count, z ≤ 11) ∧ (zones.take count).Nodup then some (zones.take count)
      else none := by
  have hzones : ((zones.take count).all fun z => z < Config.zones) = true ↔ ∀ z ∈ zones.take count, z ≤ 11 := by
    simp only [List.all_eq_true, decide_eq_true_eq]
    exact forall₂_congr fun _ _ => Nat.lt_succ_iff
  have hcount : (zones.take count).length = count ↔ count ≤ 12 := by
    rw [List.length_take, hlen]; omega
  unfold preferenceOf
  simp only [hzones, hcount, ← and_assoc, and_self]

/-- The list is replaced whole, or the command is refused. -/
theorem setPreference_ruled (q tier count : Nat) (zones : List Nat) (hr : s.running = true) (hlen : zones.length = 12) :
    (3 < tier ∨ 12 < count ∨ (∃ z ∈ zones.take count, 11 < z) ∨ ¬(zones.take count).Nodup →
      DeskReports (.setPreference q tier count zones) s .badField []) ∧
    (tier ≤ 3 → count ≤ 12 → (∀ z ∈ zones.take count, z ≤ 11) → (zones.take count).Nodup →
      DeskAnswers (.setPreference q tier count zones) s
        (({ s.begin with sm := { s.sm with prefs := s.sm.prefs.set tier (zones.take count) } } : State).serveDue)
        .done []) := by
  refine ⟨fun hbad => ?_, fun htier hcount hzones hnodup => ?_⟩
  · refine deskReports_refuse rfl (exec_setPreference s q tier count zones) hr ?_
    unfold preferencePlan
    split
    next t l ht hl =>
      have htier : tier ≤ 3 := by
        by_contra h
        simp [tierOf, h] at ht
      rw [preferenceOf_eq hlen] at hl
      split at hl
      next hgood =>
        obtain ⟨hcount, hzones, hnodup⟩ := hgood
        rcases hbad with h | h | ⟨z, hz, h⟩ | h
        · omega
        · omega
        · exact absurd (hzones z hz) (Nat.not_le.mpr h)
        · exact absurd hnodup h
      · cases hl
    · rfl
  · refine deskAnswers_done
      (f := fun q => ({ q with sm := { q.sm with prefs := q.sm.prefs.set tier (zones.take count) } } : State).serveDue)
      rfl (exec_setPreference s q tier count zones) hr ?_
    have htierOf : tierOf tier = some tier := if_pos htier
    have hlist : preferenceOf count zones = some (zones.take count) := by
      rw [preferenceOf_eq hlen, if_pos ⟨hcount, hzones, hnodup⟩]
    simp only [preferencePlan, htierOf, hlist]

end

/-- Settles O18: the enables of a stall, the settings of a zone, and the preference lists. -/
theorem stallAndZoneSettingsFollowTheirCommands : Obligations.StallAndZoneSettingsFollowTheirCommands := by
  refine ⟨fun s q z i hr => ⟨fun hnone => ⟨?_, ?_⟩, fun x hx => stallEnable_ruled q hr hx⟩, fun s q z hr => ?_,
    fun s q tier count zones hr hlen => setPreference_ruled q tier count zones hr hlen⟩
  · exact deskReports_refuse rfl (exec_enableStall s q z i) hr (onStall_none hnone)
  · exact deskReports_refuse rfl (exec_disableStall s q z i) hr (onStall_none hnone)
  · intro g
    have hg : s.governing z = g := governing_eq s z
    refine ⟨fun hout => zoneCommands_out q hr hout, fun hin => ?_⟩
    obtain ⟨hopened, hopen, hclosed, hclose⟩ := zoneOpening_ruled q hr hg hin
    obtain ⟨hbad, hflags⟩ := zoneFlags_ruled q hr hg hin
    exact ⟨hopened, hopen, hclosed, hclose, hbad, hflags, withdrawal_ruled q hr hin⟩

/-! ### SET PAIR and UNPAIR (R39, R40) -/

/-- The beginning of an event changes no permit. -/
theorem permitGained_begin (s p : State) : permitGained s.begin p = permitGained s p := by
  have hpermits : s.begin.permitHeld = s.permitHeld := rfl
  simp only [permitGained, hpermits]

/-- What SET PAIR and UNPAIR change. -/
theorem setPaired_begin (s : State) (z : Nat) (b : Bool) :
    s.begin.setPaired z b =
      (s.begin.modZone z fun x => { x with paired := b }).serveDue.lookIf
        (permitGained s (s.begin.modZone z fun x => { x with paired := b })) := by
  rw [← permitGained_begin]; rfl

/-- SET PAIR, check by check. -/
def State.setPairPlan (s : State) (z : Nat) : Plan :=
  if z % 2 = 1 ∨ (s.zone z).inLayout = false ∨ (s.zone (z + 1)).inLayout = false then refuse .badField
  else if (s.zone z).paired then refuse .already
  else if (s.zone z).isOpen || (s.zone (z + 1)).isOpen then refuse .zoneOpen
  else done fun q => q.setPaired z true

/-- UNPAIR, check by check. -/
def State.unpairPlan (s : State) (z : Nat) : Plan :=
  if z % 2 = 1 ∨ (s.zone z).inLayout = false then refuse .badField
  else if !(s.zone z).paired then refuse .already
  else if (s.zone z).isOpen then refuse .zoneOpen
  else done fun q => q.setPaired z false

theorem exec_setPair (s : State) (q z : Nat) :
    exec (.setPair q z) s = deskCommand q 0x26 (fun s => s.setPairPlan z) s := rfl

theorem exec_unpair (s : State) (q z : Nat) :
    exec (.unpair q z) s = deskCommand q 0x27 (fun s => s.unpairPlan z) s := rfl

/-- Settles O19: the two commands by their plans, check by check. -/
theorem pairsAreMadeAndBrokenClosed : Obligations.PairsAreMadeAndBrokenClosed := by
  intro s q z hr
  have pairs (a : Answer) (hp : s.setPairPlan z = refuse a) : DeskReports (.setPair q z) s a [] :=
    deskReports_refuse rfl (exec_setPair s q z) hr hp
  have unpairs (a : Answer) (hp : s.unpairPlan z = refuse a) : DeskReports (.unpair q z) s a [] :=
    deskReports_refuse rfl (exec_unpair s q z) hr hp
  refine ⟨fun hbad => ⟨pairs _ (if_pos ?_), unpairs _ (if_pos hbad)⟩, fun hbad => pairs _ (if_pos (.inr (.inr hbad))),
    fun heven hin => ⟨fun habove => ⟨fun hpaired => ?_, fun hfree => ⟨fun hopen => ?_, fun hclosed hshut => ?_⟩⟩,
      fun hfree => ?_, fun hpaired => ⟨fun hopen => ?_, fun hclosed => ?_⟩⟩⟩
  · exact hbad.imp_right Or.inl
  · exact pairs _ (by simp [State.setPairPlan, heven, hin, habove, hpaired])
  · exact pairs _ (by rcases hopen with h | h <;> simp [State.setPairPlan, heven, hin, habove, hfree, h])
  · intro p
    rw [← setPaired_begin]
    exact deskAnswers_done (f := fun q => q.setPaired z true) rfl (exec_setPair s q z) hr
      (by simp [State.setPairPlan, heven, hin, habove, hfree, hclosed, hshut])
  · exact unpairs _ (by simp [State.unpairPlan, heven, hin, hfree])
  · exact unpairs _ (by simp [State.unpairPlan, heven, hin, hpaired, hopen])
  · intro p
    rw [← setPaired_begin]
    exact deskAnswers_done (f := fun q => q.setPaired z false) rfl (exec_unpair s q z) hr
      (by simp [State.unpairPlan, heven, hin, hpaired, hclosed])

/-! ### SET SLOT and SET STALL SLOT (R34, R35) -/

/-- SET SLOT, check by check. -/
def State.setSlotPlan (s : State) (n v : Nat) : Plan :=
  if 3 < n ∨ 15 < v then refuse .badField
  else if s.sm.gradeSlots.getD n 0 = v then report []
  else done fun q => q.regrade n v

/-- SET STALL SLOT at the stall. -/
def State.stallSlotPlan (s : State) (z i n : Nat) (x : Stall) : Plan :=
  if 3 < n then refuse .badField
  else if x.isFixed then refuse .fixed
  else if s.zoneOpen z then refuse .zoneOpen
  else done fun q => (q.modStall z i fun y => { y with source := .slot n }).compareGrade { x with source := .slot n }

theorem exec_setSlot (s : State) (q n v : Nat) :
    exec (.setSlot q n v) s = deskCommand q 0x28 (fun s => s.setSlotPlan n v) s := rfl

theorem exec_setStallSlot (s : State) (q z i n : Nat) :
    exec (.setStallSlot q z i n) s = deskCommand q 0x29 (fun s => s.onStall z i (s.stallSlotPlan z i n)) s := rfl

section

variable {s : State}

/-- SET SLOT by its fields and the value that the slot holds. -/
theorem setSlot_ruled (q : Nat) (hr : s.running = true) :
    (∀ n v, (3 < n ∨ 15 < v) → DeskReports (.setSlot q n v) s .badField []) ∧
    (∀ n v, n ≤ 3 → v ≤ 15 →
      (s.sm.gradeSlots.getD n 0 = v → DeskReports (.setSlot q n v) s .done []) ∧
      (s.sm.gradeSlots.getD n 0 ≠ v → DeskAnswers (.setSlot q n v) s (s.begin.regrade n v) .done [])) := by
  refine ⟨fun n v hbad => ?_, fun n v hn hv => ?_⟩
  · exact deskReports_refuse rfl (exec_setSlot s q n v) hr (if_pos hbad)
  · have hgood : ¬(3 < n ∨ 15 < v) := by omega
    refine ⟨fun hsame => ?_, fun hnew => ?_⟩
    · exact deskReports_report rfl (exec_setSlot s q n v) hr ((if_neg hgood).trans (if_pos hsame))
    · exact deskAnswers_done (f := fun q => q.regrade n v) rfl (exec_setSlot s q n v) hr
        ((if_neg hgood).trans (if_neg hnew))

/-- SET STALL SLOT by the stall and its zone. -/
theorem setStallSlot_ruled (q : Nat) (hr : s.running = true) :
    (∀ z i n, s.stall? z i = none ∨ 3 < n → DeskReports (.setStallSlot q z i n) s .badField []) ∧
    ∀ z i n x, s.stall? z i = some x → n ≤ 3 →
      (x.isFixed = true → DeskReports (.setStallSlot q z i n) s .fixed []) ∧
      (x.isFixed = false →
        (s.zoneOpen z = true → DeskReports (.setStallSlot q z i n) s .zoneOpen []) ∧
        (s.zoneOpen z = false →
          DeskAnswers (.setStallSlot q z i n) s
            ((s.begin.modStall z i fun y => { y with source := .slot n }).compareGrade { x with source := .slot n })
            .done [])) := by
  have refused (z i n : Nat) (a : Answer) (hp : s.onStall z i (s.stallSlotPlan z i n) = refuse a) :
      DeskReports (.setStallSlot q z i n) s a [] := deskReports_refuse rfl (exec_setStallSlot s q z i n) hr hp
  refine ⟨fun z i n hbad => refused z i n _ ?_, fun z i n x hx hn => ⟨fun hfix => refused z i n _ ?_, fun hfree =>
    ⟨fun hopen => refused z i n _ ?_, fun hshut => ?_⟩⟩⟩
  · cases hx : s.stall? z i with
    | none => exact onStall_none hx
    | some x => exact (onStall_some hx).trans (if_pos (hbad.resolve_left (by simp [hx])))
  · exact (onStall_some hx).trans (by simp [State.stallSlotPlan, Nat.not_lt.mpr hn, hfix])
  · exact (onStall_some hx).trans (by simp [State.stallSlotPlan, Nat.not_lt.mpr hn, hfree, hopen])
  · exact deskAnswers_done
      (f := fun q => (q.modStall z i fun y => { y with source := .slot n }).compareGrade { x with source := .slot n })
      rfl (exec_setStallSlot s q z i n) hr
      ((onStall_some hx).trans (by simp [State.stallSlotPlan, Nat.not_lt.mpr hn, hfree, hshut]))

/-- The comparison of R34 at a held stall, by its grade and the record's flag. -/
theorem compareGrade_held {x : Stall} {t : Nat} {r : Record} (ht : x.holder = some t) (hr : s.record? t = some r) :
    s.compareGrade x =
      if s.gradeOf x < r.grade then
        if r.flags.misfit then s
        else (s.modRecord t fun q => { q with flags := { q.flags with misfit := true } }).raise .misfit (some t)
      else if r.flags.misfit then s.modRecord t fun q => { q with flags := { q.flags with misfit := false } }
      else s := by
  have hticket : r.ticket = t := record?_ticket s t r hr
  simp only [State.compareGrade, ht, Option.bind_some, hr, hticket]

end

/-- Settles O20: the two commands by their checks, and the comparison by the grades. -/
theorem gradeSlotsRegradeTheirStalls : Obligations.GradeSlotsRegradeTheirStalls := by
  refine ⟨fun s q hr => ?_, fun s x => ⟨fun hfree => by simp [State.compareGrade, hfree], fun t r ht hrec => ?_⟩⟩
  · obtain ⟨hbad, hslot⟩ := setSlot_ruled q hr
    exact ⟨hbad, hslot, setStallSlot_ruled q hr⟩
  · rw [compareGrade_held ht hrec]
    refine ⟨fun hlow hflag => ?_, fun hhigh hflag => ?_, fun hsame => ?_⟩
    · simp [hlow, hflag]
    · simp [Nat.not_lt.mpr hhigh, hflag]
    · by_cases hlow : s.gradeOf x < r.grade
      · simp [hlow, hsame.mp hlow]
      · simp [hlow, Bool.not_eq_true _ ▸ mt hsame.mpr hlow]

end Sys2Proof.Machine
end

section
/-! The commands that only read (R53, R90, R108, R109, R128, R143, R160, R166). -/

namespace Sys2Proof.Machine

open Sys2Proof.Safety

/-- READ ZONE, check by check. -/
def State.readZonePlan (s : State) (z : Nat) : Plan :=
  if Config.zones ≤ z then refuse .badField
  else if (s.zone z).inLayout then report (s.zoneFields z)
  else report [.flag false]

/-- READ HOOK, check by check. -/
def State.readHookPlan (s : State) (h : Nat) : Plan :=
  if 1023 < h then refuse .badField
  else
    match s.hook? h with
    | none => report [.byte 5]
    | some k => report (s.hookFields h k)

/-- READ QUEUE, its start position read. -/
def State.readQueuePlan (s : State) (start : Nat) : Plan :=
  match startPositionOf start with
  | none => refuse .badField
  | some p =>
    let page := (s.jq.entries.drop p).take Config.pageSize
    report ([.half s.jq.entries.length, .half s.kerbCount, .half s.usableBays, .half page.length] ++
      (page.mapIdx fun i e => s.entryFields (p + i) e).flatten)

section

variable (s : State) (q n i : Nat)

theorem exec_readZone : exec (.readZone q n) s = deskCommand q 0x2A (fun s => s.readZonePlan n) s := rfl

theorem exec_readStall :
    exec (.readStall q n i) s = deskCommand q 0x2B (fun s => s.onStall n i fun x => report (s.stallFields n x)) s := rfl

theorem exec_readHook : exec (.readHook q n) s = deskCommand q 0x3C (fun s => s.readHookPlan n) s := rfl

theorem exec_readQueue : exec (.readQueue q n) s = deskCommand q 0x44 (fun s => s.readQueuePlan n) s := rfl

theorem exec_readWaitList : exec (.readWaitList q) s = deskCommand q 0x2C
    (fun s => report ([.half s.sm.waitList.length] ++ s.sm.waitList.flatMap s.waitFields)) s := rfl

theorem exec_readLeadTimes : exec (.readLeadTimes q) s = deskCommand q 0x43
    (fun s => report (s.jq.leads.map fun n => .word (BitVec.ofNat 32 n))) s := rfl

theorem exec_readRoster : exec (.readRoster q) s = deskCommand q 0x49
    (fun s => report ((List.range Config.attendants).flatMap s.rosterFields ++
      [.half s.dr.idle.length, .word (BitVec.ofNat 32 s.dr.ackTime)])) s := rfl

theorem exec_readKerb : exec (.readKerb q) s = deskCommand q 0x55
    (fun s => report (s.km.lanes.flatMap Lane.fields ++ s.km.bays.flatMap s.bayFields ++
      [.half s.usableBays, .half s.stagedCount, .half s.fetchesOut, .half s.kerbCount,
       .word (BitVec.ofNat 32 s.km.dwellTime)])) s := rfl

theorem exec_readStatus : exec (.readStatus q) s = deskCommand q 0x61 (fun s => report s.statusFields) s := rfl

theorem exec_readAttention :
    exec (.readAttention q) s = deskCommand q 0x62 (fun s => report s.sa.attentionFields) s := rfl

variable {s q}

theorem readZone_ruled (hr : s.running = true) :
    (∀ n, 11 < n → DeskReports (.readZone q n) s .badField []) ∧
    (∀ n, n ≤ 11 → (s.zone n).inLayout = false → DeskReports (.readZone q n) s .done [.flag false]) ∧
    (∀ n, n ≤ 11 → (s.zone n).inLayout = true → DeskReports (.readZone q n) s .done (s.zoneFields n)) := by
  have hzones (n : Nat) : Config.zones ≤ n ↔ 11 < n := Iff.rfl
  refine ⟨fun n hbad => ?_, fun n hn hout => ?_, fun n hn hin => ?_⟩
  · exact deskReports_refuse rfl (exec_readZone s q n) hr (if_pos hbad)
  · exact deskReports_report rfl (exec_readZone s q n) hr (by simp [State.readZonePlan, hzones, Nat.not_lt.mpr hn, hout])
  · exact deskReports_report rfl (exec_readZone s q n) hr (by simp [State.readZonePlan, hzones, Nat.not_lt.mpr hn, hin])

theorem readHook_ruled (hr : s.running = true) :
    (∀ n, 1023 < n → DeskReports (.readHook q n) s .badField []) ∧
    (∀ n, n ≤ 1023 → s.hook? n = none → DeskReports (.readHook q n) s .done [.byte 5]) ∧
    (∀ n k, n ≤ 1023 → s.hook? n = some k → DeskReports (.readHook q n) s .done (s.hookFields n k)) := by
  refine ⟨fun n hbad => ?_, fun n hn hnone => ?_, fun n k hn hk => ?_⟩
  · exact deskReports_refuse rfl (exec_readHook s q n) hr (if_pos hbad)
  · exact deskReports_report rfl (exec_readHook s q n) hr (by simp [State.readHookPlan, Nat.not_lt.mpr hn, hnone])
  · exact deskReports_report rfl (exec_readHook s q n) hr (by simp [State.readHookPlan, Nat.not_lt.mpr hn, hk])

/-- A start position of 0 to 63, which defaults to 0 (R109). -/
theorem startPositionOf_eq (p : Nat) :
    startPositionOf p = if p = 255 then some 0 else if p ≤ 63 then some p else none := rfl

theorem readQueue_ruled (hr : s.running = true) :
    (∀ n, 63 < n → n ≠ 255 → DeskReports (.readQueue q n) s .badField []) ∧
    (∀ n, n ≤ 63 ∨ n = 255 →
      let first := if n = 255 then 0 else n
      let page := (s.jq.entries.drop first).take 8
      DeskReports (.readQueue q n) s .done
        ([.half s.jq.entries.length, .half s.kerbCount, .half s.usableBays, .half page.length] ++
          (page.mapIdx fun i e => s.entryFields (first + i) e).flatten)) := by
  refine ⟨fun n hbig hgiven => ?_, fun n hpos => ?_⟩
  · have hnone : startPositionOf n = none := by simp [startPositionOf_eq, hgiven, Nat.not_le.mpr hbig]
    exact deskReports_refuse rfl (exec_readQueue s q n) hr (by simp only [State.readQueuePlan, hnone])
  · intro first page
    have hfirst : startPositionOf n = some first := by
      by_cases hd : n = 255
      · simp [startPositionOf_eq, first, hd]
      · simp [startPositionOf_eq, first, hd, hpos.resolve_right hd]
    exact deskReports_report rfl (exec_readQueue s q n) hr (by simp only [State.readQueuePlan, hfirst]; rfl)

end

/-- Settles O21: each read by its checks; every plan of a read has the identity for its effect. -/
theorem readCommandsChangeNothing : Obligations.ReadCommandsChangeNothing := by
  intro s q hr
  obtain ⟨hzone, hzoneOut, hzoneIn⟩ := readZone_ruled (q := q) hr
  obtain ⟨hhook, hhookOut, hhookIn⟩ := readHook_ruled (q := q) hr
  obtain ⟨hqueue, hqueuePage⟩ := readQueue_ruled (q := q) hr
  refine ⟨hzone, hzoneOut, hzoneIn, fun z i hnone => ?_, fun z i x hx => ?_,
    deskReports_report rfl (exec_readWaitList s q) hr rfl, hhook, hhookOut, hhookIn,
    deskReports_report rfl (exec_readLeadTimes s q) hr rfl, hqueue, hqueuePage,
    deskReports_report rfl (exec_readRoster s q) hr rfl, deskReports_report rfl (exec_readKerb s q) hr rfl,
    deskReports_report rfl (exec_readStatus s q) hr rfl, deskReports_report rfl (exec_readAttention s q) hr rfl⟩
  · exact deskReports_refuse rfl (exec_readStall s q z i) hr (onStall_none hnone)
  · exact deskReports_report rfl (exec_readStall s q z i) hr (onStall_some hx)

end Sys2Proof.Machine
end

section
/-! The layout commands (R30, R32, R133, R174 to R177), the clock, the chain mask and the ramp chain (R42, R179, R181,
R182). -/

namespace Sys2Proof.Machine

open Sys2Proof.Safety

/-! ### The layout commands -/

/-- DEFINE ZONE in COMMISSIONING. -/
def State.defineZonePlan (s : State) (z n : Nat) : Plan :=
  if Config.zones ≤ z ∨ Config.maxZoneStalls < n ∨ Config.maxStalls < n + s.otherStalls z then refuse .badField
  else done fun q => q.defineZone z n

/-- DEFINE FIXED STALL in COMMISSIONING. -/
def State.fixedStallPlan (s : State) (z i a g : Nat) : Plan :=
  match s.stall? z i, needOf a with
  | some _, some b =>
    if 15 < g then refuse .badField
    else done fun q => q.modStall z i fun x => { x with source := .fixed g, attr := b, enabled := true }
  | _, _ => refuse .badField

/-- DEFINE PANEL in COMMISSIONING. -/
def State.definePanelPlan (s : State) (p : Nat) : Plan :=
  if Config.panels ≤ p then refuse .badField
  else if (s.panel p).inLayout then refuse .already
  else done fun q => q.modPanel p fun _ => Panel.created

/-- DEFINE BAYS in COMMISSIONING. -/
def defineBaysPlan (b : Nat) : Plan :=
  if 256 ≤ b then refuse .badField
  else done fun q => { q with km := { q.km with bays := q.km.bays.mapIdx fun i x => x.define (b.testBit i) } }

/-- FREEZE LAYOUT by the freeze. -/
def State.freezePlan (s : State) : Plan :=
  if s.sa.frozen then refuse .already else done fun q => { q with sa := { q.sa with state := .closed } }

section

variable (s : State) (q : Nat)

theorem exec_defineZone (z n : Nat) :
    exec (.defineZone q z n) s = deskCommand q 0x70 (fun s => s.layoutCommand (s.defineZonePlan z n)) s := rfl

theorem exec_defineFixedStall (z i a g : Nat) :
    exec (.defineFixedStall q z i a g) s =
      deskCommand q 0x71 (fun s => s.layoutCommand (s.fixedStallPlan z i a g)) s := rfl

theorem exec_definePanel (p : Nat) :
    exec (.definePanel q p) s = deskCommand q 0x72 (fun s => s.layoutCommand (s.definePanelPlan p)) s := rfl

theorem exec_defineBays (b : Nat) :
    exec (.defineBays q b) s = deskCommand q 0x73 (fun s => s.layoutCommand (defineBaysPlan b)) s := rfl

theorem exec_freezeLayout : exec (.freezeLayout q) s = deskCommand q 0x74 (fun s => s.freezePlan) s := rfl

variable {s q}

theorem frozen_iff : s.sa.frozen = true ↔ s.sa.state ≠ .commissioning := by simp [Service.frozen]

theorem layoutCommand_frozen (h : s.sa.state ≠ .commissioning) (p : Plan) :
    s.layoutCommand p = refuse .layoutFixed := if_pos (frozen_iff.mpr h)

theorem layoutCommand_open (h : s.sa.state = .commissioning) (p : Plan) : s.layoutCommand p = p :=
  if_neg fun hf => frozen_iff.mp hf h

theorem needOf_code (a : Need) : needOf a.code = some a := by cases a <;> rfl

theorem needOf_eq_none {a : Nat} (h : 2 < a) : needOf a = none := by
  obtain ⟨m, rfl⟩ : ∃ m, a = m + 3 := ⟨a - 3, by omega⟩
  rfl

variable (hr : s.running = true) (hst : s.sa.state = .commissioning)

include hr hst

theorem defineZone_ruled :
    (∀ z n, 11 < z ∨ 96 < n ∨ 960 < n + s.otherStalls z → DeskReports (.defineZone q z n) s .badField []) ∧
    (∀ z n, z ≤ 11 → n ≤ 96 → n + s.otherStalls z ≤ 960 →
      DeskLeaves (.defineZone q z n) s (s.begin.defineZone z n) .done []) := by
  refine ⟨fun z n hbad => ?_, fun z n hz hn hsum => ?_⟩
  · exact deskReports_refuse rfl (exec_defineZone s q z n) hr ((layoutCommand_open hst _).trans (if_pos hbad))
  · have hgood : ¬(Config.zones ≤ z ∨ Config.maxZoneStalls < n ∨ Config.maxStalls < n + s.otherStalls z) := by
      have hconfig : Config.zones = 12 ∧ Config.maxZoneStalls = 96 ∧ Config.maxStalls = 960 := ⟨rfl, rfl, rfl⟩
      omega
    refine deskLeaves_done rfl (exec_defineZone s q z n) hr ((layoutCommand_open hst _).trans (if_neg hgood)) ?_
    unfold State.defineZone
    dsimp only
    split <;> rfl

theorem defineFixedStall_ruled :
    (∀ z i a g, s.stall? z i = none ∨ 2 < a ∨ 15 < g → DeskReports (.defineFixedStall q z i a g) s .badField []) ∧
    (∀ z i x (a : Need) g, s.stall? z i = some x → g ≤ 15 →
      DeskLeaves (.defineFixedStall q z i a.code g) s
        (s.begin.modStall z i fun y => { y with source := .fixed g, attr := a, enabled := true }) .done []) := by
  refine ⟨fun z i a g hbad => ?_, fun z i x a g hx hg => ?_⟩
  · refine deskReports_refuse rfl (exec_defineFixedStall s q z i a g) hr ((layoutCommand_open hst _).trans ?_)
    unfold State.fixedStallPlan
    split
    next x b hx hb =>
      rcases hbad with h | h | h
      · rw [h] at hx; cases hx
      · rw [needOf_eq_none h] at hb; cases hb
      · exact if_pos h
    · rfl
  · refine deskLeaves_done
      (f := fun q => q.modStall z i fun y => { y with source := .fixed g, attr := a, enabled := true }) rfl
      (exec_defineFixedStall s q z i a.code g) hr ((layoutCommand_open hst _).trans ?_) rfl
    simp only [State.fixedStallPlan, hx, needOf_code]
    exact if_neg (Nat.not_lt.mpr hg)

theorem definePanel_ruled :
    (∀ p, 3 < p → DeskReports (.definePanel q p) s .badField []) ∧
    (∀ p, p ≤ 3 → (s.panel p).inLayout = true → DeskReports (.definePanel q p) s .already []) ∧
    (∀ p, p ≤ 3 → (s.panel p).inLayout = false →
      DeskLeaves (.definePanel q p) s (s.begin.modPanel p fun _ => Panel.created) .done []) := by
  have hpanels (p : Nat) : Config.panels ≤ p ↔ 3 < p := Iff.rfl
  have hexec := exec_definePanel s q
  refine ⟨fun p hbad => ?_, fun p hp hin => ?_, fun p hp hout => ?_⟩
  · exact deskReports_refuse rfl (hexec p) hr ((layoutCommand_open hst _).trans (if_pos hbad))
  · exact deskReports_refuse rfl (hexec p) hr ((layoutCommand_open hst _).trans
      (by simp [State.definePanelPlan, hpanels, Nat.not_lt.mpr hp, hin]))
  · exact deskLeaves_done (f := fun q => q.modPanel p fun _ => Panel.created) rfl (hexec p) hr
      ((layoutCommand_open hst _).trans (by simp [State.definePanelPlan, hpanels, Nat.not_lt.mpr hp, hout])) rfl

theorem defineBays_ruled :
    (∀ b, 255 < b → DeskReports (.defineBays q b) s .badField []) ∧
    (∀ b, b ≤ 255 → DeskLeaves (.defineBays q b) s
      { s.begin with km := { s.km with bays := s.km.bays.mapIdx fun i x => x.define (b.testBit i) } } .done []) := by
  refine ⟨fun b hbad => ?_, fun b hb => ?_⟩
  · exact deskReports_refuse rfl (exec_defineBays s q b) hr ((layoutCommand_open hst _).trans (if_pos hbad))
  · exact deskLeaves_done rfl (exec_defineBays s q b) hr
      ((layoutCommand_open hst _).trans (if_neg (Nat.not_le.mpr (Nat.lt_succ_of_le hb)))) rfl

end

/-- A bay under a new set of bays: named before and now it stays; otherwise it takes its creation or its absent values
(R133; log entry 13). -/
theorem Bay.define_eq (named : Bool) (x : Bay) :
    x.define named =
      if named = true ∧ x.inLayout = true then x
      else { inLayout := named, enabled := named, night := false, loop := x.loop, holder := none, dwell := none
             driveOff := none } := by
  unfold Bay.define
  cases named with
  | false => simp [Bay.absent]
  | true => cases hin : x.inLayout <;> simp [Bay.created, Bay.absent]

/-- What DEFINE ZONE leaves at the zone, its link, and every other zone (R30, R32, R174). -/
theorem defineZone_zones (s : State) (z n : Nat) (hz : z < s.sm.zones.length) (hl : z < s.zl.links.length) :
    (s.defineZone z n).zone z = Zone.created n ∧ (s.defineZone z n).link z = ZoneLink.never ∧
      (z % 2 = 1 → (s.defineZone z n).zone (z - 1) = { s.zone (z - 1) with paired := false }) ∧
      ∀ y, y ≠ z → (z % 2 = 1 → y ≠ z - 1) → (s.defineZone z n).zone y = s.zone y := by
  set q := s.modZone z fun _ => Zone.created n
  have hself : q.zone z = Zone.created n := zone_modZone_self s z _ hz
  have hother : ∀ y, y ≠ z → q.zone y = s.zone y := fun y hy => zone_modZone_other s z y _ hy.symm
  by_cases hodd : z % 2 = 1
  · have hq : s.defineZone z n = (q.modZone (z - 1) fun x => { x with paired := false }).setLink z ZoneLink.never := by
      simp [State.defineZone, hodd, q]
    have hbelow : z - 1 ≠ z := by omega
    have hlen : z - 1 < q.sm.zones.length := by simp [q, State.modZone]; omega
    have hlink (p : State) (hp : p.zl = s.zl) : (p.setLink z ZoneLink.never).link z = ZoneLink.never := by
      simp [State.setLink, State.link, hp, hl]
    rw [hq]
    refine ⟨?_, hlink _ rfl, fun _ => ?_, fun y hy hy' => ?_⟩
    · exact (zone_modZone_other q _ _ _ hbelow).trans hself
    · refine (zone_modZone_self q _ _ hlen).trans ?_
      rw [hother _ hbelow]
    · exact (zone_modZone_other q _ _ _ (hy' hodd).symm).trans (hother y hy)
  · have hq : s.defineZone z n = q.setLink z ZoneLink.never := by simp [State.defineZone, hodd, q]
    rw [hq]
    refine ⟨hself, ?_, fun h => absurd h hodd, fun y hy _ => hother y hy⟩
    simp [State.setLink, State.link, q, hl]

/-- Settles O29: the layout commands by the service state, and what DEFINE ZONE leaves. -/
theorem layoutIsDefinedUntilFrozen : Obligations.LayoutIsDefinedUntilFrozen := by
  refine ⟨fun s q hr hst => ⟨fun z n => ?_, fun z i a g => ?_, fun p => ?_, fun b => ?_⟩,
    fun s q hr => ⟨fun hst => ?_, fun hst => ?_⟩, fun s z n hz hl => defineZone_zones s z n hz hl⟩
  · exact deskReports_refuse rfl (exec_defineZone s q z n) hr (layoutCommand_frozen hst _)
  · exact deskReports_refuse rfl (exec_defineFixedStall s q z i a g) hr (layoutCommand_frozen hst _)
  · exact deskReports_refuse rfl (exec_definePanel s q p) hr (layoutCommand_frozen hst _)
  · exact deskReports_refuse rfl (exec_defineBays s q b) hr (layoutCommand_frozen hst _)
  · exact deskReports_refuse rfl (exec_freezeLayout s q) hr (if_pos (frozen_iff.mpr hst))
  · intro named
    have hnamed (b i : Nat) (x : Bay) : x.define (b.testBit i) = named (b.testBit i) x := Bay.define_eq _ x
    obtain ⟨hzone, hzoneDone⟩ := defineZone_ruled (q := q) hr hst
    obtain ⟨hstall, hstallDone⟩ := defineFixedStall_ruled (q := q) hr hst
    obtain ⟨hpanel, hpanelThere, hpanelDone⟩ := definePanel_ruled (q := q) hr hst
    obtain ⟨hbays, hbaysDone⟩ := defineBays_ruled (q := q) hr hst
    refine ⟨?_, hzone, hzoneDone, hstall, hstallDone, hpanel, hpanelThere, hpanelDone, hbays, fun b hb => ?_⟩
    · exact deskLeaves_done rfl (exec_freezeLayout s q) hr (if_neg fun hf => frozen_iff.mp hf hst) rfl
    · simpa only [hnamed] using hbaysDone b hb

/-! ### SET CLOCK, SET CHAIN MASK and the ramp chain -/

/-- SET CHAIN MASK, check by check. -/
def chainMaskPlan (m : Nat) : Plan :=
  if m < 4096 then done fun q => ({ q with lk := { q.lk with mask := BitVec.ofNat 12 m } } : State).permitsChanged q
  else refuse .badField

theorem exec_setClock (s : State) (q v : Nat) :
    exec (.setClock q v) s = deskCommand q 0x77
      (fun _ => done fun q => ({ q with sa := { q.sa with clock := BitVec.ofNat 32 v } } : State).lookDue) s := rfl

theorem exec_setChainMask (s : State) (q m : Nat) :
    exec (.setChainMask q m) s = deskCommand q 0x78 (fun _ => chainMaskPlan m) s := rfl

theorem exec_chainLoad (s : State) : exec .chainLoad s = event (fun _ => true) State.loadPermits s := rfl

/-- The chain clocked with a level at its input. -/
def State.clockChain (s : State) (level : Bool) : State :=
  { s with lk := s.lk.clockChain level, pw := { s.pw with chainIn := level } }

theorem exec_chainClkRisingEdge (s : State) (level : Bool) :
    exec (.chainClkRisingEdge level) s = event (fun _ => true) (fun s => s.clockChain level) s := rfl

/-- A clocked chain moves up by one position, and its input enters position 0 (R181). -/
theorem getLsbD_clockChain (b : Links) (level : Bool) (i : Nat) (hi : i < 12) :
    (b.clockChain level).shift.getLsbD i = if i = 0 then level else b.shift.getLsbD (i - 1) := by
  have hbit : (if level then 1#12 else 0#12).getLsbD i = (level && decide (i = 0)) := by
    cases level <;> simp [hi]
  simp only [Links.clockChain, BitVec.getLsbD_or, hbit, BitVec.getLsbD_shiftLeft, hi, decide_true, Bool.true_and]
  by_cases h0 : i = 0
  · simp [h0]
  · simp [h0, show ¬i < 1 by omega]

/-- Permits compared with those before an event. -/
theorem permitsChanged_begin (s p : State) :
    p.permitsChanged s.begin = (p.serveIf (permitGained s p)).lookIf (permitGained s p) := by
  rw [State.permitsChanged, permitGained_begin]

/-- Settles O31: the two settings by their plans, and the two edges of the chain. -/
theorem clockAndChainAreWritten : Obligations.ClockAndChainAreWritten := by
  intro s hr
  refine ⟨fun q v _ => ?_, fun q m hm => ?_, fun q m hm => ?_, ?_, fun level => ?_⟩
  · exact deskAnswers_done rfl (exec_setClock s q v) hr rfl
  · exact deskReports_refuse rfl (exec_setChainMask s q m) hr (if_neg (Nat.not_lt.mpr hm))
  · intro p
    rw [← permitsChanged_begin]
    exact deskAnswers_done
      (f := fun q => ({ q with lk := { q.lk with mask := BitVec.ofNat 12 m } } : State).permitsChanged q) rfl
      (exec_setChainMask s q m) hr (if_pos hm)
  · intro p
    rw [← permitsChanged_begin]
    exact eventLeaves_of_occurs (f := State.loadPermits) (exec_chainLoad s) hr rfl
  · have htaken := eventLeaves_of_occurs (exec_chainClkRisingEdge s level) hr rfl
    have hidle : (s.begin.clockChain level).finish = s.begin.clockChain level := finish_of_clear rfl
    exact ⟨s.begin.clockChain level, htaken.trans (congrArg _ hidle), rfl, rfl, getLsbD_clockChain s.lk level, rfl, rfl⟩

end Sys2Proof.Machine
end

section
/-! The garage floor: what the bounds of the lists (R49, R130, R155) and the agreement of wait list, records and stalls (R33,
R49, R66) are read from, and the moves that keep both. -/

namespace Sys2Proof.Machine

open Sys2Proof.Safety

/-! ### The floor of a state -/

/-- The state and the stall of the record that a ticket looks up. -/
def Custody.place (c : Custody) (t : Nat) : Option (RecordState × Option StallId) :=
  (c.records.find? fun r => r.ticket == t).map fun r => (r.state, r.stall)

/-- The holder and the stray flag of a stall of the layout. -/
def State.heldBy (s : State) (y : StallId) : Option (Option Nat × Bool) :=
  (s.stall? y.zone y.index).map fun x => (x.holder, x.stray)

/-- Whether the buffers are within their bounds; the wait list; each record's state and stall; each stall's holder and stray
flag. -/
@[ext] structure Floor where
  fits : Prop
  wait : List Nat
  place : Nat → Option (RecordState × Option StallId)
  held : StallId → Option (Option Nat × Bool)

def State.floor (s : State) : Floor :=
  { fits := BuffersBounded s, wait := s.sm.waitList, place := s.ct.place, held := s.heldBy }

/-- Buffers and wait list are within their bounds. -/
def Floor.Bounded (f : Floor) : Prop := f.fits ∧ f.wait.length ≤ 24

/-- The wait list is the WAITING records, each once; a WAITING or STAGED record has no stall; a record and its stall name each
other; a held stall is not stray. -/
structure Floor.Sound (f : Floor) : Prop where
  nodup : f.wait.Nodup
  waiting : ∀ t, t ∈ f.wait ↔ ∃ y, f.place t = some (.waiting, y)
  parked : ∀ t a y, f.place t = some (a, some y) → a ≠ .waiting ∧ a ≠ .staged ∧ f.held y = some (some t, false)
  holder : ∀ y t b, f.held y = some (some t, b) → ∃ a, f.place t = some (a, some y)

theorem place_eq (s : State) (t : Nat) : s.ct.place t = (s.record? t).map fun r => (r.state, r.stall) := rfl

theorem floor_bounded_iff (s : State) : s.floor.Bounded ↔ BuffersBounded s ∧ WaitListBounded s := Iff.rfl

/-- Where tickets are distinct, the floor is sound exactly when the wait list is exact and the stalls agree. -/
theorem floor_sound_iff {s : State} (h : TableSound s) : s.floor.Sound ↔ WaitListExact s ∧ StallsAgree s := by
  have hmem {r : Record} (hr : r ∈ s.ct.records) : s.record? r.ticket = some r := record?_of_mem h hr
  have hof {t : Nat} {r : Record} (hr : s.record? t = some r) : r ∈ s.ct.records := List.mem_of_find?_eq_some hr
  have hplace {t : Nat} {a : RecordState} {y : Option StallId} :
      s.ct.place t = some (a, y) ↔ ∃ r, s.record? t = some r ∧ r.state = a ∧ r.stall = y := by
    simp [place_eq]
  have hheld {y : StallId} {n : Option Nat} {b : Bool} :
      s.heldBy y = some (n, b) ↔ ∃ x, s.stall? y.zone y.index = some x ∧ x.holder = n ∧ x.stray = b := by
    simp [State.heldBy]
  constructor
  · rintro ⟨hnodup, hwaiting, hparked, hholder⟩
    refine ⟨⟨hnodup, fun t => (hwaiting t).trans ?_, fun r hr hst => ?_⟩, fun r hr st hst => ?_, fun z i x t hx ht => ?_⟩
    · exact ⟨fun ⟨y, hy⟩ => (hplace.mp hy).imp fun r hr => ⟨hr.1, hr.2.1⟩,
        fun ⟨r, hr, hst⟩ => ⟨r.stall, hplace.mpr ⟨r, hr, hst, rfl⟩⟩⟩
    · by_contra hsome
      obtain ⟨y, hy⟩ := Option.ne_none_iff_exists'.mp hsome
      obtain ⟨hnw, hns, -⟩ := hparked _ _ y (hplace.mpr ⟨r, hmem hr, rfl, hy⟩)
      exact hst.elim hnw hns
    · obtain ⟨-, -, hy⟩ := hparked _ _ st (hplace.mpr ⟨r, hmem hr, rfl, hst⟩)
      obtain ⟨x, hx, hxt, -⟩ := hheld.mp hy
      rw [hx, Option.map_some, hxt]
    · obtain ⟨a, ha⟩ := hholder ⟨z, i⟩ t x.stray (hheld.mpr ⟨x, hx, ht, rfl⟩)
      obtain ⟨-, -, hy⟩ := hparked _ _ _ ha
      obtain ⟨x', hx', -, hstray⟩ := hheld.mp hy
      obtain rfl : x = x' := Option.some.inj (hx.symm.trans hx')
      obtain ⟨r, hr, -, hst⟩ := hplace.mp ha
      exact ⟨hstray, r, hr, hst⟩
  · rintro ⟨⟨hnodup, hwaiting, hnone⟩, hstall, hholder⟩
    refine ⟨hnodup, fun t => (hwaiting t).trans ?_, fun t a y hy => ?_, fun y t b hb => ?_⟩
    · exact ⟨fun ⟨r, hr, hst⟩ => ⟨r.stall, hplace.mpr ⟨r, hr, hst, rfl⟩⟩,
        fun ⟨y, hy⟩ => (hplace.mp hy).imp fun r hr => ⟨hr.1, hr.2.1⟩⟩
    · obtain ⟨r, hr, rfl, hst⟩ := hplace.mp hy
      have hfree (hbad : r.state = .waiting ∨ r.state = .staged) : False := by
        rw [hnone r (hof hr) hbad] at hst; cases hst
      obtain ⟨x, hx, hxt⟩ := Option.map_eq_some_iff.mp (hstall r (hof hr) y hst)
      rw [record?_ticket s t r hr] at hxt
      exact ⟨fun h => hfree (.inl h), fun h => hfree (.inr h), hheld.mpr ⟨x, hx, hxt, (hholder _ _ x t hx hxt).1⟩⟩
    · obtain ⟨x, hx, ht, -⟩ := hheld.mp hb
      obtain ⟨-, r, hr, hst⟩ := hholder y.zone y.index x t hx ht
      exact ⟨r.state, hplace.mpr ⟨r, hr, rfl, hst⟩⟩

/-! ### What changes a floor -/

namespace Floor

/-- The record takes another state. -/
def enter (f : Floor) (t : Nat) (a : RecordState) : Floor :=
  { f with place := fun u => (f.place u).map (if u = t then fun p => (a, p.2) else id) }

/-- The stall's holder becomes the record, which names the stall. -/
def hold (f : Floor) (t : Nat) (y : StallId) : Floor :=
  { f with
    place := fun u => (f.place u).map (if u = t then fun p => (p.1, some y) else id)
    held := fun w => (f.held w).map (if y = w then fun p => (some t, p.2) else id) }

/-- The record's stall has no holder, and the record names none. -/
def release (f : Floor) (t : Nat) : Floor :=
  { f with
    place := fun u => (f.place u).map (if u = t then fun p => (p.1, none) else id)
    held := fun w => (f.held w).map (if (f.place t).bind Prod.snd = some w then fun p => (none, p.2) else id) }

/-- The stray flag of a stall is written. -/
def mark (f : Floor) (y : StallId) (b : Bool) : Floor :=
  { f with held := fun w => (f.held w).map (if y = w then fun p => (p.1, b) else id) }

/-- The ticket leaves the wait list. -/
def leave (f : Floor) (t : Nat) : Floor := { f with wait := f.wait.filter (· != t) }

/-- The ticket joins the wait list. -/
def join (f : Floor) (t : Nat) : Floor := { f with wait := f.wait ++ [t] }

/-- A record without a stall joins the table. -/
def add (f : Floor) (t : Nat) (a : RecordState) : Floor :=
  { f with place := fun u => if u = t then some (a, none) else f.place u }

/-- The record leaves the table. -/
def drop (f : Floor) (t : Nat) : Floor := { f with place := fun u => if u = t then none else f.place u }

/-- Every record's state is written anew. -/
def recast (f : Floor) (g : Nat → RecordState → RecordState) : Floor :=
  { f with place := fun u => (f.place u).map fun p => (g u p.1, p.2) }

/-! ### The moves that keep bounds and agreement -/

/-- From `f` to `g` the bounds are kept, and under the condition `c` the agreement. -/
def Keeps (c : Prop) (f g : Floor) : Prop := (f.Bounded → g.Bounded) ∧ (c → f.Sound → g.Sound)

variable {c : Prop} {f g : Floor} {t : Nat} {a b : RecordState} {y : StallId}

theorem Keeps.refl : Keeps c f f := ⟨id, fun _ => id⟩

theorem Keeps.of_eq (h : g = f) : Keeps c f g := h ▸ .refl

theorem Keeps.trans {e : Floor} (h : Keeps c f g) (h' : Keeps c g e) : Keeps c f e :=
  ⟨fun hf => h'.1 (h.1 hf), fun hc hf => h'.2 hc (h.2 hc hf)⟩

/-- A move may take what the agreement before it says. -/
theorem Keeps.of_sound (hb : f.Bounded → g.Bounded) (h : f.Sound → Keeps c f g) : Keeps c f g :=
  ⟨hb, fun hc hf => (h hf).2 hc hf⟩

theorem Sound.nostall (h : f.Sound) {o : Option StallId} (ho : f.place t = some (a, o))
    (ha : a = .waiting ∨ a = .staged) : o = none := by
  cases o with
  | none => rfl
  | some y =>
    obtain ⟨hw, hs, -⟩ := h.parked t a y ho
    exact absurd ha (not_or.mpr ⟨hw, hs⟩)

/-- A stall without a holder or with a stray car is named by no record. -/
theorem Sound.unheld (h : f.Sound) {t : Nat} {n : Option Nat} {m : Bool} (hy : f.held y = some (n, m))
    (hn : n = none ∨ m = true) (ho : f.place t = some (a, some y)) : False := by
  obtain ⟨-, -, hheld⟩ := h.parked t a y ho
  rw [hy] at hheld
  obtain ⟨rfl, rfl⟩ := Prod.mk.inj (Option.some.inj hheld)
  simp at hn

/-- A restart, and a change of one record's state: nothing becomes or ceases to be WAITING, and a record that becomes STAGED has
no stall. -/
theorem keeps_recast (g : Nat → RecordState → RecordState)
    (hg : ∀ t a o, f.place t = some (a, o) →
      (g t a = .waiting ↔ a = .waiting) ∧ (g t a = .staged → a = .staged ∨ o = none)) :
    Keeps c f (f.recast g) := by
  refine ⟨id, fun _ h => ⟨h.nodup, fun t => (h.waiting t).trans ?_, fun t a y ha => ?_, fun y t b hb => ?_⟩⟩
  · constructor
    · rintro ⟨o, ho⟩
      exact ⟨o, by simp [recast, ho, (hg t _ o ho).1]⟩
    · rintro ⟨o, ho⟩
      obtain ⟨⟨a, o'⟩, ha, heq⟩ := Option.map_eq_some_iff.mp ho
      obtain ⟨hw, rfl⟩ := Prod.mk.inj heq
      exact ⟨o', by rw [ha, (hg t a o' ha).1.mp hw]⟩
  · obtain ⟨⟨a', o⟩, ha', heq⟩ := Option.map_eq_some_iff.mp ha
    obtain ⟨rfl, rfl⟩ := Prod.mk.inj heq
    obtain ⟨hw, hs, hy⟩ := h.parked t a' y ha'
    obtain ⟨hgw, hgs⟩ := hg t a' _ ha'
    exact ⟨mt hgw.mp hw, fun hst => (hgs hst).elim hs nofun, hy⟩
  · obtain ⟨a, ha⟩ := h.holder y t b hb
    exact ⟨g t a, by simp [recast, ha]⟩

theorem enter_eq_recast (f : Floor) (t : Nat) (b : RecordState) :
    f.enter t b = f.recast fun u a => if u = t then b else a := by
  refine Floor.ext rfl rfl (funext fun u => ?_) rfl
  by_cases hu : u = t <;> simp [enter, recast, hu]

/-- A record that is not WAITING becomes neither WAITING nor, with a stall, STAGED. -/
theorem keeps_enter (hw : ∀ o, f.place t ≠ some (.waiting, o)) (hbw : b ≠ .waiting)
    (hbs : b = .staged → ∀ a o, f.place t = some (a, o) → o = none) : Keeps c f (f.enter t b) := by
  rw [enter_eq_recast]
  refine keeps_recast _ fun u a o ha => ?_
  by_cases hu : u = t
  · subst hu
    have haw : a ≠ .waiting := fun h => hw o (h ▸ ha)
    rw [if_pos rfl]
    exact ⟨iff_of_false hbw haw, fun hst => .inr (hbs hst a o ha)⟩
  · rw [if_neg hu]
    exact ⟨Iff.rfl, .inl⟩

/-- A record leaves the wait list, where it stands on it, and becomes neither WAITING nor STAGED. -/
theorem keeps_depart (t : Nat) (hbw : b ≠ .waiting) (hbs : b ≠ .staged) : Keeps c f ((f.leave t).enter t b) := by
  refine ⟨fun h => ⟨h.1, (List.length_filter_le _ _).trans h.2⟩,
    fun _ h => ⟨h.nodup.filter _, fun u => ?_, fun u a y ha => ?_, fun y u n hn => ?_⟩⟩
  · have hwait := h.waiting u
    by_cases hu : u = t
    · subst hu; simp [enter, leave, hbw]
    · simpa [enter, leave, hu] using hwait
  · obtain ⟨⟨a', o⟩, ha', heq⟩ := Option.map_eq_some_iff.mp ha
    by_cases hu : u = t
    · subst hu
      simp only [if_true, Prod.mk.injEq] at heq
      obtain ⟨rfl, rfl⟩ := heq
      exact ⟨hbw, hbs, (h.parked u a' y ha').2.2⟩
    · simp only [hu, if_false, id, Prod.mk.injEq] at heq
      obtain ⟨rfl, rfl⟩ := heq
      exact h.parked u a' y ha'
  · obtain ⟨a, ha⟩ := h.holder y u n hn
    by_cases hu : u = t
    · subst hu
      exact ⟨b, by simp [enter, leave, ha]⟩
    · exact ⟨a, by simp [enter, leave, hu, ha]⟩

/-- A record without a stall becomes WAITING at the tail of a wait list that has room. -/
theorem keeps_wait (hsound : f.Sound → f.place t = some (a, none)) (ha : a ≠ .waiting) (hroom : f.wait.length < 24) :
    Keeps c f ((f.enter t .waiting).join t) := by
  refine ⟨fun h => ⟨h.1, by simpa [join, enter] using hroom⟩, fun _ h => ?_⟩
  have ht := hsound h
  refine ⟨?_, fun u => ?_, fun u b y hb => ?_, fun y u n hn => ?_⟩
  · have hout : t ∉ f.wait := by rw [h.waiting, ht]; simpa using ha
    refine List.nodup_append.mpr ⟨h.nodup, List.nodup_singleton t, fun u hu v hv huv => hout ?_⟩
    rwa [huv, List.mem_singleton.mp hv] at hu
  · have hwait := h.waiting u
    by_cases hu : u = t
    · subst hu; simp [join, enter, ht]
    · simpa [join, enter, hu] using hwait
  · by_cases hu : u = t
    · subst hu; simp [join, enter, ht] at hb
    · exact h.parked u b y (by simpa [join, enter, hu] using hb)
  · obtain ⟨b, hb⟩ := h.holder y u n hn
    have hu : u ≠ t := by rintro rfl; rw [ht] at hb; simp at hb
    exact ⟨b, by simpa [join, enter, hu] using hb⟩

theorem release_enter (f : Floor) (t : Nat) (b : RecordState) : (f.enter t b).release t = (f.release t).enter t b := by
  refine Floor.ext rfl rfl (funext fun u => ?_) (funext fun w => ?_)
  · by_cases hu : u = t <;> simp [enter, release, hu, Function.comp_def]
  · cases hp : f.place t <;> simp [enter, release, hp]

/-- A record whose stall is released names none. -/
theorem stall_release_self {o : Option StallId} (ho : (f.release t).place t = some (a, o)) : o = none := by
  obtain ⟨p, -, hp⟩ := Option.map_eq_some_iff.mp ho
  rw [if_pos rfl] at hp
  exact (congrArg Prod.snd hp).symm

/-- A record's stall is released. -/
theorem keeps_release (t : Nat) : Keeps c f (f.release t) := by
  refine ⟨id, fun _ h => ⟨h.nodup, fun u => (h.waiting u).trans ?_, fun u a y ha => ?_, fun y u n hn => ?_⟩⟩
  · by_cases hu : u = t
    · subst hu
      cases hp : f.place u <;> simp [release, hp, Prod.ext_iff]
    · simp [release, hu]
  · by_cases hu : u = t
    · subst hu; simp [release] at ha
    · have ha' : f.place u = some (a, some y) := by simpa [release, hu] using ha
      obtain ⟨hw, hs, hy⟩ := h.parked u a y ha'
      refine ⟨hw, hs, ?_⟩
      have hother : (f.place t).bind Prod.snd ≠ some y := by
        intro hsome
        obtain ⟨⟨b, o⟩, hb, ho⟩ := Option.bind_eq_some_iff.mp hsome
        obtain rfl : o = some y := ho
        have hheld := (h.parked t b y hb).2.2
        rw [hy] at hheld
        simp [hu] at hheld
      simp [release, hother, hy]
  · by_cases hy : (f.place t).bind Prod.snd = some y
    · simp [release, hy] at hn
    · have hn' : f.held y = some (some u, n) := by simpa [release, hy] using hn
      obtain ⟨a, ha⟩ := h.holder y u n hn'
      have hu : u ≠ t := by rintro rfl; simp [ha] at hy
      exact ⟨a, by simpa [release, hu] using ha⟩

/-- A record without a stall, neither WAITING nor STAGED, takes a stall without a holder and without a stray car. -/
theorem keeps_hold (hsound : f.Sound → f.place t = some (a, none)) (haw : a ≠ .waiting) (has : a ≠ .staged)
    (hheld : f.Sound → f.held y = some (none, false)) : Keeps c f (f.hold t y) := by
  refine ⟨id, fun _ h => ?_⟩
  have ht := hsound h
  have hy := hheld h
  refine ⟨h.nodup, fun u => (h.waiting u).trans ?_, fun u b w hb => ?_, fun w u n hn => ?_⟩
  · by_cases hu : u = t
    · subst hu; simp [hold, ht]
    · simp [hold, hu]
  · by_cases hu : u = t
    · subst hu
      simp only [hold, ht, if_true, Option.map_some, Option.some.injEq, Prod.mk.injEq] at hb
      obtain ⟨rfl, rfl⟩ := hb
      exact ⟨haw, has, by simp [hold, hy]⟩
    · have hb' : f.place u = some (b, some w) := by simpa [hold, hu] using hb
      have hw : y ≠ w := by rintro rfl; exact h.unheld hy (.inl rfl) hb'
      simpa [hold, hw] using h.parked u b w hb'
  · by_cases hw : y = w
    · subst hw
      simp only [hold, hy, if_true, Option.map_some, Option.some.injEq, Prod.mk.injEq] at hn
      obtain ⟨rfl, -⟩ := hn
      exact ⟨a, by simp [hold, ht]⟩
    · have hn' : f.held w = some (some u, n) := by simpa [hold, hw] using hn
      obtain ⟨b, hb⟩ := h.holder w u n hn'
      have hu : u ≠ t := by rintro rfl; rw [ht] at hb; simp at hb
      exact ⟨b, by simpa [hold, hu] using hb⟩

/-- The stray flag of a stall without a holder changes; any stall may lose its flag. -/
theorem keeps_mark (m : Bool) (hm : m = true → ∀ n k, f.held y = some (n, k) → n = none) : Keeps c f (f.mark y m) := by
  refine ⟨id, fun _ h => ⟨h.nodup, h.waiting, fun u b w hb => ?_, fun w u n hn => ?_⟩⟩
  · obtain ⟨hbw, hbs, hw⟩ := h.parked u b w hb
    refine ⟨hbw, hbs, ?_⟩
    by_cases hy : y = w
    · subst hy
      cases m with
      | false => simp [mark, hw]
      | true => exact absurd (hm rfl _ _ hw) nofun
    · simp [mark, hy, hw]
  · obtain ⟨⟨n', k⟩, hk, heq⟩ := Option.map_eq_some_iff.mp hn
    refine h.holder w u k ?_
    rw [hk]
    split at heq <;> simpa using congrArg Prod.fst heq

/-- A new record without a stall that is not WAITING. -/
theorem keeps_add (ht : f.place t = none) (ha : a ≠ .waiting) : Keeps c f (f.add t a) := by
  refine ⟨id, fun _ h => ⟨h.nodup, fun u => (h.waiting u).trans ?_, fun u b y hb => ?_, fun y u n hn => ?_⟩⟩
  · by_cases hu : u = t
    · subst hu; simp [add, ht, ha]
    · simp [add, hu]
  · by_cases hu : u = t
    · subst hu; simp [add] at hb
    · exact h.parked u b y (by simpa [add, hu] using hb)
  · obtain ⟨b, hb⟩ := h.holder y u n hn
    have hu : u ≠ t := by rintro rfl; rw [ht] at hb; cases hb
    exact ⟨b, by simpa [add, hu] using hb⟩

theorem join_add_waiting (f : Floor) (t : Nat) (a : RecordState) :
    (f.add t .waiting).join t = ((f.add t a).enter t .waiting).join t := by
  refine Floor.ext rfl rfl (funext fun u => ?_) rfl
  by_cases hu : u = t <;> simp [join, add, enter, hu]

/-- A new WAITING record on a wait list that has room. -/
theorem keeps_addWaiting (ht : f.place t = none) (hroom : f.wait.length < 24) : Keeps c f ((f.add t .waiting).join t) := by
  rw [join_add_waiting f t .inbound]
  exact (keeps_add ht (by decide)).trans (keeps_wait (a := .inbound) (fun _ => by simp [add]) (by decide) hroom)

/-- A record without a stall that is not WAITING leaves the table. -/
theorem keeps_drop (ht : ∀ a o, f.place t = some (a, o) → a ≠ .waiting ∧ o = none) : Keeps c f (f.drop t) := by
  refine ⟨id, fun _ h => ⟨h.nodup, fun u => (h.waiting u).trans ?_, fun u b y hb => ?_, fun y u n hn => ?_⟩⟩
  · by_cases hu : u = t
    · subst hu
      refine iff_of_false ?_ (by simp [drop])
      rintro ⟨o, ho⟩
      exact (ht _ o ho).1 rfl
    · simp [drop, hu]
  · by_cases hu : u = t
    · subst hu; simp [drop] at hb
    · exact h.parked u b y (by simpa [drop, hu] using hb)
  · obtain ⟨b, hb⟩ := h.holder y u n hn
    have hu : u ≠ t := by rintro rfl; exact absurd (ht b _ hb).2 nofun
    exact ⟨b, by simpa [drop, hu] using hb⟩

/-- The buffers change, and stay within their bounds. -/
theorem keeps_fits {p : Prop} (h : f.fits → p) : Keeps c f { f with fits := p } :=
  ⟨fun hf => ⟨h hf.1, hf.2⟩, fun _ hf => ⟨hf.nodup, hf.waiting, hf.parked, hf.holder⟩⟩

/-- Where there are no records, stalls may only lose a holder. -/
theorem keeps_noRecords (hplace : c → ∀ t, f.place t = none) {held : StallId → Option (Option Nat × Bool)}
    (hheld : ∀ y t b, held y = some (some t, b) → f.held y = some (some t, b)) : Keeps c f { f with held := held } := by
  refine ⟨id, fun hc h => ⟨h.nodup, h.waiting, fun t a y ha => ?_, fun y t b hb => h.holder y t b (hheld y t b hb)⟩⟩
  have hnone := (hplace hc t).symm.trans ha
  cases hnone

/-- A floor without waiting records, without records, and without held stalls. -/
theorem keeps_empty (hfits : f.fits → g.fits) (hwait : g.wait = []) (hplace : ∀ t, g.place t = none)
    (hheld : ∀ y t b, g.held y ≠ some (some t, b)) : Keeps c f g :=
  ⟨fun hf => ⟨hfits hf.1, by simp [hwait]⟩,
    fun _ _ => ⟨by simp [hwait], by simp [hwait, hplace], by simp [hplace], fun y t b h => absurd h (hheld y t b)⟩⟩

end Floor

end Sys2Proof.Machine
end

section
/-! What the operations of the model do to the floor: nothing, for most; a change of Floor, for those that move a record, a
holder or a place of the wait list. -/

namespace Sys2Proof.Machine

open Sys2Proof.Safety

variable {s q : State}

/-! ### Equal floors -/

theorem floor_ext (hfits : BuffersBounded q ↔ BuffersBounded s) (hwait : q.sm.waitList = s.sm.waitList)
    (hplace : ∀ t, q.ct.place t = s.ct.place t) (hheld : ∀ y, q.heldBy y = s.heldBy y) : q.floor = s.floor :=
  Floor.ext (propext hfits) hwait (funext hplace) (funext hheld)

theorem buffersBounded_congr (hlk : q.lk = s.lk) (hkm : q.km.lanes = s.km.lanes) : BuffersBounded q ↔ BuffersBounded s := by
  unfold BuffersBounded; rw [hlk, hkm]

theorem heldBy_congr (hsm : q.sm = s.sm) : q.heldBy = s.heldBy := by
  unfold State.heldBy; rw [stall?_congr hsm]

theorem floor_congr (hct : q.ct = s.ct) (hsm : q.sm = s.sm) (hfits : BuffersBounded q ↔ BuffersBounded s) :
    q.floor = s.floor :=
  floor_ext hfits (by rw [hsm]) (fun t => by rw [hct]) (fun y => by rw [heldBy_congr hsm])

/-- An operation of the other blocks. -/
theorem floor_frame (hct : q.ct = s.ct) (hsm : q.sm = s.sm) (hlk : q.lk = s.lk) (hkm : q.km.lanes = s.km.lanes) :
    q.floor = s.floor :=
  floor_congr hct hsm (buffersBounded_congr hlk hkm)

variable (s)

@[simp] theorem floor_serveDue : s.serveDue.floor = s.floor :=
  floor_frame rfl rfl rfl rfl

@[simp] theorem floor_lookDue : s.lookDue.floor = s.floor :=
  floor_frame rfl rfl rfl rfl

@[simp] theorem floor_begin : s.begin.floor = s.floor :=
  floor_frame rfl rfl rfl rfl

@[simp] theorem floor_serveIf (b : Bool) : (s.serveIf b).floor = s.floor := by cases b <;> rfl

@[simp] theorem floor_lookIf (b : Bool) : (s.lookIf b).floor = s.floor := by cases b <;> rfl

@[simp] theorem floor_raise (c : Cause) (x : Option Nat) : (s.raise c x).floor = s.floor :=
  floor_frame rfl rfl rfl rfl

@[simp] theorem floor_setLink (z : Nat) (k : ZoneLink) : (s.setLink z k).floor = s.floor :=
  floor_frame rfl rfl rfl rfl

@[simp] theorem floor_modPanel (p : Nat) (f : Panel → Panel) : (s.modPanel p f).floor = s.floor :=
  floor_frame rfl rfl rfl rfl

@[simp] theorem floor_sendLatch (h : Nat) (p : Latch) : (s.sendLatch h p).floor = s.floor :=
  floor_frame rfl rfl rfl rfl

@[simp] theorem floor_modAttendant (a : Nat) (f : Attendant → Attendant) : (s.modAttendant a f).floor = s.floor :=
  floor_frame rfl rfl rfl rfl

@[simp] theorem floor_idleBack (a : Nat) : (s.idleBack a).floor = s.floor :=
  floor_frame rfl rfl rfl rfl

@[simp] theorem floor_idleFront (a : Nat) : (s.idleFront a).floor = s.floor :=
  floor_frame rfl rfl rfl rfl

@[simp] theorem floor_leaveIdle (a : Nat) (st : AttendantState) : (s.leaveIdle a st).floor = s.floor :=
  floor_frame rfl rfl rfl rfl

@[simp] theorem floor_modBay (b : Nat) (f : Bay → Bay) : (s.modBay b f).floor = s.floor :=
  floor_frame rfl rfl rfl rfl

@[simp] theorem floor_setEntries (l : List Entry) : (s.setEntries l).floor = s.floor :=
  floor_frame rfl rfl rfl rfl

@[simp] theorem floor_modEntry (t : Nat) (f : Entry → Entry) : (s.modEntry t f).floor = s.floor :=
  floor_frame rfl rfl rfl rfl

@[simp] theorem floor_requeue (t : Nat) : (s.requeue t).floor = s.floor :=
  floor_frame rfl rfl rfl rfl

@[simp] theorem floor_updHook (h : Nat) (f : Hook → Hook) : (s.updHook h f).floor = s.floor :=
  floor_frame (by simp) (by simp) (by simp) (by simp)

@[simp] theorem floor_bindHook (h t : Nat) : (s.bindHook h t).floor = s.floor :=
  floor_frame (by simp) (by simp) (by simp) (by simp)

@[simp] theorem floor_unbindHook (h t : Nat) : (s.unbindHook h t).floor = s.floor :=
  floor_frame (by simp) (by simp) (by simp) (by simp)

@[simp] theorem floor_requestWindow (h a : Nat) : (s.requestWindow h a).floor = s.floor :=
  floor_frame (by simp) (by simp) (by simp) (by simp)

@[simp] theorem floor_endWindow (h : Nat) : (s.endWindow h).floor = s.floor :=
  floor_frame (by simp) (by simp) (by simp) (by simp)

@[simp] theorem floor_reparkHook (h a : Nat) : (s.reparkHook h a).floor = s.floor :=
  floor_frame (by simp) (by simp) (by simp) (by simp)

@[simp] theorem floor_addEntry (e : Entry) : (s.addEntry e).floor = s.floor :=
  floor_frame (by simp) (by simp) (by simp) (by simp)

@[simp] theorem floor_removeEntry (t : Nat) : (s.removeEntry t).floor = s.floor :=
  floor_frame (by simp) (by simp) (by simp) (by simp)

@[simp] theorem floor_upgradeEntry (t tier : Nat) : (s.upgradeEntry t tier).floor = s.floor :=
  floor_frame (by simp) (by simp) (by simp) (by simp)

@[simp] theorem floor_startParking (o : Option Nat) : (s.startParking o).floor = s.floor :=
  floor_frame (by simp) (by simp) (by simp) (by simp)

@[simp] theorem floor_freeBay (b : Option Nat) : (s.freeBay b).floor = s.floor := by
  cases b <;> rfl

/-! ### Frames to handsets -/

/-- A frame joins the transmit buffer only while there is room (R155). -/
theorem buffersBounded_pushFrame (f : HandsetFrame) : BuffersBounded (s.pushFrame f) ↔ BuffersBounded s := by
  have htx : (s.pushFrame f).lk.tx.length ≤ 64 ↔ s.lk.tx.length ≤ 64 := by
    unfold State.pushFrame
    split
    next hroom =>
      have hroom : s.lk.tx.length < 64 := hroom
      simp; omega
    · rfl
  unfold BuffersBounded
  rw [htx, (State.pushFrame_frame s f).2.2.2.2.2.2.1]

@[simp] theorem floor_pushFrame (f : HandsetFrame) : (s.pushFrame f).floor = s.floor :=
  floor_congr (by simp) (by simp) (buffersBounded_pushFrame s f)

@[simp] theorem floor_sendTo (a kind : Nat) (body : List Value) : (s.sendTo a kind body).floor = s.floor := by
  unfold State.sendTo; split <;> simp

@[simp] theorem floor_sendWithdrawn (a t reason : Nat) : (s.sendWithdrawn a t reason).floor = s.floor :=
  floor_sendTo s a _ _

@[simp] theorem floor_withdrawOffer (a t : Nat) : (s.withdrawOffer a t).floor = s.floor := by simp [State.withdrawOffer]

@[simp] theorem floor_suspendJob (a t : Nat) : (s.suspendJob a t).floor = s.floor := by simp [State.suspendJob]

@[simp] theorem floor_dropEntry (t : Nat) : (s.dropEntry t).floor = s.floor := by
  unfold State.dropEntry; split
  · rfl
  · split <;> simp

@[simp] theorem floor_suspendParker (r : Record) : (s.suspendParker r).floor = s.floor := by
  unfold State.suspendParker; split
  · split <;> simp
  · rfl

@[simp] theorem floor_lapseAttendant (t : Nat) (o : Option Nat) : (s.lapseAttendant t o).floor = s.floor := by
  cases o <;> simp [State.lapseAttendant]

@[simp] theorem floor_offer (e : Entry) (a : Nat) : (s.offer e a).floor = s.floor := by
  unfold State.offer; dsimp only; split <;> simp

@[simp] theorem floor_lookLoop (n : Nat) : (s.lookLoop n).floor = s.floor := by
  induction n generalizing s with
  | zero => rfl
  | succ n ih =>
    unfold State.lookLoop; split
    · rw [ih, floor_offer]
    · rfl

@[simp] theorem floor_lookStep : s.lookStep.floor = s.floor := by
  unfold State.lookStep State.look; split
  · split <;> simp
  · rfl

theorem floor_foldl {α : Type} (f : State → α → State) (hf : ∀ p a, (f p a).floor = p.floor) (l : List α) :
    (l.foldl f s).floor = s.floor := by
  induction l generalizing s with
  | nil => rfl
  | cons a l ih => rw [List.foldl_cons, ih, hf]

@[simp] theorem floor_announceGrant (r : Record) (st : StallId) : (s.announceGrant r st).floor = s.floor :=
  floor_foldl s _ (fun _ _ => floor_sendTo _ _ _ _) _

/-! ### Records -/

@[simp] theorem floor_modRecord (t : Nat) (f : Record → Record) (ht : ∀ r, (f r).ticket = r.ticket)
    (hstate : ∀ r, (f r).state = r.state) (hstall : ∀ r, (f r).stall = r.stall) : (s.modRecord t f).floor = s.floor := by
  refine floor_ext Iff.rfl rfl (fun u => ?_) fun y => rfl
  rw [place_eq, place_eq, record?_modRecord s t u f ht, Option.map_map]
  congr 1
  split
  · exact funext fun r => by simp [hstate, hstall]
  · rfl

@[simp] theorem floor_noteFallback (t : Nat) (b : Bool) : (s.noteFallback t b).floor = s.floor := by
  unfold State.noteFallback; split <;> simp

@[simp] theorem floor_compareGrade (st : Stall) : (s.compareGrade st).floor = s.floor := by
  unfold State.compareGrade; split
  · rfl
  · repeat' split
    all_goals simp

@[simp] theorem floor_keyTaken (t a : Nat) : (s.keyTaken t a).floor = s.floor := by
  unfold State.keyTaken; split
  · rfl
  · split <;> simp

@[simp] theorem floor_clearSuspension (t : Nat) : (s.clearSuspension t).floor = s.floor := by
  simp [State.clearSuspension]

theorem floor_dropRecord (t : Nat) : (s.dropRecord t).floor = s.floor.drop t := by
  refine Floor.ext rfl rfl (funext fun u => ?_) rfl
  show (s.dropRecord t).ct.place u = if u = t then none else s.ct.place u
  rw [place_eq, place_eq, record?_dropRecord]
  split <;> rfl

/-! ### Stalls -/

theorem heldBy_modStall (z i : Nat) (f : Stall → Stall) (y : StallId) :
    (s.modStall z i f).heldBy y =
      ((s.stall? y.zone y.index).map (if y = ⟨z, i⟩ then f else id)).map fun x => (x.holder, x.stray) := by
  obtain ⟨w, j⟩ := y
  simp [State.heldBy, stall?_modStall]

@[simp] theorem floor_modStall (z i : Nat) (f : Stall → Stall) (hholder : ∀ x, (f x).holder = x.holder)
    (hstray : ∀ x, (f x).stray = x.stray) : (s.modStall z i f).floor = s.floor := by
  refine floor_ext Iff.rfl rfl (fun u => rfl) fun y => ?_
  rw [heldBy_modStall, Option.map_map]
  refine congrArg (Option.map · _) (funext fun x => ?_)
  by_cases hy : y = ⟨z, i⟩ <;> simp [hy, hholder, hstray]

theorem floor_markStall (z i : Nat) (f : Stall → Stall) (b : Bool) (hholder : ∀ x, (f x).holder = x.holder)
    (hstray : ∀ x, (f x).stray = b) : (s.modStall z i f).floor = s.floor.mark ⟨z, i⟩ b := by
  refine Floor.ext rfl rfl rfl (funext fun y => ?_)
  refine (heldBy_modStall s z i f y).trans ?_
  show _ = (s.heldBy y).map _
  rw [State.heldBy, Option.map_map, Option.map_map]
  refine congrArg (Option.map · _) (funext fun x => ?_)
  by_cases hy : y = ⟨z, i⟩
  · simp [hy, hholder, hstray]
  · simp [hy, Ne.symm hy]

@[simp] theorem floor_resetRuns (o : Option StallId) : (s.resetRuns o).floor = s.floor := by
  cases o with
  | none => rfl
  | some y => exact floor_modStall s _ _ _ (fun _ => rfl) fun _ => rfl

theorem zone_modZone (z y : Nat) (f : Zone → Zone) :
    (s.modZone z f).zone y = if y = z ∧ z < s.sm.zones.length then f (s.zone y) else s.zone y := by
  by_cases hy : y = z
  · subst hy
    by_cases hlen : y < s.sm.zones.length
    · simp [zone_modZone_self s y f hlen, hlen]
    · simp [State.zone, State.modZone, List.modify_eq_self (Nat.le_of_not_lt hlen), hlen]
  · simp [zone_modZone_other s z y f (Ne.symm hy), hy]

@[simp] theorem floor_modZone (z : Nat) (f : Zone → Zone)
    (hf : ∀ (x : Zone) (i : Nat), ((f x).stalls[i]?).map (fun st : Stall => (st.holder, st.stray)) =
      (x.stalls[i]?).map fun st : Stall => (st.holder, st.stray)) :
    (s.modZone z f).floor = s.floor := by
  refine floor_ext Iff.rfl rfl (fun u => rfl) fun y => ?_
  unfold State.heldBy State.stall?
  rw [zone_modZone]
  split
  · exact hf _ _
  · rfl

/-! ### Holders and record states -/

theorem floor_setState (t : Nat) (a : RecordState) : (s.setState t a).floor = s.floor.enter t a := by
  have hrecord : (s.setState t a).floor = (s.modRecord t (Record.enter a s.ct.parkLimit)).floor := floor_resetRuns _ _
  rw [hrecord]
  refine Floor.ext rfl rfl (funext fun u => ?_) rfl
  show (s.modRecord t _).ct.place u = (s.ct.place u).map _
  rw [place_eq, place_eq, record?_modRecord _ _ _ _ fun r => (Record.enter_frame a _ r).2.1, Option.map_map, Option.map_map]
  congr 1
  split <;> rfl

theorem floor_holdStall (t : Nat) (y : StallId) : (s.holdStall t y).floor = s.floor.hold t y := by
  refine Floor.ext (propext (buffersBounded_congr (by simp) (by simp))) (by simp [State.floor, Floor.hold, State.holdStall])
    (funext fun u => ?_) (funext fun w => ?_)
  · show (s.holdStall t y).ct.place u = (s.ct.place u).map _
    rw [place_eq, place_eq, record?_holdStall, Option.map_map, Option.map_map]
    congr 1
    split <;> rfl
  · show (s.holdStall t y).heldBy w = (s.heldBy w).map _
    rw [State.heldBy, State.heldBy, stall?_holdStall, Option.map_map, Option.map_map]
    congr 1
    split <;> rfl

theorem floor_releaseStall (t : Nat) : (s.releaseStall t).floor = s.floor.release t := by
  have hnamed : (s.ct.place t).bind Prod.snd = (s.record? t).bind Record.stall := by
    rw [place_eq]; cases s.record? t <;> rfl
  refine Floor.ext (propext (buffersBounded_congr (by simp) (by simp))) ?_ (funext fun u => ?_) (funext fun w => ?_)
  · show (s.releaseStall t).sm.waitList = s.sm.waitList
    unfold State.releaseStall; split <;> simp
  · show (s.releaseStall t).ct.place u = (s.ct.place u).map _
    rw [place_eq, place_eq, record?_releaseStall, Option.map_map, Option.map_map]
    congr 1
    split
    · exact funext fun r => by simp
    · rfl
  · show (s.releaseStall t).heldBy w = (s.heldBy w).map (if (s.ct.place t).bind Prod.snd = some w then _ else _)
    rw [State.heldBy, State.heldBy, stall?_releaseStall, hnamed, Option.map_map, Option.map_map]
    congr 1
    split <;> rfl

theorem floor_leaveWaitList (t : Nat) : (s.leaveWaitList t).floor = s.floor.leave t := rfl

theorem floor_joinWaitList (t : Nat) : (s.joinWaitList t).floor = s.floor.join t := rfl

theorem floor_enterWaiting (t : Nat) : (s.enterWaiting t).floor = (s.floor.enter t .waiting).join t := by
  unfold State.enterWaiting; rw [floor_joinWaitList, floor_setState]

end Sys2Proof.Machine
end

section
/-! The record transitions and the Stall Map's operations keep the floor (R9 to R20, R33, R49 to R52, R60 to R66). -/

namespace Sys2Proof.Machine

open Sys2Proof.Safety

variable {s : State} {c : Prop} {t : Nat} {r : Record}

theorem floor_place (hr : s.record? t = some r) : s.floor.place t = some (r.state, r.stall) := by
  show s.ct.place t = _
  rw [place_eq, hr]; rfl

theorem floor_not_waiting (hr : s.record? t = some r) (hw : r.state ≠ .waiting) (o : Option StallId) :
    s.floor.place t ≠ some (.waiting, o) := by
  rw [floor_place hr]
  exact fun h => hw (congrArg Prod.fst (Option.some.inj h))

theorem floor_held {z i : Nat} {x : Stall} (hx : s.stall? z i = some x) : s.floor.held ⟨z, i⟩ = some (x.holder, x.stray) := by
  show (s.stall? z i).map _ = _
  rw [hx]; rfl

/-! ### Changes of a record's state -/

namespace Floor

theorem enter_not_waiting {f : Floor} {a : RecordState} (ha : a ≠ .waiting) (o : Option StallId) :
    (f.enter t a).place t ≠ some (.waiting, o) := by
  cases hp : f.place t <;> simp [enter, hp, ha]

theorem release_not_waiting {f : Floor} (h : ∀ o, f.place t ≠ some (.waiting, o)) (u : Nat) (o : Option StallId) :
    (f.release u).place t ≠ some (.waiting, o) := by
  rintro hrel
  obtain ⟨⟨a, o'⟩, ha, heq⟩ := Option.map_eq_some_iff.mp hrel
  have hwaiting : a = .waiting := by split at heq <;> exact (Prod.mk.inj heq).1
  exact h o' (hwaiting ▸ ha)

theorem hold_enter (f : Floor) (y : StallId) (a : RecordState) : (f.hold t y).enter t a = (f.enter t a).hold t y := by
  refine Floor.ext rfl rfl (funext fun u => ?_) rfl
  by_cases hu : u = t <;> simp [enter, hold, hu, Function.comp_def]

theorem mark_hold (f : Floor) (y : StallId) (m : Bool) : (f.hold t y).mark y m = (f.mark y m).hold t y := by
  refine Floor.ext rfl rfl rfl (funext fun w => ?_)
  by_cases hw : y = w <;> simp [mark, hold, hw, Function.comp_def]

end Floor

theorem keeps_setState (hr : s.record? t = some r) (hw : r.state ≠ .waiting) {a : RecordState} (ha : a ≠ .waiting)
    (has : a ≠ .staged) : s.floor.Keeps c (s.setState t a).floor := by
  rw [floor_setState]
  exact Floor.keeps_enter (floor_not_waiting hr hw) ha fun h => absurd h has

theorem keeps_releaseStall (t : Nat) : s.floor.Keeps c (s.releaseStall t).floor := by
  rw [floor_releaseStall]; exact Floor.keeps_release t

theorem keeps_suspend (t : Nat) (why : SuspendReason) : s.floor.Keeps c (s.suspend t why).floor := by
  cases hr : s.record? t with
  | none => exact .of_eq (by simp [State.suspend, hr])
  | some r =>
    have hfloor : (s.suspend t why).floor = (s.floor.leave t).enter t .suspended := by
      simp [suspend_eq hr, floor_setState, State.cutLoose, floor_leaveWaitList]
    rw [hfloor]
    exact Floor.keeps_depart t (by decide) (by decide)

theorem keeps_keyForced (t : Nat) : s.floor.Keeps c (s.keyForced t).floor := by
  unfold State.keyForced
  split
  · exact .refl
  · split
    · exact .refl
    · exact .of_eq (by simp)
    · exact keeps_suspend t _

theorem keeps_stallEmpty (t z : Nat) : s.floor.Keeps c (s.stallEmpty t z).floor := keeps_suspend t _

theorem keeps_enterStored (hr : s.record? t = some r) (hw : r.state ≠ .waiting) :
    s.floor.Keeps c (s.enterStored t).floor := by
  have hjob : ((s.storedJob t r.attendant).modRecord t Record.freed).floor = s.floor.enter t .stored := by
    rw [floor_modRecord _ _ Record.freed (fun _ => rfl) (fun _ => rfl) (fun _ => rfl), ← floor_setState]
    unfold State.storedJob; dsimp only
    split <;> split <;> simp
  have hstored : s.floor.Keeps c (s.floor.enter t .stored) :=
    Floor.keeps_enter (floor_not_waiting hr hw) (by decide) nofun
  rw [enterStored_eq hr]
  split
  · rw [floor_lookDue, floor_setState, hjob]
    exact hstored.trans (Floor.keeps_enter (Floor.enter_not_waiting (by decide)) (by decide) nofun)
  · rw [hjob]; exact hstored

theorem keeps_setMarks (hr : s.record? t = some r) (hw : r.state ≠ .waiting) (park key : Bool) :
    s.floor.Keeps c (s.setMarks t park key).floor := by
  unfold State.setMarks; split
  · exact keeps_enterStored hr hw
  · exact .of_eq (by simp)

theorem keeps_parkConfirmed (t : Nat) : s.floor.Keeps c (s.parkConfirmed t).floor := by
  unfold State.parkConfirmed; split
  · exact .refl
  next r hr =>
    split
    next h => exact keeps_setMarks hr (by simp [h.1]) _ _
    · exact .refl

theorem floor_keyIsBack (s : State) (t : Nat) : (s.keyIsBack t).floor = s.floor := by
  unfold State.keyIsBack
  rw [floor_lookIf, floor_modRecord _ _ Record.keyIsBack (fun _ => rfl) (fun _ => rfl) (fun _ => rfl)]

theorem keeps_keyHome (t : Nat) : s.floor.Keeps c (s.keyHome t).floor := by
  cases hr : s.record? t with
  | none => exact .of_eq (by simp [State.keyHome, hr])
  | some r =>
    have hback : (s.keyIsBack t).floor = s.floor := floor_keyIsBack s t
    rw [keyHome_eq hr]
    split
    next hin =>
      split
      · exact .of_eq hback
      · have hrb : (s.keyIsBack t).record? t = some r.keyIsBack := by simp [hr]
        rw [← hback]
        exact keeps_setMarks hrb (by simp [Record.keyIsBack, hin]) _ _
    · exact .of_eq hback
    · exact .of_eq ((floor_modRecord _ _ Record.freed (fun _ => rfl) (fun _ => rfl) fun _ => rfl).trans hback)
    · exact .of_eq hback

theorem keeps_undoJob (hr : s.record? t = some r) (hw : r.state ≠ .waiting) {a : RecordState} (ha : a ≠ .waiting)
    (has : a ≠ .staged) : s.floor.Keeps c (s.undoJob t a).floor := by
  have hfloor : (s.undoJob t a).floor = (s.setState t a).floor :=
    (floor_requeue _ t).trans (floor_modRecord _ _ Record.freed (fun _ => rfl) (fun _ => rfl) fun _ => rfl)
  rw [hfloor]
  exact keeps_setState hr hw ha has

theorem keeps_windowLapsed (t : Nat) : s.floor.Keeps c (s.windowLapsed t).floor := by
  unfold State.windowLapsed; split
  · exact .refl
  next r hr =>
    split
    next hst =>
      rw [floor_lapseAttendant]
      exact keeps_undoJob hr (by simp [hst]) (by decide) (by decide)
    next hst =>
      split
      · rw [floor_lapseAttendant]
        exact keeps_undoJob hr (by simp [hst]) (by decide) (by decide)
      · exact .refl
    · exact .refl

/-! ### Notices of the key cabinet -/

variable {h : Nat} {k : Hook}

theorem keeps_takeKey : s.floor.Keeps c (s.takeKey h k).floor := by
  refine .of_eq ?_
  unfold State.takeKey; dsimp only; split <;> simp

theorem keeps_forceKey : s.floor.Keeps c (s.forceKey h k).floor := by
  unfold State.forceKey; dsimp only; split
  next t _ =>
    rw [floor_raise]
    exact (Floor.Keeps.of_eq (floor_updHook s h _)).trans (keeps_keyForced t)
  · exact .of_eq (floor_updHook s h _)

theorem keeps_completeLapse : s.floor.Keeps c (s.completeLapse h k).floor := by
  unfold State.completeLapse; dsimp only; split
  · exact .of_eq (floor_updHook s h _)
  · split
    next t _ => exact (Floor.Keeps.of_eq (floor_updHook s h _)).trans (keeps_windowLapsed t)
    · exact .of_eq (floor_updHook s h _)

theorem keeps_keyWentAway (t : Nat) (second : Bool) : s.floor.Keeps c (s.keyWentAway t second).floor := by
  have haway : (s.modRecord t fun q => { q with flags := { q.flags with keyAway := true } }).floor = s.floor := by simp
  unfold State.keyWentAway; dsimp only; split
  · exact (Floor.Keeps.of_eq haway).trans (keeps_windowLapsed t)
  · exact .of_eq haway

theorem keeps_serviceKey : s.floor.Keeps c (s.serviceKey h k).floor := by
  cases ht : k.bound with
  | none => exact .of_eq (by simp [State.serviceKey, ht])
  | some t =>
    rw [serviceKey_bound ht]
    exact (Floor.Keeps.of_eq (floor_updHook s h _)).trans (keeps_keyWentAway t _)

theorem keeps_emptyHook (h : Nat) (latched : Bool) : s.floor.Keeps c (s.emptyHook h latched).floor := by
  unfold State.emptyHook; split
  · exact .refl
  · split
    · exact .of_eq (floor_updHook s h _)
    · split
      · exact keeps_forceKey
      · exact keeps_takeKey
    · split
      · exact keeps_serviceKey
      · exact keeps_forceKey
    · exact .refl

theorem keeps_confirmLatch (h : Nat) (p : Latch) : s.floor.Keeps c (s.confirmLatch h p).floor := by
  unfold State.confirmLatch; split
  · exact .refl
  · split
    · dsimp only
      generalize hq : s.updHook h _ = q
      have hfloor : q.floor = s.floor := by rw [← hq, floor_updHook]
      rw [← hfloor]
      split
      · split
        · exact keeps_completeLapse
        · exact .of_eq (floor_updHook _ h _)
        · exact .refl
      · exact .refl
    · exact .refl

theorem keeps_expireWindow (h : Nat) : s.floor.Keeps c (s.expireWindow h).floor := by
  unfold State.expireWindow; split
  · exact .refl
  · split
    · split
      · exact keeps_completeLapse
      · exact .of_eq (floor_updHook s h _)
    · exact keeps_completeLapse
    · exact .of_eq (floor_updHook s h _)

theorem floor_mishung (h tag : Nat) : (s.mishung h tag).floor = s.floor := by simp [State.mishung]

theorem keeps_loadHook (h tag : Nat) : s.floor.Keeps c (s.loadHook h tag).floor := by
  have hhung : s.floor.Keeps c ((s.updHook h Hook.hung).keyHome tag).floor :=
    (Floor.Keeps.of_eq (floor_updHook s h _)).trans (keeps_keyHome tag)
  unfold State.loadHook; split
  · exact .refl
  · split
    · exact .refl
    · exact .refl
    · exact .refl
    · exact .of_eq (floor_mishung h tag)
    · split
      · exact hhung
      · exact .of_eq (floor_mishung h tag)
    · split
      · exact hhung
      · exact .of_eq (floor_mishung h tag)

/-! ### The end of custody, and staging -/

theorem keeps_retireRecord (hr : s.record? t = some r) (hw : r.state ≠ .waiting) :
    s.floor.Keeps c (s.retireRecord t).floor := by
  have hfloor : (s.retireRecord t).floor = (s.floor.release t).drop t := by
    simp only [State.retireRecord, hr, floor_dropRecord, floor_unbindHook, floor_freeBay, floor_releaseStall]
  rw [hfloor]
  refine (Floor.keeps_release t).trans (Floor.keeps_drop fun a o ha => ⟨?_, Floor.stall_release_self ha⟩)
  rintro rfl
  exact Floor.release_not_waiting (floor_not_waiting hr hw) t o ha

theorem keeps_driveOff (b : Nat) : s.floor.Keeps c (s.driveOff b).floor := by
  unfold State.driveOff; dsimp only; split
  · exact .refl
  next t _ =>
    split
    next hstaged =>
      obtain ⟨r, hr, hst⟩ := (Option.any_eq_true _ _).mp hstaged
      have hst : r.state = .staged := by simpa using hst
      exact keeps_retireRecord (s := (s.modBay b _).raise .driveOff _) hr (by simp [hst])
    · exact .refl

/-- The stall goes before the record counts as STAGED (R4, R16). -/
theorem keeps_stagedOk (hr : s.record? t = some r) (hw : r.state ≠ .waiting) (b : Nat) :
    s.floor.Keeps c (s.stagedOk t b).floor := by
  have hbay : (s.inBay t b).floor = s.floor.enter t .staged := by
    simp [State.inBay, floor_setState]
  have hfloor : (s.stagedOk t b).floor = (s.floor.release t).enter t .staged := by
    rw [← Floor.release_enter, ← hbay, ← floor_releaseStall, stagedOk_eq hr]
    unfold State.stagedIn
    split <;> simp
  rw [hfloor]
  exact (Floor.keeps_release t).trans (Floor.keeps_enter (Floor.release_not_waiting (floor_not_waiting hr hw) t) (by decide)
    fun _ _ _ ha => Floor.stall_release_self ha)

/-! ### The wait list -/

theorem keeps_enterWaiting (hr : s.record? t = some r) (hw : r.state ≠ .waiting) (hstall : s.floor.Sound → r.stall = none)
    (hroom : s.waitListFull = false) : s.floor.Keeps c (s.enterWaiting t).floor := by
  rw [floor_enterWaiting]
  refine Floor.keeps_wait (fun hs => by rw [floor_place hr, hstall hs]) hw ?_
  exact Nat.lt_of_not_le (of_decide_eq_false hroom)

/-- The stall that allocation gives has no holder and no stray car (R43). -/
theorem allocate_held {grade : Nat} {need : Need} {tier : Nat} {y : StallId} {fallback : Bool}
    (h : s.allocate grade need tier = some (y, fallback)) : s.floor.held y = some (none, false) := by
  obtain ⟨x, hx, hholder, hstray⟩ := allocate_free h
  rw [show y = ⟨y.zone, y.index⟩ from rfl, floor_held hx, hholder, hstray]

theorem floor_grant (y : StallId) (fallback : Bool) :
    (s.grant r y fallback).floor = ((s.floor.leave r.ticket).enter r.ticket .granted).hold r.ticket y := by
  rw [← Floor.hold_enter, ← floor_leaveWaitList, ← floor_holdStall, ← floor_setState, grant_eq]
  simp [State.granting]

/-- A grant to a WAITING record (R11, R52). -/
theorem sound_grant (hs : s.floor.Sound) (hr : s.record? r.ticket = some r) (hst : r.state = .waiting) {y : StallId}
    (hy : s.floor.held y = some (none, false)) (fallback : Bool) : (s.grant r y fallback).floor.Sound := by
  have hnone : r.stall = none := hs.nostall (floor_place hr) (.inl hst)
  have hplace : ((s.floor.leave r.ticket).enter r.ticket .granted).place r.ticket = some (.granted, none) := by
    have := floor_place hr
    simp [Floor.enter, Floor.leave, this, hnone]
  rw [floor_grant]
  exact ((Floor.keeps_depart r.ticket (by decide) (by decide)).trans
    (Floor.keeps_hold (fun _ => hplace) (by decide) (by decide) fun _ => hy)).2 trivial hs

theorem bounded_grant (y : StallId) (fallback : Bool) (hs : s.floor.Bounded) : (s.grant r y fallback).floor.Bounded := by
  rw [floor_grant]
  exact ⟨hs.1, (List.length_filter_le _ _).trans hs.2⟩

/-- A pass over places of the wait list, each once: every record served is still WAITING when its turn comes (R51). -/
theorem sound_serveList (l : List Nat) (hnodup : l.Nodup) (hwait : ∀ t ∈ l, t ∈ s.sm.waitList) (hs : s.floor.Sound) :
    (s.serveList l).floor.Sound := by
  induction l generalizing s with
  | nil => exact hs
  | cons t ts ih =>
    obtain ⟨hnew, hnodup⟩ := List.nodup_cons.mp hnodup
    have hskip : (s.serveList ts).floor.Sound := ih hnodup (fun u hu => hwait u (List.mem_cons_of_mem t hu)) hs
    unfold State.serveList
    split
    · exact hs
    · split
      · exact hskip
      next r hr =>
        split
        · split
          next y fallback hfound =>
            have ht : r.ticket = t := record?_ticket s t r hr
            obtain ⟨o, ho⟩ := (hs.waiting t).mp (hwait t List.mem_cons_self)
            have hst : r.state = .waiting := by
              rw [floor_place hr] at ho
              exact congrArg Prod.fst (Option.some.inj ho)
            refine ih hnodup (fun u hu => ?_) (sound_grant hs (ht ▸ hr) hst (allocate_held hfound) fallback)
            have hne : u ≠ t := fun h => hnew (h ▸ hu)
            simp [ht, hne, hwait u (List.mem_cons_of_mem t hu)]
          · exact hskip
        · exact hskip

theorem keeps_servePass : s.floor.Keeps c s.servePass.floor :=
  ⟨fun hs => serveList_induction (P := fun q => q.floor.Bounded) hs fun _ _ y fallback _ _ hq => bounded_grant y fallback hq,
    fun _ hs => sound_serveList _ hs.nodup (fun _ => id) hs⟩

theorem keeps_finish : s.floor.Keeps c s.finish.floor := by
  have hstep : s.floor.Keeps c s.serveStep.floor := by
    unfold State.serveStep; split
    · exact keeps_servePass
    · exact .refl
  exact hstep.trans (.of_eq (floor_lookStep _))

/-! ### Zone reports and silence -/

theorem keeps_heldVacant (z i : Nat) (x : Stall) (t : Nat) : s.floor.Keeps c (s.heldVacant z i x t).floor := by
  unfold State.heldVacant; dsimp only
  generalize hq : s.modStall z i _ = q
  have hfloor : q.floor = s.floor := by rw [← hq]; simp
  rw [← hfloor]
  split
  · split
    · exact keeps_releaseStall t
    · exact keeps_stallEmpty t z
    · exact keeps_stallEmpty t z
    · exact .refl
  · exact .refl

theorem keeps_heldOccupied (z i t : Nat) : s.floor.Keeps c (s.heldOccupied z i t).floor := by
  unfold State.heldOccupied
  generalize hq : s.modStall z i _ = q
  have hfloor : q.floor = s.floor := by rw [← hq]; simp
  rw [← hfloor]
  exact keeps_parkConfirmed t

theorem keeps_freeVacant (z i : Nat) (x : Stall) : s.floor.Keeps c (s.freeVacant z i x).floor := by
  unfold State.freeVacant
  rw [floor_serveIf, floor_markStall s z i (b := false)]
  · exact Floor.keeps_mark false nofun
  · exact fun _ => rfl
  · exact fun _ => rfl

/-- Only a stall without a holder becomes stray (R65). -/
theorem keeps_freeOccupied {z i : Nat} {x : Stall} (hx : s.stall? z i = some x) (hholder : x.holder = none) :
    s.floor.Keeps c (s.freeOccupied z i x).floor := by
  unfold State.freeOccupied; dsimp only
  generalize hq : s.modStall z i _ = q
  have hfloor : q.floor = s.floor := by rw [← hq]; simp
  split
  · rw [floor_raise, floor_markStall q z i (b := true), hfloor]
    · refine Floor.keeps_mark true fun _ n m hn => ?_
      rw [floor_held hx, hholder] at hn
      exact (congrArg Prod.fst (Option.some.inj hn)).symm
    · exact fun _ => rfl
    · exact fun _ => rfl
  · exact .of_eq hfloor

theorem keeps_takeStall (z : Nat) (occupied : BitVec 96) (i : Nat) :
    s.floor.Keeps c (State.takeStall z occupied s i).floor := by
  unfold State.takeStall; split
  · exact .refl
  next x hx =>
    split
    · exact keeps_heldOccupied z i _
    · exact keeps_heldVacant z i x _
    next hholder _ => exact keeps_freeOccupied hx hholder
    · exact keeps_freeVacant z i x

theorem keeps_foldl {α : Type} (f : State → α → State) (hf : ∀ (p : State) a, p.floor.Keeps c (f p a).floor) (l : List α) :
    s.floor.Keeps c (l.foldl f s).floor := by
  induction l generalizing s with
  | nil => exact .refl
  | cons a l ih => exact (hf s a).trans ih

theorem keeps_takeReport (z : Nat) (occupied : BitVec 96) : s.floor.Keeps c (s.takeReport z occupied).floor :=
  (Floor.Keeps.of_eq (by simp [State.hearZone])).trans
    (keeps_foldl (s := s.hearZone z) _ (fun _ i => keeps_takeStall z occupied i) _)

theorem floor_silence (z : Nat) : (s.silence z).floor = s.floor := by
  unfold State.silence
  rw [floor_modZone _ _ _ fun x i => ?_]
  · simp
  · simp [Function.comp_def, Stall.resetRuns]

end Sys2Proof.Machine
end

section
/-! The commands' own operations keep the floor: calls, replies to an offer, the RESOLVE commands, ACCEPT, REPARK, the layout
and the restart. -/

namespace Sys2Proof.Machine

open Sys2Proof.Safety

variable {s : State} {c : Prop} {t : Nat} {r : Record}

/-! ### Calls and jobs -/

theorem keeps_leaveForCall (hr : s.record? r.ticket = some r) : s.floor.Keeps c (s.leaveForCall r).floor := by
  unfold State.leaveForCall
  split
  · rw [floor_setState, floor_leaveWaitList]
    exact Floor.keeps_depart r.ticket (by decide) (by decide)
  next hst =>
    rw [floor_setState, floor_releaseStall, floor_dropEntry]
    exact (Floor.keeps_release _).trans (Floor.keeps_enter
      (Floor.release_not_waiting (floor_not_waiting hr (by simp [hst])) _) (by decide) nofun)
  · exact .refl
  next hw _ _ => exact keeps_setState hr hw (by decide) (by decide)

theorem keeps_newCall (hr : s.record? r.ticket = some r) (x : CallField) : s.floor.Keeps c (s.newCall r x).floor := by
  refine (keeps_leaveForCall hr).trans (.of_eq ?_)
  rw [newCall_eq]
  simp [State.setCall]

theorem floor_upgradeCall (s : State) (t tier : Nat) : (s.upgradeCall t tier).floor = s.floor := by
  simp [State.upgradeCall]

theorem keeps_cancelCall (hr : s.record? r.ticket = some r)
    (hroom : r.state = .called → r.stall = none → s.waitListFull = false) : s.floor.Keeps c (s.cancelCall r).floor := by
  have hfloor : (s.uncall r.ticket).floor = s.floor := by simp [State.uncall]
  have hrec : (s.uncall r.ticket).record? r.ticket = some { r with call := none } := by simp [State.uncall, hr]
  by_cases hcalled : r.state = .called
  · have hw : r.state ≠ .waiting := by simp [hcalled]
    by_cases hstall : r.stall = none
    · have hlist : (s.uncall r.ticket).waitListFull = s.waitListFull := by simp [State.waitListFull, State.uncall]
      rw [cancelCall_waiting hcalled hstall, floor_serveDue, ← hfloor]
      exact keeps_enterWaiting hrec hw (fun _ => hstall) (hlist.trans (hroom hcalled hstall))
    · rw [cancelCall_stored hcalled hstall, ← hfloor]
      exact keeps_setState hrec hw (by decide) (by decide)
  · exact .of_eq (by rw [cancelCall_stays hcalled, hfloor])

theorem keeps_acked (hr : s.record? r.ticket = some r) (kind : JobKind) (a : Nat) :
    s.floor.Keeps c (s.acked r kind a).floor := by
  unfold State.acked
  split
  next hst =>
    simp only [floor_requestWindow, floor_modRecord, implies_true]
    exact keeps_setState hr (by simp [hst]) (by decide) (by decide)
  next hst =>
    simp only [floor_requestWindow, floor_modRecord, implies_true]
    exact keeps_setState hr (by simp [hst]) (by decide) (by decide)
  · exact .refl

theorem keeps_takeJob (hr : s.record? r.ticket = some r) (e : Entry) (a : Nat) :
    s.floor.Keeps c (s.takeJob r e a).floor :=
  keeps_acked (s := (s.modEntry r.ticket fun g => { g with status := .taken }).leaveIdle a e.kind.working) hr e.kind a

/-! ### The RESOLVE commands (R22, R23) -/

theorem keeps_resolvedStored (hr : s.record? t = some r) (hw : r.state ≠ .waiting) :
    s.floor.Keeps c ((s.setState t .stored).clearSuspension t).floor := by
  rw [floor_clearSuspension]
  exact keeps_setState hr hw (by decide) (by decide)

theorem keeps_resolvedWaiting (hr : s.record? t = some r) (hw : r.state ≠ .waiting) (hroom : s.waitListFull = false) :
    s.floor.Keeps c ((((s.releaseStall t).clearSuspension t).enterWaiting t).serveDue).floor := by
  rw [floor_serveDue, floor_enterWaiting, floor_clearSuspension, floor_releaseStall]
  exact (Floor.keeps_release t).trans (Floor.keeps_wait (fun _ => by simp [Floor.release, floor_place hr]) hw
    (Nat.lt_of_not_le (of_decide_eq_false hroom)))

theorem floor_placeInStray (y : StallId) (x : Stall) :
    (s.placeInStray r y x).floor = ((s.floor.release r.ticket).mark y false).hold r.ticket y := by
  have hmoved : ((((s.releaseStall r.ticket).holdStall r.ticket y).modStall y.zone y.index fun x =>
      { x with stray := false }).noteFallback r.ticket (r.need == .charger && x.attr != .charger)).floor =
      ((s.floor.release r.ticket).mark y false).hold r.ticket y := by
    rw [floor_noteFallback, floor_markStall _ y.zone y.index (b := false), floor_holdStall, floor_releaseStall, Floor.mark_hold]
    · exact fun _ => rfl
    · exact fun _ => rfl
  unfold State.placeInStray
  dsimp only
  split
  · simpa using hmoved
  · exact hmoved

/-- A stray stall has no holder, and takes the record (R66). -/
theorem keeps_resolvedMoveTo (hr : s.record? r.ticket = some r) (hst : r.state = .suspended) {z i : Nat} {x : Stall}
    (hx : s.stall? z i = some x) (hstray : x.stray = true) :
    s.floor.Keeps c
      ((((s.placeInStray r ⟨z, i⟩ x).setState r.ticket .stored).clearSuspension r.ticket).serveDue).floor := by
  rw [floor_serveDue, floor_clearSuspension, floor_setState, floor_placeInStray]
  have hplace : ((s.floor.release r.ticket).mark ⟨z, i⟩ false).place r.ticket = some (.suspended, none) := by
    simp [Floor.release, Floor.mark, floor_place hr, hst]
  have hplaced : (((s.floor.release r.ticket).mark ⟨z, i⟩ false).hold r.ticket ⟨z, i⟩).place r.ticket =
      some (.suspended, some ⟨z, i⟩) := by
    simp [Floor.hold, hplace]
  refine .of_sound id fun hs => ?_
  have hholder : x.holder = none := by
    cases hxt : x.holder with
    | none => rfl
    | some u =>
      have hheld := floor_held hx
      rw [hxt] at hheld
      obtain ⟨a, ha⟩ := hs.holder _ _ _ hheld
      exact (hs.unheld (floor_held hx) (.inr hstray) ha).elim
  have hheld : ((s.floor.release r.ticket).mark ⟨z, i⟩ false).held ⟨z, i⟩ = some (none, false) := by
    have := floor_held hx
    simp only [Floor.release, Floor.mark, this, hholder, Option.map_some, if_true]
    split <;> rfl
  refine ((Floor.keeps_release _).trans (Floor.keeps_mark false nofun)).trans
    ((Floor.keeps_hold (fun _ => hplace) (by decide) (by decide) fun _ => hheld).trans
      (Floor.keeps_enter (fun o => ?_) (by decide) nofun))
  rw [hplaced]
  simp

/-! ### Lanes (R130 to R132) -/

/-- A lane that keeps within four captures. -/
theorem buffersBounded_modLane (l : Nat) (f : Lane → Lane) (hf : ∀ x, x.fifo.length ≤ 4 → (f x).fifo.length ≤ 4)
    (h : BuffersBounded s) : BuffersBounded (s.modLane l f) := by
  refine ⟨h.1, fun x hx => ?_⟩
  obtain ⟨i, hi⟩ := List.mem_iff_getElem?.mp hx
  replace hi : (s.km.lanes.modify l f)[i]? = some x := hi
  rw [List.getElem?_modify] at hi
  obtain ⟨y, hy, rfl⟩ := Option.map_eq_some_iff.mp hi
  have hlen := h.2 y (List.mem_of_getElem? hy)
  split
  · exact hf y hlen
  · exact hlen

theorem keeps_modLane (l : Nat) (f : Lane → Lane) (hf : ∀ x, x.fifo.length ≤ 4 → (f x).fifo.length ≤ 4) :
    s.floor.Keeps c (s.modLane l f).floor :=
  Floor.keeps_fits (buffersBounded_modLane l f hf)

/-- A lane captures while it holds fewer than four (R130). -/
theorem keeps_laneLoop (l : Nat) (level : Bool) : s.floor.Keeps c (s.laneLoop l level).floor := by
  refine keeps_modLane l _ fun x hx => ?_
  dsimp only
  split
  next h =>
    have hroom : x.fifo.length < 4 := by
      simp only [Bool.and_eq_true, decide_eq_true_eq] at h
      exact h.2
    simp; omega
  · exact hx

theorem keeps_takeArrival (l : Option Nat) : s.floor.Keeps c (s.takeArrival l).floor := by
  cases l with
  | none => exact .refl
  | some l => exact keeps_modLane l _ fun x hx => by simp; omega

/-! ### ACCEPT and REPARK (R8, R18) -/

theorem find?_insertRecord_other (r : Record) (l : List Record) (u : Nat) (h : r.ticket ≠ u) :
    (insertRecord r l).find? (fun q => q.ticket == u) = l.find? fun q => q.ticket == u := by
  induction l with
  | nil => simp [insertRecord, h]
  | cons p ps ih =>
    unfold insertRecord
    split
    · simp [h]
    · simp [List.find?_cons, ih]

theorem floor_nextTicket (hlen : s.ct.records.length < 1024) : s.floor.place s.nextTicket = none := by
  have hfresh := (nextTicket_spec hlen).2.2
  have hnone : s.record? s.nextTicket = none := List.find?_eq_none.mpr fun q hq => by simpa using hfresh q hq
  show s.ct.place s.nextTicket = none
  rw [place_eq, hnone]; rfl

theorem floor_enrol (hlen : s.ct.records.length < 1024) (f : Arrival) (hook : Nat) (found : Bool) (sender : Option Nat) :
    (s.enrol f hook found sender).floor =
      (s.takeArrival f.lane).floor.add s.nextTicket (if found then .inbound else .waiting) := by
  have hct : (s.enrol f hook found sender).ct.records = insertRecord (s.newRecord f hook found sender) s.ct.records := by
    simp [State.enrol, State.addRecord]
  refine Floor.ext ?_ ?_ (funext fun u => ?_) ?_
  · exact propext (buffersBounded_congr (by simp [State.enrol]) (by simp [State.enrol]))
  · show (s.enrol f hook found sender).sm.waitList = (s.takeArrival f.lane).sm.waitList
    simp
  · show (s.enrol f hook found sender).ct.place u = if u = s.nextTicket then _ else (s.takeArrival f.lane).ct.place u
    rw [place_eq]
    by_cases hu : u = s.nextTicket
    · subst hu
      rw [record?_enrol s f hook found sender hlen, if_pos rfl]
      rfl
    · rw [if_neg hu, (State.takeArrival_frame s f.lane).1, place_eq, State.record?, hct,
        find?_insertRecord_other _ _ _ (show s.nextTicket ≠ u from Ne.symm hu)]
      rfl
  · exact heldBy_congr (by simp)

/-- A car accepted to a free stall or to the wait list (R7, R8). -/
theorem keeps_acceptCar (hlen : s.ct.records.length < 1024) (f : Arrival) (hook : Nat) (found : Option (StallId × Bool))
    (sender : Option Nat) (hheld : ∀ y b, found = some (y, b) → s.floor.held y = some (none, false))
    (hroom : found = none → s.waitListFull = false) : s.floor.Keeps c (s.acceptCar f hook found sender).floor := by
  have hplace : (s.takeArrival f.lane).floor.place s.nextTicket = none := by
    have := floor_nextTicket hlen
    cases f.lane <;> exact this
  have hsm : (s.takeArrival f.lane).sm = s.sm := (State.takeArrival_frame s f.lane).2.1
  refine (keeps_takeArrival f.lane).trans ?_
  cases found with
  | none =>
    rw [acceptCar_none, floor_joinWaitList, floor_enrol hlen]
    refine Floor.keeps_addWaiting hplace ?_
    show (s.takeArrival f.lane).sm.waitList.length < 24
    rw [hsm]
    exact Nat.lt_of_not_le (of_decide_eq_false (hroom rfl))
  | some p =>
    obtain ⟨y, fallback⟩ := p
    rw [acceptCar_some, floor_startParking, floor_noteFallback, floor_holdStall, floor_enrol hlen]
    refine (Floor.keeps_add hplace (by decide)).trans
      (Floor.keeps_hold (a := .inbound) (fun _ => by simp [Floor.add]) (by decide) (by decide) fun _ => ?_)
    show (s.takeArrival f.lane).heldBy y = _
    rw [heldBy_congr hsm]
    exact hheld y fallback rfl

/-- A STAGED car taken back to a free stall or to the wait list (R18). -/
theorem keeps_reparkCar (hr : s.record? r.ticket = some r) (hst : r.state = .staged) (a : Nat)
    (found : Option (StallId × Bool)) (hheld : ∀ y b, found = some (y, b) → s.floor.held y = some (none, false))
    (hroom : found = none → s.waitListFull = false) : s.floor.Keeps c (s.reparkCar r a found).floor := by
  have hfloor : (s.reparked r a).floor = s.floor := by
    unfold State.reparked
    rw [floor_reparkHook, floor_modRecord _ _ Record.leftBay (fun _ => rfl) (fun _ => rfl) (fun _ => rfl), floor_freeBay]
  have hrec : (s.reparked r a).record? r.ticket = some r.leftBay := record?_reparked hr
  have hplace (hs : s.floor.Sound) : s.floor.place r.ticket = some (.staged, none) := by
    have := floor_place hr
    rw [this, hst, hs.nostall this (.inr hst)]
  rw [← hfloor]
  cases found with
  | none =>
    have hlist : (s.reparked r a).waitListFull = s.waitListFull := by simp [State.waitListFull]
    rw [reparkCar_none]
    exact keeps_enterWaiting hrec (by simp [Record.leftBay, hst])
      (fun hs => congrArg Prod.snd (Option.some.inj ((floor_place hr).symm.trans (hplace (hfloor ▸ hs)))))
      (hlist.trans (hroom rfl))
  | some p =>
    obtain ⟨y, fallback⟩ := p
    have hinto : (s.reparkCar r a (some (y, fallback))).floor = (s.floor.enter r.ticket .inbound).hold r.ticket y := by
      rw [reparkCar_some, floor_startParking]
      simp [State.reparkedInto, floor_holdStall, floor_setState, hfloor]
    rw [hinto, hfloor]
    refine .of_sound id fun hs => ?_
    refine (Floor.keeps_enter (t := r.ticket) (b := .inbound) (fun o => by simp [hplace hs]) (by decide) nofun).trans
      (Floor.keeps_hold (a := .inbound) (fun _ => ?_) (by decide) (by decide) fun _ => hheld y fallback rfl)
    simp [Floor.enter, hplace hs]

/-! ### The layout (R174, R178) and the panels -/

theorem heldBy_modZone (z : Nat) (f : Zone → Zone)
    (hf : ∀ (x : Zone) (i : Nat) (st : Stall), (f x).stalls[i]? = some st → st.holder = none) (y : StallId) (u : Nat) (b : Bool)
    (h : (s.modZone z f).heldBy y = some (some u, b)) : s.heldBy y = some (some u, b) := by
  unfold State.heldBy State.stall? at h ⊢
  rw [zone_modZone] at h
  split at h
  · obtain ⟨x, hx, hxu⟩ := Option.map_eq_some_iff.mp h
    rw [hf _ _ x hx] at hxu
    cases hxu
  · exact h

/-- DEFINE ZONE takes away the stalls of the zone, in COMMISSIONING and so without records (R171, R174). -/
theorem keeps_defineZone (hnone : c → s.ct.records = []) (z n : Nat) : s.floor.Keeps c (s.defineZone z n).floor := by
  have hpair (q : State) : ((if z % 2 = 1 then q.modZone (z - 1) fun x => { x with paired := false } else q).setLink z
      ZoneLink.never).floor = q.floor := by
    rw [floor_setLink]; split
    · rw [floor_modZone]; exact fun _ _ => rfl
    · rfl
  unfold State.defineZone
  dsimp only
  rw [hpair]
  refine Floor.keeps_noRecords (fun hc t => ?_) (heldBy_modZone z _ fun x i st hst => ?_)
  · show (s.ct.records.find? _).map _ = none
    rw [hnone hc]; rfl
  · obtain ⟨-, rfl⟩ : i < n ∧ st = Stall.created := by
      simpa [Zone.created, List.getElem?_replicate, eq_comm] using hst
    rfl

theorem heldBy_powerOn {q : State} (hsm : q.sm = .powerOn) (y : StallId) : q.heldBy y = none := by
  have hzone : q.zone y.zone = Zone.absent := by
    unfold State.zone; rw [hsm]
    show (List.replicate 12 Zone.absent).getD y.zone Zone.absent = Zone.absent
    rw [List.getD_eq_getElem?_getD, List.getElem?_replicate]
    split <;> rfl
  unfold State.heldBy State.stall?
  rw [hzone]; rfl

/-- Empty buffers are within their bounds. -/
theorem buffersBounded_powerOn {q : State} {lanes bays : List Bool} (htx : q.lk.tx = [])
    (hkm : q.km = .powerOn lanes bays) : BuffersBounded q := by
  refine ⟨by simp [htx], fun l hl => ?_⟩
  rw [hkm] at hl
  obtain ⟨b, -, rfl⟩ := List.mem_map.mp hl
  exact Nat.zero_le _

/-- The stall map at power-on, and no records: CLEAR SITE and POWER_ON. -/
theorem keeps_powerOn {q : State} {lanes bays : List Bool} (hct : q.ct.records = []) (hsm : q.sm = .powerOn)
    (htx : q.lk.tx = []) (hkm : q.km = .powerOn lanes bays) : s.floor.Keeps c q.floor := by
  refine Floor.keeps_empty (fun _ => buffersBounded_powerOn htx hkm) (congrArg StallMap.waitList hsm) (fun t => ?_)
    fun y t b h => ?_
  · show (q.ct.records.find? _).map _ = none
    rw [hct]; rfl
  · have hnone : q.heldBy y = none := heldBy_powerOn hsm y
    cases hnone.symm.trans h

theorem floor_setPanelService (s : State) (p : Nat) (b : Bool) : (s.setPanelService p b).floor = s.floor := by
  refine (floor_foldl _ _ (fun q i => ?_) _).trans (floor_modPanel s p _)
  split
  · rfl
  · split
    · rfl
    · exact floor_sendLatch _ _ _

theorem floor_regrade (s : State) (n g : Nat) : (s.regrade n g).floor = s.floor :=
  floor_foldl _ _ (fun _ _ => floor_compareGrade _ _) _

/-! ### Seconds and restarts (R180, R184) -/

theorem floor_tickSecond (s : State) : s.tickSecond.floor = s.floor := by
  refine floor_ext Iff.rfl rfl (fun t => ?_) fun y => rfl
  show ((s.ct.records.map _).find? _).map _ = (s.ct.records.find? _).map _
  rw [List.find?_map, Option.map_map]
  rfl

theorem floor_beginRecovery (s : State) : s.beginRecovery.floor = s.floor := by
  unfold State.beginRecovery
  split
  · rfl
  · split <;> rfl

theorem floor_heardInRecovery (s : State) (z : Nat) : (s.heardInRecovery z).floor = s.floor := by
  unfold State.heardInRecovery; split
  · rfl
  · dsimp only; split <;> rfl

/-- The state that a restart gives a record of the table (R25). -/
def State.reconciledState (s : State) (t : Nat) (a : RecordState) : RecordState :=
  ((s.record? t).map fun r => (s.reconciled r).state).getD a

theorem buffersBounded_volatileReset (s : State) : BuffersBounded s.volatileReset := by
  refine ⟨Nat.zero_le _, fun l hl => ?_⟩
  obtain ⟨i, h, rfl⟩ := List.mem_mapIdx.mp hl
  exact Nat.zero_le _

theorem heldBy_volatileReset (s : State) (y : StallId) : s.volatileReset.heldBy y = s.heldBy y := by
  have hzone : (s.volatileReset.zone y.zone).stalls = (s.zone y.zone).stalls.map Stall.restart := by
    unfold State.zone
    show (((s.sm.zones.map fun z => { z with stalls := z.stalls.map Stall.restart }).getD y.zone Zone.absent)).stalls = _
    simp only [List.getD_eq_getElem?_getD, List.getElem?_map]
    cases s.sm.zones[y.zone]? <;> rfl
  unfold State.heldBy State.stall?
  rw [hzone, List.getElem?_map, Option.map_map]
  rfl

/-- A restart changes states of records, and empties the buffers; holders stay (R67, R184). -/
theorem floor_restarted (s : State) :
    s.restarted.floor = { s.floor.recast s.reconciledState with fits := BuffersBounded s.volatileReset } := by
  refine Floor.ext ?_ restarted_waitList (funext fun t => ?_) (funext fun y => ?_)
  · rw [State.restarted, floor_beginRecovery]; rfl
  · show s.restarted.ct.place t = (s.ct.place t).map _
    rw [place_eq, place_eq, record?_restarted, Option.map_map, Option.map_map]
    cases hr : s.record? t with
    | none => rfl
    | some r => simp [State.reconciledState, hr, State.reconciled, Record.reconcile_keeps]
  · exact (congrFun (heldBy_congr (beginRecovery_ct_sm _).2) y).trans (heldBy_volatileReset s y)

/-- A restart moves records between CALLED, FETCHING, INBOUND, GRANTED and SUSPENDED only (R25). -/
theorem reconcile_state (limit : Nat) (out : Bool) (holder : Option Nat) (moved : Bool) (r : Record) :
    ((r.reconcile limit out holder moved).state = .waiting ↔ r.state = .waiting) ∧
      ((r.reconcile limit out holder moved).state = .staged → r.state = .staged) := by
  by_cases hfetch : r.state = .fetching
  · cases out
    · simp [Record.reconcile_fetching_home hfetch, hfetch, Record.freed]
    · simp [Record.reconcile_fetching_out hfetch, hfetch]
  · by_cases hin : r.state = .inbound
    · by_cases hmove : (moved && !out) = true
      · obtain ⟨rfl, hout⟩ := Bool.and_eq_true_iff.mp hmove
        obtain rfl : out = false := by simpa using hout
        simp [Record.reconcile_move_home hin, hin, Record.freed]
      · simp [Record.reconcile_inbound hin (Bool.not_eq_true _ ▸ hmove), hin, Record.freed]
    · simp [Record.reconcile_rest hfetch hin]

theorem keeps_warmRestart : s.floor.Keeps c s.warmRestart.floor := by
  have hrestart : s.floor.Keeps c s.restarted.floor := by
    rw [floor_restarted]
    refine (Floor.keeps_recast s.reconciledState fun t a o ha => ?_).trans
      (Floor.keeps_fits fun _ => buffersBounded_volatileReset s)
    obtain ⟨r, hr, hra⟩ := Option.map_eq_some_iff.mp ((place_eq s t).symm.trans ha)
    obtain ⟨rfl, -⟩ := Prod.mk.inj hra
    have hstate : s.reconciledState t r.state = (s.reconciled r).state := by simp [State.reconciledState, hr]
    obtain ⟨hw, hst⟩ := reconcile_state s.ct.parkLimit (s.volatileReset.hookState? r == some .out)
      (s.volatileReset.keyHolder r) (s.jq.entries.any fun e => e.ticket == r.ticket && e.kind == .move) r
    rw [hstate]
    exact ⟨hw, fun h => .inl (hst h)⟩
  have hpass : s.floor.Keeps c (if restartServes s s.restarted then s.restarted.servePass else s.restarted).floor := by
    split
    · exact hrestart.trans keeps_servePass
    · exact hrestart
  exact hpass

end Sys2Proof.Machine
end

section
/-! Every command keeps the floor: first the ports and the events in general, then the commands, each by the operation that is
its effect. -/

namespace Sys2Proof.Machine

open Sys2Proof.Safety

/-! ### Plans, ports and events -/

/-- The state an outcome answers, if any, keeps the floor of `s`. -/
def FloorKept (s : State) (o : Host.Outcome State Fault Refusal) : Prop :=
  ∀ t, o = .next t → s.floor.Keeps (CommissioningEmpty s) t.floor

/-- The plan's effect keeps the floor of a state with the records and the stalls of `s`. -/
def Plan.KeepsFloor (p : Plan) (s : State) : Prop :=
  ∀ q : State, q.ct = s.ct → q.sm = s.sm → q.floor.Keeps (CommissioningEmpty s) (p.effect q).floor

variable {s : State}

theorem floorKept_next {t : State} (h : s.floor.Keeps (CommissioningEmpty s) t.floor) : FloorKept s (.next t) := by
  intro q hq; cases hq; exact h

theorem floorKept_same {t : State} (h : t.floor = s.floor) : FloorKept s (.next t) := floorKept_next (.of_eq h)

@[simp] theorem keepsFloor_refuse (a : Answer) : (refuse a).KeepsFloor s := fun _ _ _ => .refl

@[simp] theorem keepsFloor_refuseWith (blank : List Value) (a : Answer) : (refuseWith blank a).KeepsFloor s :=
  fun _ _ _ => .refl

@[simp] theorem keepsFloor_report (fields : List Value) : (report fields).KeepsFloor s := fun _ _ _ => .refl

theorem keepsFloor_of_same {p : Plan} (h : ∀ q, (p.effect q).floor = q.floor) : p.KeepsFloor s :=
  fun q _ _ => .of_eq (h q)

@[simp] theorem keepsFloor_done_same (f : State → State) (h : ∀ q, (f q).floor = q.floor) : (done f).KeepsFloor s :=
  keepsFloor_of_same h

@[simp] theorem keepsFloor_ite (c : Prop) [Decidable c] (p q : Plan) :
    (if c then p else q).KeepsFloor s ↔ (c → p.KeepsFloor s) ∧ (¬c → q.KeepsFloor s) := by
  split <;> simp_all

@[simp] theorem keepsFloor_ranged (lo hi v : Nat) (f : State → State) (h : ∀ q, (f q).floor = q.floor) :
    (ranged lo hi v f).KeepsFloor s := by
  simp [ranged, h]

@[simp] theorem keepsFloor_layoutCommand (p : Plan) :
    (s.layoutCommand p).KeepsFloor s ↔ (s.sa.state = .commissioning → p.KeepsFloor s) := by
  simp [State.layoutCommand, Service.frozen]

@[simp] theorem keepsFloor_onZone (z : Nat) (p : Plan) :
    (s.onZone z p).KeepsFloor s ↔ ((s.zone z).inLayout = true → p.KeepsFloor s) := by
  simp [State.onZone]

theorem keepsFloor_onStall (z i : Nat) (own : Stall → Plan) (h : ∀ st, (own st).KeepsFloor s) :
    (s.onStall z i own).KeepsFloor s := by
  unfold State.onStall; split
  · simp
  · exact h _

@[simp] theorem keepsFloor_onBay (b : Nat) (own : Bay → Plan) (h : ∀ x, (own x).KeepsFloor s) :
    (s.onBay b own).KeepsFloor s := by
  simp [State.onBay, h]

/-- The record that a desk command names is the one its own plan is given (R26). -/
theorem keepsFloor_deskRecord {own : Record → Plan} (t e : Nat) (ok : Bool)
    (h : ∀ r, s.record? t = some r → (own r).KeepsFloor s) : (s.deskRecord t e ok own).KeepsFloor s := by
  unfold State.deskRecord
  split
  · simp
  · split
    · simp
    · split
      · simp
      next r hr => simp [h r hr]

theorem keepsFloor_boundSender {own : Nat → Plan} (hs : Handset) (blank : List Value)
    (h : ∀ a, (own a).KeepsFloor s) : (s.boundSender hs blank own).KeepsFloor s := by
  unfold State.boundSender; split <;> simp [h]

theorem keepsFloor_fromSender {own : Nat → Plan} (hs : Handset) (blank : List Value)
    (h : ∀ a, (own a).KeepsFloor s) : (s.fromSender hs blank own).KeepsFloor s :=
  keepsFloor_boundSender hs blank fun a => by simp [h]

/-- The record that a handset message names is the one its own plan is given (R127). -/
theorem keepsFloor_handsetRecord {own : Record → Plan} (t : Nat) (ok : Bool) (blank : List Value)
    (h : ∀ r, s.record? t = some r → (own r).KeepsFloor s) : (s.handsetRecord t ok blank own).KeepsFloor s := by
  unfold State.handsetRecord
  split
  · simp
  · split
    · simp
    next r hr => exact h r hr

theorem keepsFloor_actingOnly {p : Plan} (a : Nat) (r : Record) (h : p.KeepsFloor s) :
    (s.actingOnly a r p).KeepsFloor s := by
  simp [State.actingOnly, h]

theorem floorKept_deskCommand {plan : State → Plan} (req code : Nat) (hp : (plan s).KeepsFloor s) :
    FloorKept s (deskCommand req code plan s) := by
  refine floorKept_next ?_
  split
  · exact (hp s.begin rfl rfl).trans keeps_finish
  · exact .refl

theorem floorKept_handsetMessage {plan : State → Plan} (hs : Handset) (kind : Nat) (ticket : Option Nat)
    (hp : (plan s).KeepsFloor s) : FloorKept s (handsetMessage hs kind ticket plan s) := by
  refine floorKept_next ?_
  split
  · generalize hq : s.begin.sendResult hs kind (plan s).answer (ticket <|> (plan s).issued) (plan s).fields = q
    have hfloor : q.floor = s.floor := by rw [← hq]; exact floor_pushFrame _ _
    rw [← hfloor]
    exact (hp q (by simp [← hq, State.sendResult]) (by simp [← hq, State.sendResult])).trans keeps_finish
  · exact .refl

theorem floorKept_handsetTicket {own : State → Nat → Record → Plan} (hs : Handset) (kind t : Nat)
    (hp : ∀ a r, s.record? t = some r → (own s a r).KeepsFloor s) : FloorKept s (handsetTicket hs kind t own s) :=
  floorKept_handsetMessage hs kind (some t)
    (keepsFloor_fromSender hs [] fun a => keepsFloor_handsetRecord t true [] fun r hr => hp a r hr)

theorem floorKept_event {occurs : State → Bool} {f : State → State}
    (hf : ∀ q : State, q.floor.Keeps (CommissioningEmpty s) (f q).floor) : FloorKept s (event occurs f s) := by
  refine floorKept_next ?_
  split
  · exact (hf s.begin).trans keeps_finish
  · exact .refl

theorem floorKept_event_same {occurs : State → Bool} {f : State → State} (hf : ∀ q : State, (f q).floor = q.floor) :
    FloorKept s (event occurs f s) :=
  floorKept_event fun q => .of_eq (hf q)

/-! ### Plans of single commands -/

section

variable {q : State} {t : Nat} {r : Record}

/-- A record that the command looked up stands in the state its effect takes, under its own ticket. -/
theorem record?_taken (hq : q.ct = s.ct) (hr : s.record? t = some r) : q.record? r.ticket = some r := by
  rw [record?_congr hq, record?_ticket s t r hr, hr]

theorem waitListFull_taken (hq : q.sm = s.sm) (h : ¬s.waitListFull = true) : q.waitListFull = false := by
  unfold State.waitListFull at h ⊢
  rw [hq]; simpa using h

theorem allocate_taken (hq : q.sm = s.sm) {grade tier : Nat} {need : Need} (y : StallId) (b : Bool)
    (h : s.allocate grade need tier = some (y, b)) : q.floor.held y = some (none, false) :=
  (congrFun (heldBy_congr hq) y).trans (allocate_held h)

end

theorem keepsFloor_callPlan {t : Nat} (tier : Option Nat) (due : Option Time) (source : Source) {r : Record}
    (hr : s.record? t = some r) : (s.callPlan tier due source r).KeepsFloor s := by
  have hnew (x : CallField) : (done fun q => q.newCall r x).KeepsFloor s := fun q hq _ => keeps_newCall (record?_taken hq hr) x
  unfold State.callPlan; dsimp only
  split
  · simp
  · split
    · split
      · exact hnew _
      · split
        · simp
        · simp [floor_upgradeCall]
    · simp [hnew]

theorem keepsFloor_cancelPlan {t : Nat} {r : Record} (hr : s.record? t = some r) : (s.cancelPlan r).KeepsFloor s := by
  unfold State.cancelPlan
  split
  · simp
  · simp only [keepsFloor_ite, keepsFloor_refuse, implies_true, true_and]
    intro _ _ hroom q hct hsm
    exact keeps_cancelCall (record?_taken hct hr) fun hcalled hstall =>
      waitListFull_taken hsm fun hfull => hroom ⟨hcalled, hstall, hfull⟩

theorem keepsFloor_retire {t : Nat} {r : Record} (hr : s.record? t = some r) (hw : r.state ≠ .waiting) :
    (done fun q => q.retireRecord r.ticket).KeepsFloor s :=
  fun _ hq _ => keeps_retireRecord (record?_taken hq hr) hw

theorem keepsFloor_handoverPlan {t : Nat} {r : Record} (hr : s.record? t = some r) : (handoverPlan r).KeepsFloor s := by
  unfold handoverPlan
  split
  next hst => exact keepsFloor_retire hr (by simp [hst])
  · simp

/-- ACCEPT finds a free stall or room on the wait list (R7). -/
theorem keepsFloor_acceptPlan (sender : Option Nat) (fields : Option Arrival)
    (returns : Option (Nat × Nat × Nat) → Option StallId → List Value) :
    (s.acceptPlan sender fields returns).KeepsFloor s := by
  unfold State.acceptPlan; dsimp only
  split
  · simp
  split
  · simp
  next f =>
  split
  · simp
  next hlen =>
  split
  · simp
  next hook _ =>
  split
  · simp
  next hfound =>
    intro q hct hsm
    refine keeps_acceptCar ?_ f hook _ sender (allocate_taken hsm) fun hnone => waitListFull_taken hsm fun hfull => ?_
    · rw [hct]; exact Nat.lt_of_not_le hlen
    · exact hfound (by rw [hnone, hfull]; rfl)

theorem keepsFloor_ackPlan {t : Nat} (a : Nat) {r : Record} (hr : s.record? t = some r) : (s.ackPlan a r).KeepsFloor s := by
  unfold State.ackPlan
  split
  · simp
  next e _ =>
    split
    · simp
    · split
      · exact fun q hq _ => keeps_takeJob (record?_taken hq hr) e a
      · simp
    · simp

theorem keepsFloor_declinePlan (a : Nat) (r : Record) : (s.declinePlan a r).KeepsFloor s := by
  unfold State.declinePlan
  split
  · simp
  · split <;> simp

theorem keepsFloor_keyAgainPlan (a : Nat) (r : Record) : (s.keyAgainPlan a r).KeepsFloor s := by
  unfold State.keyAgainPlan; split <;> simp

/-- REPARK finds a free stall or room on the wait list (R18). -/
theorem keepsFloor_reparkPlan {t : Nat} (a : Nat) {r : Record} (hr : s.record? t = some r) :
    (s.reparkPlan a r).KeepsFloor s := by
  unfold State.reparkPlan; dsimp only
  split
  · exact keepsFloor_refuseWith _ _
  split
  · exact keepsFloor_refuseWith _ _
  next hstate =>
  split
  · exact keepsFloor_refuseWith _ _
  split
  · exact keepsFloor_refuseWith _ _
  next hfound =>
    intro q hct hsm
    have hst : r.state = .staged := not_not.mp fun h => hstate (.inl h)
    refine keeps_reparkCar (record?_taken hct hr) hst a _ (allocate_taken hsm) fun hnone =>
      waitListFull_taken hsm fun hfull => hfound ?_
    rw [hnone, hfull]; rfl

/-! ### Commands of the record table -/

theorem floorKept_execAccept (port : Port) (grade need tier : Nat) (plate : PlateField) (folio : OptWord) (lane : Nat) :
    FloorKept s (execAccept port grade need tier plate folio lane s) := by
  unfold execAccept
  cases port with
  | desk req =>
    refine floorKept_deskCommand _ _ ?_
    exact keepsFloor_acceptPlan _ _ _
  | handset hs =>
    refine floorKept_handsetMessage _ _ _ ?_
    exact keepsFloor_boundSender _ _ fun a => by simp [keepsFloor_acceptPlan]

theorem floorKept_execHandover (port : Port) (t e : Nat) : FloorKept s (execHandover port t e s) := by
  unfold execHandover
  cases port with
  | desk req =>
    refine floorKept_deskCommand _ _ ?_
    exact keepsFloor_deskRecord _ _ _ fun r hr => keepsFloor_handoverPlan hr
  | handset hs => exact floorKept_handsetTicket _ _ _ fun _ r hr => keepsFloor_handoverPlan hr

theorem floorKept_execHold (req t e : Nat) : FloorKept s (execHold req t e s) := by
  refine floorKept_deskCommand _ _ (keepsFloor_deskRecord _ _ _ fun r hr => ?_)
  split
  · simp
  · simp
  · exact fun q _ _ => keeps_suspend t _

theorem floorKept_execRetire (req t e : Nat) : FloorKept s (execRetire req t e s) := by
  refine floorKept_deskCommand _ _ (keepsFloor_deskRecord _ _ _ fun r hr => ?_)
  split
  next hst =>
    have ht : r.ticket = t := record?_ticket s t r hr
    exact ht ▸ keepsFloor_retire hr (by simp [hst])
  · simp

theorem floorKept_execResolveStored (req t e : Nat) : FloorKept s (execResolveStored req t e s) := by
  refine floorKept_deskCommand _ _ (keepsFloor_deskRecord _ _ _ fun r hr => ?_)
  simp only [keepsFloor_ite, keepsFloor_refuse, implies_true, true_and]
  intro hst _ _ q hct _
  exact keeps_resolvedStored ((congrFun (record?_congr hct) t).trans hr) (by simp [not_not.mp hst])

theorem floorKept_execResolveMoveTo (req t z i e : Nat) : FloorKept s (execResolveMoveTo req t z i e s) := by
  refine floorKept_deskCommand _ _ (keepsFloor_deskRecord _ _ _ fun r hr => ?_)
  obtain rfl : r.ticket = t := record?_ticket s t r hr
  split
  · simp
  next hst =>
    split
    · simp
    next x hx =>
      simp only [keepsFloor_ite, keepsFloor_refuse, implies_true, true_and]
      intro hstray _ q hct hsm
      exact keeps_resolvedMoveTo (record?_taken hct hr) (not_not.mp hst)
        ((congrFun (congrFun (stall?_congr hsm) z) i).trans hx) (by simpa using hstray)

theorem floorKept_execResolveWaiting (req t e : Nat) : FloorKept s (execResolveWaiting req t e s) := by
  refine floorKept_deskCommand _ _ (keepsFloor_deskRecord _ _ _ fun r hr => ?_)
  simp only [keepsFloor_ite, keepsFloor_refuse, implies_true, true_and]
  intro hst hroom _ q hct hsm
  exact keeps_resolvedWaiting ((congrFun (record?_congr hct) t).trans hr) (by simp [not_not.mp hst])
    (waitListFull_taken hsm hroom)

theorem floorKept_execGetRecord (req t e : Nat) : FloorKept s (execGetRecord req t e s) :=
  floorKept_deskCommand _ _ (keepsFloor_deskRecord _ _ _ fun _ _ => keepsFloor_report _)

theorem floorKept_execAmend (req t : Nat) (plate : Option PlateField) (folio : Option OptWord) (e : Nat) :
    FloorKept s (execAmend req t plate folio e s) :=
  floorKept_deskCommand _ _ (keepsFloor_deskRecord _ _ _ fun _ _ => by simp)

theorem floorKept_execFindPlate (req : Nat) (plate : PlateField) (start : Nat) :
    FloorKept s (execFindPlate req plate start s) :=
  floorKept_deskCommand _ _ (by split <;> simp)

theorem floorKept_execFindFolio (req : Nat) (folio : OptWord) (start : Nat) :
    FloorKept s (execFindFolio req folio start s) :=
  floorKept_deskCommand _ _ (by split <;> simp)

theorem floorKept_execList (req start filter : Nat) : FloorKept s (execList req start filter s) := by
  refine floorKept_deskCommand _ _ ?_
  split
  · exact keepsFloor_of_same fun _ => rfl
  · simp

/-! ### Calls and handset messages -/

theorem floorKept_execCall (port : Port) (t tier : Nat) (due : OptWord) (e : Nat) :
    FloorKept s (execCall port t tier due e s) := by
  unfold execCall
  cases port with
  | desk req =>
    refine floorKept_deskCommand _ _ ?_
    exact keepsFloor_deskRecord _ _ _ fun r hr => keepsFloor_callPlan _ _ _ hr
  | handset hs =>
    refine floorKept_handsetMessage _ _ _ ?_
    exact keepsFloor_fromSender _ _ fun a => keepsFloor_handsetRecord _ _ _ fun r hr =>
      keepsFloor_actingOnly a r (keepsFloor_callPlan _ _ _ hr)

theorem floorKept_execCancelCall (port : Port) (t e : Nat) : FloorKept s (execCancelCall port t e s) := by
  unfold execCancelCall
  cases port with
  | desk req =>
    refine floorKept_deskCommand _ _ ?_
    exact keepsFloor_deskRecord _ _ _ fun r hr => keepsFloor_cancelPlan hr
  | handset hs =>
    exact floorKept_handsetTicket _ _ _ fun a r hr => keepsFloor_actingOnly a r (keepsFloor_cancelPlan hr)

theorem floorKept_execSignOn (hs : Handset) (n : Nat) : FloorKept s (execSignOn hs n s) := by
  refine floorKept_handsetMessage _ _ _ ?_
  rw [keepsFloor_ite]
  refine ⟨by simp, fun _ => ?_⟩
  unfold State.signOnPlan
  simp only [keepsFloor_ite, keepsFloor_refuse, implies_true, true_and]
  exact fun _ _ _ => keepsFloor_of_same fun q => by simp

/-- SIGN_OFF, BREAK and READY write the roster alone. -/
theorem floorKept_execSignOff (hs : Handset) : FloorKept s (execSignOff hs s) := by
  refine floorKept_handsetMessage _ _ _ (keepsFloor_fromSender _ _ fun a => ?_)
  split <;> simp [State.signOff]

theorem floorKept_execTakeBreak (hs : Handset) : FloorKept s (execTakeBreak hs s) := by
  refine floorKept_handsetMessage _ _ _ (keepsFloor_fromSender _ _ fun a => ?_)
  split <;> simp

theorem floorKept_execReady (hs : Handset) : FloorKept s (execReady hs s) := by
  refine floorKept_handsetMessage _ _ _ (keepsFloor_fromSender _ _ fun a => ?_)
  split <;> simp

theorem floorKept_execParked (hs : Handset) (t : Nat) : FloorKept s (execParked hs t s) := by
  refine floorKept_handsetTicket _ _ _ fun a r hr => keepsFloor_actingOnly a r ?_
  simp only [keepsFloor_ite, keepsFloor_refuse, implies_true, true_and]
  intro hst _ q hct _
  exact keeps_setMarks ((congrFun (record?_congr hct) t).trans hr) (by simp [not_not.mp hst]) _ _

theorem floorKept_execAck (hs : Handset) (t : Nat) : FloorKept s (execAck hs t s) :=
  floorKept_handsetTicket _ _ _ fun a _ hr => keepsFloor_ackPlan a hr

theorem floorKept_execDecline (hs : Handset) (t : Nat) : FloorKept s (execDecline hs t s) :=
  floorKept_handsetTicket _ _ _ fun a r _ => keepsFloor_declinePlan a r

theorem floorKept_execAbandon (hs : Handset) (t : Nat) : FloorKept s (execAbandon hs t s) := by
  refine floorKept_handsetTicket _ _ _ fun a r hr => keepsFloor_actingOnly a r ?_
  simp only [keepsFloor_ite, keepsFloor_refuse, implies_true, true_and]
  intro hst _ q hct _
  exact keeps_undoJob ((congrFun (record?_congr hct) t).trans hr) (by simp [not_not.mp hst]) (by decide) (by decide)

theorem floorKept_execKeyAgain (hs : Handset) (t : Nat) : FloorKept s (execKeyAgain hs t s) :=
  floorKept_handsetTicket _ _ _ fun a r _ => keepsFloor_keyAgainPlan a r

theorem floorKept_execStaged (hs : Handset) (t b : Nat) : FloorKept s (execStaged hs t b s) := by
  refine floorKept_handsetMessage _ _ _ (keepsFloor_fromSender _ _ fun a => keepsFloor_handsetRecord _ _ _ fun r hr =>
    keepsFloor_actingOnly a r ?_)
  simp only [keepsFloor_ite, keepsFloor_refuse, implies_true, true_and]
  intro _ hst _ q hct _
  exact keeps_stagedOk ((congrFun (record?_congr hct) t).trans hr) (by simp [not_not.mp hst]) b

theorem floorKept_execRepark (hs : Handset) (t : Nat) : FloorKept s (execRepark hs t s) :=
  floorKept_handsetMessage _ _ _ (keepsFloor_fromSender _ _ fun a => keepsFloor_handsetRecord _ _ _ fun _ hr =>
    keepsFloor_reparkPlan a hr)

theorem floorKept_execHandsetUnknownKind (hs : Handset) (kind : Nat) : FloorKept s (execHandsetUnknownKind hs kind s) := by
  unfold execHandsetUnknownKind
  split
  · exact floorKept_same rfl
  · exact floorKept_handsetMessage _ _ _ (by simp)

/-- A frame sent leaves the buffer shorter (R155). -/
theorem floorKept_execHandsetFrameSent : FloorKept s (execHandsetFrameSent s) := by
  refine floorKept_event fun q => Floor.keeps_fits fun h => ⟨?_, h.2⟩
  have htx : q.lk.tx.length ≤ 64 := h.1
  show q.lk.tx.tail.length ≤ 64
  simp; omega

/-! ### Stalls, layout and settings -/

theorem floorKept_execSetZoneFlags (req z night spill : Nat) : FloorKept s (execSetZoneFlags req z night spill s) :=
  floorKept_deskCommand _ _ (by split <;> simp)

theorem floorKept_execSetWithdrawal (req z on : Nat) : FloorKept s (execSetWithdrawal req z on s) :=
  floorKept_deskCommand _ _ (by split <;> simp)

theorem floorKept_execSetPreference (req tier count : Nat) (zones : List Nat) :
    FloorKept s (execSetPreference req tier count zones s) := by
  refine floorKept_deskCommand _ _ ?_
  split
  · exact keepsFloor_of_same fun _ => rfl
  · simp

theorem floorKept_execReadHook (req h : Nat) : FloorKept s (execReadHook req h s) :=
  floorKept_deskCommand _ _ (by rw [keepsFloor_ite]; refine ⟨by simp, fun _ => ?_⟩; split <;> simp)

theorem floorKept_execReadQueue (req start : Nat) : FloorKept s (execReadQueue req start s) :=
  floorKept_deskCommand _ _ (by split <;> simp)

theorem floorKept_execSetBayFlags (req b night : Nat) : FloorKept s (execSetBayFlags req b night s) :=
  floorKept_deskCommand _ _ (by split <;> simp [State.setBay])

theorem floorKept_execClearLane (req l : Nat) : FloorKept s (execClearLane req l s) := by
  refine floorKept_deskCommand _ _ ?_
  simp only [keepsFloor_ite, keepsFloor_refuse, implies_true, true_and]
  exact fun _ _ q _ _ => keeps_modLane l _ fun _ _ => Nat.zero_le _

theorem floorKept_execCaptureSite (req : Nat) (site0 site1 : Bool) : FloorKept s (execCaptureSite req site0 site1 s) := by
  refine floorKept_deskCommand _ _ ?_
  split
  · exact keepsFloor_of_same fun _ => rfl
  · exact keepsFloor_of_same fun _ => rfl

theorem floorKept_execSetAttentionEnables (req enables master : Nat) :
    FloorKept s (execSetAttentionEnables req enables master s) := by
  refine floorKept_deskCommand _ _ ?_
  split
  · simp
  · rw [keepsFloor_ite]
    exact ⟨fun _ => keepsFloor_of_same fun _ => rfl, fun _ => keepsFloor_refuse _⟩

theorem floorKept_execDefineZone (req z n : Nat) : FloorKept s (execDefineZone req z n s) := by
  refine floorKept_deskCommand _ _ ?_
  rw [keepsFloor_layoutCommand, keepsFloor_ite]
  refine fun hstate => ⟨fun _ => keepsFloor_refuse _, fun _ q hct _ => ?_⟩
  exact keeps_defineZone (fun hempty => by rw [hct]; exact hempty hstate) z n

theorem floorKept_execSetLeadTime (req z v : Nat) : FloorKept s (execSetLeadTime req z v s) := by
  refine floorKept_deskCommand _ _ ?_
  rw [keepsFloor_ite]
  exact ⟨fun _ => keepsFloor_refuse _, fun _ => keepsFloor_of_same fun _ => floor_lookIf _ _⟩

theorem floorKept_execClearAttention (req causes : Nat) : FloorKept s (execClearAttention req causes s) := by
  refine floorKept_deskCommand _ _ ?_
  simp only [keepsFloor_ite, keepsFloor_refuse, implies_true, true_and, and_true]
  exact fun _ _ => keepsFloor_of_same fun _ => rfl

theorem floorKept_execDefineBays (req bays : Nat) : FloorKept s (execDefineBays req bays s) := by
  refine floorKept_deskCommand _ _ ?_
  rw [keepsFloor_layoutCommand, keepsFloor_ite]
  exact fun _ => ⟨fun _ => keepsFloor_refuse _, fun _ => keepsFloor_of_same fun _ => rfl⟩

theorem floorKept_execFreezeLayout (req : Nat) : FloorKept s (execFreezeLayout req s) := by
  refine floorKept_deskCommand _ _ ?_
  rw [keepsFloor_ite]
  exact ⟨fun _ => keepsFloor_refuse _, fun _ => keepsFloor_of_same fun _ => rfl⟩

theorem floorKept_execDefineFixedStall (req z i attr grade : Nat) :
    FloorKept s (execDefineFixedStall req z i attr grade s) := by
  refine floorKept_deskCommand _ _ ?_
  rw [keepsFloor_layoutCommand]
  intro _
  split <;> simp

theorem floorKept_execSetServiceState (req st : Nat) : FloorKept s (execSetServiceState req st s) := by
  refine floorKept_deskCommand _ _ ?_
  split
  · simp
  · split
    · simp
    · rw [keepsFloor_ite]
      refine ⟨fun _ => keepsFloor_refuse _, fun _ => keepsFloor_of_same fun q => ?_⟩
      exact (floor_lookIf _ _).trans (floor_serveIf _ _)

/-- CLEAR SITE is taken only with no live record (R178). -/
theorem floorKept_execClearSite (req confirm : Nat) : FloorKept s (execClearSite req confirm s) := by
  refine floorKept_deskCommand _ _ ?_
  simp only [keepsFloor_ite, keepsFloor_refuse, implies_true, true_and]
  intro _ _ hempty q hct _
  have hnone : q.ct.records = [] := by rw [hct]; simpa using hempty
  exact keeps_powerOn (q := q.clearSite) hnone rfl rfl rfl

theorem floor_permitsChanged (s before : State) : (s.permitsChanged before).floor = s.floor :=
  (floor_lookIf _ _).trans (floor_serveIf _ _)

theorem floorKept_execSetChainMask (req zones : Nat) : FloorKept s (execSetChainMask req zones s) := by
  refine floorKept_deskCommand _ _ ?_
  rw [keepsFloor_ite]
  exact ⟨fun _ => keepsFloor_of_same fun _ => floor_permitsChanged _ _, fun _ => keepsFloor_refuse _⟩

theorem floorKept_execRestart (req confirm : Nat) : FloorKept s (execRestart req confirm s) := by
  unfold execRestart
  split
  · refine floorKept_next ?_
    split
    · exact keeps_warmRestart (s := s.begin)
    · exact .refl
  · exact floorKept_deskCommand _ _ (by simp)

theorem floorKept_execDeskBadFrame (bytes : List Byte) : FloorKept s (execDeskBadFrame bytes s) := by
  refine floorKept_same ?_
  split <;> rfl

theorem floorKept_execDeskUnknownCommand (req code : Nat) : FloorKept s (execDeskUnknownCommand req code s) := by
  unfold execDeskUnknownCommand
  split
  · exact floorKept_same rfl
  · exact floorKept_deskCommand _ _ (by simp)

/-! ### Lines, reports and timers -/

theorem floorKept_execZoneReport (z : Nat) (occupied : BitVec 96) (check : Nat) :
    FloorKept s (execZoneReport z occupied check s) := by
  refine floorKept_next ?_
  split
  · rw [floor_heardInRecovery]
    exact (keeps_takeReport (s := s.begin) z occupied).trans keeps_finish
  · exact .refl

theorem floor_resendLatch (s : State) (h : Nat) : (s.resendLatch h).floor = s.floor := by
  unfold State.resendLatch; split <;> simp

theorem floor_warnKey (s : State) (h : Nat) : (s.warnKey h).floor = s.floor := by
  unfold State.warnKey; split
  · rfl
  · dsimp only; split
    · simp
    · split <;> simp

theorem floor_overdueKey (s : State) (h : Nat) : (s.overdueKey h).floor = s.floor := by
  unfold State.overdueKey; split
  · rfl
  · dsimp only; split <;> simp

theorem floor_lateInbound (s : State) (t : Nat) : (s.lateInbound t).floor = s.floor := by simp [State.lateInbound]

theorem floor_endRecovery (s : State) : s.endRecovery.floor = s.floor := rfl

theorem floor_ackTimeout (s : State) (a : Nat) : (s.ackTimeout a).floor = s.floor := by
  unfold State.ackTimeout; dsimp only; split <;> simp

theorem floor_expireDwell (s : State) (b : Nat) : (s.expireDwell b).floor = s.floor := by
  unfold State.expireDwell; dsimp only; split <;> simp

theorem floorKept_execElapsedSecond : FloorKept s (execElapsedSecond s) := by
  refine floorKept_next ?_
  split
  · exact (Floor.Keeps.of_eq (floor_tickSecond s.begin)).trans keeps_finish
  · split
    · exact .refl
    · exact .refl

theorem keeps_applyPower (backup : Bool) : s.floor.Keeps (CommissioningEmpty s) (s.applyPower backup).floor :=
  keeps_powerOn (q := s.applyPower backup) rfl rfl rfl rfl

theorem floorKept_execMainSupplyReturn : FloorKept s (execMainSupplyReturn s) := by
  refine floorKept_next ?_
  split
  · exact keeps_applyPower s.pw.backup
  · dsimp only; split
    · exact .refl
    · exact keeps_warmRestart (s := s.setPower true s.pw.backup s.pw.resetAsserted)

theorem floorKept_execResetNReleased : FloorKept s (execResetNReleased s) := by
  refine floorKept_next ?_
  split
  · exact keeps_warmRestart (s := s.setPower s.pw.main s.pw.backup false)
  · exact .refl

/-- The transmit buffer is not the ramp chain (R181). -/
theorem floorKept_execChainClkRisingEdge (level : Bool) : FloorKept s (execChainClkRisingEdge level s) :=
  floorKept_event_same fun _ => floor_congr rfl rfl Iff.rfl

theorem floorKept_execLaneLoopChange (l : Nat) (level : Bool) : FloorKept s (execLaneLoopChange l level s) := by
  unfold execLaneLoopChange
  exact floorKept_event (s := { s with pw := { s.pw with lanes := s.pw.lanes.set l level } }) fun _ => keeps_laneLoop l level

theorem floorKept_execBayLoopChange (b : Nat) (level : Bool) : FloorKept s (execBayLoopChange b level s) := by
  unfold execBayLoopChange
  exact floorKept_event_same (s := { s with pw := { s.pw with bays := s.pw.bays.set b level } }) fun _ => rfl

end Sys2Proof.Machine
end

section
/-! Every step keeps the bounds of the lists (O52), and the wait list and the holders (O58). -/

namespace Sys2Proof.Machine

open Sys2Proof.Safety

variable {s : State}

/-- Every command keeps the floor. One that only answers, or writes what the floor does not show, needs no lemma of its own. -/
theorem exec_floorKept (c : Instr) : FloorKept s (exec c s) := by
  cases c with
  | accept port grade need tier plate folio lane => exact floorKept_execAccept _ _ _ _ _ _ _
  | handover port t e => exact floorKept_execHandover _ _ _
  | hold req t e => exact floorKept_execHold _ _ _
  | resolveStored req t e => exact floorKept_execResolveStored _ _ _
  | resolveMoveTo req t z i e => exact floorKept_execResolveMoveTo _ _ _ _ _
  | resolveWaiting req t e => exact floorKept_execResolveWaiting _ _ _
  | retire req t e => exact floorKept_execRetire _ _ _
  | getRecord req t e => exact floorKept_execGetRecord _ _ _
  | amend req t plate folio e => exact floorKept_execAmend _ _ _ _ _
  | findPlate req plate start => exact floorKept_execFindPlate _ _ _
  | findFolio req folio start => exact floorKept_execFindFolio _ _ _
  | list req start filter => exact floorKept_execList _ _ _
  | setParkLimit req limit =>
    show FloorKept s (execSetParkLimit req limit s)
    exact floorKept_deskCommand _ _ (keepsFloor_ranged _ _ _ _ fun _ => rfl)
  | enableStall req z i =>
    show FloorKept s (execEnableStall req z i s)
    exact floorKept_deskCommand _ _ (keepsFloor_onStall _ _ _ fun _ => by simp)
  | disableStall req z i =>
    show FloorKept s (execDisableStall req z i s)
    exact floorKept_deskCommand _ _ (keepsFloor_onStall _ _ _ fun _ => by simp)
  | openZone req z =>
    show FloorKept s (execOpenZone req z s)
    exact floorKept_deskCommand _ _ (by simp)
  | closeZone req z =>
    show FloorKept s (execCloseZone req z s)
    exact floorKept_deskCommand _ _ (by simp)
  | setZoneFlags req z night spill => exact floorKept_execSetZoneFlags _ _ _ _
  | setPreference req tier count zones => exact floorKept_execSetPreference _ _ _ _
  | setPair req z =>
    show FloorKept s (execSetPair req z s)
    exact floorKept_deskCommand _ _ (by simp [State.setPaired])
  | unpair req z =>
    show FloorKept s (execUnpair req z s)
    exact floorKept_deskCommand _ _ (by simp [State.setPaired])
  | setSlot req n g =>
    show FloorKept s (execSetSlot req n g s)
    exact floorKept_deskCommand _ _ (by simp [floor_regrade])
  | setStallSlot req z i n =>
    show FloorKept s (execSetStallSlot req z i n s)
    exact floorKept_deskCommand _ _ (keepsFloor_onStall _ _ _ fun _ => by simp)
  | readZone req z =>
    show FloorKept s (execReadZone req z s)
    exact floorKept_deskCommand _ _ (by simp)
  | readStall req z i =>
    show FloorKept s (execReadStall req z i s)
    exact floorKept_deskCommand _ _ (keepsFloor_onStall _ _ _ fun _ => by simp)
  | readWaitList req =>
    show FloorKept s (execReadWaitList req s)
    exact floorKept_deskCommand _ _ (by simp)
  | setSilenceTime req v =>
    show FloorKept s (execSetSilenceTime req v s)
    exact floorKept_deskCommand _ _ (keepsFloor_ranged _ _ _ _ fun _ => rfl)
  | setWithdrawal req z on => exact floorKept_execSetWithdrawal _ _ _
  | setWindowTime req v =>
    show FloorKept s (execSetWindowTime req v s)
    exact floorKept_deskCommand _ _ (keepsFloor_ranged _ _ _ _ fun _ => rfl)
  | setCustodyLimit req v =>
    show FloorKept s (execSetCustodyLimit req v s)
    exact floorKept_deskCommand _ _ (keepsFloor_ranged _ _ _ _ fun _ => rfl)
  | beginPanelService req p =>
    show FloorKept s (execBeginPanelService req p s)
    exact floorKept_deskCommand _ _ (by simp [floor_setPanelService])
  | endPanelService req p =>
    show FloorKept s (execEndPanelService req p s)
    exact floorKept_deskCommand _ _ (by simp [floor_setPanelService])
  | readHook req k => exact floorKept_execReadHook _ _
  | call port t tier due e => exact floorKept_execCall _ _ _ _ _
  | cancelCall port t e => exact floorKept_execCancelCall _ _ _
  | setLeadTime req z v => exact floorKept_execSetLeadTime _ _ _
  | readLeadTimes req =>
    show FloorKept s (execReadLeadTimes req s)
    exact floorKept_deskCommand _ _ (by simp)
  | readQueue req start => exact floorKept_execReadQueue _ _
  | setAckTime req v =>
    show FloorKept s (execSetAckTime req v s)
    exact floorKept_deskCommand _ _ (keepsFloor_ranged _ _ _ _ fun _ => rfl)
  | readRoster req =>
    show FloorKept s (execReadRoster req s)
    exact floorKept_deskCommand _ _ (by simp)
  | enableBay req b =>
    show FloorKept s (execEnableBay req b s)
    exact floorKept_deskCommand _ _ (by simp [State.setBay])
  | disableBay req b =>
    show FloorKept s (execDisableBay req b s)
    exact floorKept_deskCommand _ _ (by simp [State.setBay])
  | setBayFlags req b night => exact floorKept_execSetBayFlags _ _ _
  | setDwellTime req v =>
    show FloorKept s (execSetDwellTime req v s)
    exact floorKept_deskCommand _ _ (keepsFloor_ranged _ _ _ _ fun _ => rfl)
  | clearLane req l => exact floorKept_execClearLane _ _
  | readKerb req =>
    show FloorKept s (execReadKerb req s)
    exact floorKept_deskCommand _ _ (by simp)
  | captureSite req site0 site1 => exact floorKept_execCaptureSite _ _ _
  | readStatus req =>
    show FloorKept s (execReadStatus req s)
    exact floorKept_deskCommand _ _ (by simp)
  | readAttention req =>
    show FloorKept s (execReadAttention req s)
    exact floorKept_deskCommand _ _ (by simp)
  | clearAttention req causes => exact floorKept_execClearAttention _ _
  | setAttentionEnables req enables master => exact floorKept_execSetAttentionEnables _ _ _
  | defineZone req z count => exact floorKept_execDefineZone _ _ _
  | defineFixedStall req z i attr grade => exact floorKept_execDefineFixedStall _ _ _ _ _
  | definePanel req p =>
    show FloorKept s (execDefinePanel req p s)
    exact floorKept_deskCommand _ _ (by simp)
  | defineBays req bays => exact floorKept_execDefineBays _ _
  | freezeLayout req => exact floorKept_execFreezeLayout _
  | setServiceState req st => exact floorKept_execSetServiceState _ _
  | clearSite req confirm => exact floorKept_execClearSite _ _
  | setClock req v =>
    show FloorKept s (execSetClock req v s)
    exact floorKept_deskCommand _ _ (keepsFloor_of_same fun _ => rfl)
  | setChainMask req zones => exact floorKept_execSetChainMask _ _
  | restart req confirm => exact floorKept_execRestart _ _
  | deskBadFrame bytes => exact floorKept_execDeskBadFrame _
  | deskUnknownCommand req code => exact floorKept_execDeskUnknownCommand _ _
  | deskIgnoredTransaction bytes =>
    show FloorKept s (execDeskIgnoredTransaction bytes s)
    exact floorKept_same rfl
  | signOn hs n => exact floorKept_execSignOn _ _
  | signOff hs => exact floorKept_execSignOff _
  | takeBreak hs => exact floorKept_execTakeBreak _
  | ready hs => exact floorKept_execReady _
  | parked hs t => exact floorKept_execParked _ _
  | ack hs t => exact floorKept_execAck _ _
  | decline hs t => exact floorKept_execDecline _ _
  | abandon hs t => exact floorKept_execAbandon _ _
  | keyAgain hs t => exact floorKept_execKeyAgain _ _
  | staged hs t b => exact floorKept_execStaged _ _ _
  | repark hs t => exact floorKept_execRepark _ _
  | handsetFrameDropped bytes =>
    show FloorKept s (execHandsetFrameDropped bytes s)
    exact floorKept_same rfl
  | handsetUnknownKind hs kind => exact floorKept_execHandsetUnknownKind _ _
  | handsetFrameSent => exact floorKept_execHandsetFrameSent
  | zoneReport z occupied check => exact floorKept_execZoneReport _ _ _
  | silenceTimerExpiry z =>
    show FloorKept s (execSilenceTimerExpiry z s)
    exact floorKept_event_same fun _ => floor_silence z
  | hookLoaded p i tag =>
    show FloorKept s (execHookLoaded p i tag s)
    exact floorKept_event fun _ => keeps_loadHook _ _
  | hookEmptied p i latched =>
    show FloorKept s (execHookEmptied p i latched s)
    exact floorKept_event fun _ => keeps_emptyHook _ _
  | latchDone p i latch =>
    show FloorKept s (execLatchDone p i latch s)
    exact floorKept_event fun _ => keeps_confirmLatch _ _
  | cabinetMessageDropped bytes =>
    show FloorKept s (execCabinetMessageDropped bytes s)
    exact floorKept_same rfl
  | latchRepeat k =>
    show FloorKept s (execLatchRepeat k s)
    exact floorKept_event_same fun _ => floor_resendLatch _ k
  | windowTimerExpiry k =>
    show FloorKept s (execWindowTimerExpiry k s)
    exact floorKept_event fun _ => keeps_expireWindow k
  | keyWarningPoint k =>
    show FloorKept s (execKeyWarningPoint k s)
    exact floorKept_event_same fun _ => floor_warnKey _ k
  | custodyLimitReached k =>
    show FloorKept s (execCustodyLimitReached k s)
    exact floorKept_event_same fun _ => floor_overdueKey _ k
  | parkLimitReached t =>
    show FloorKept s (execParkLimitReached t s)
    exact floorKept_event_same fun _ => floor_lateInbound _ t
  | ackTimerExpiry a =>
    show FloorKept s (execAckTimerExpiry a s)
    exact floorKept_event_same fun _ => floor_ackTimeout _ a
  | dwellTimerExpiry b =>
    show FloorKept s (execDwellTimerExpiry b s)
    exact floorKept_event_same fun _ => floor_expireDwell _ b
  | driveOffTimerExpiry b =>
    show FloorKept s (execDriveOffTimerExpiry b s)
    exact floorKept_event fun _ => keeps_driveOff b
  | recoveryTimerExpiry =>
    show FloorKept s (execRecoveryTimerExpiry s)
    exact floorKept_event_same fun _ => floor_endRecovery _
  | elapsedSecond => exact floorKept_execElapsedSecond
  | laneLoopChange l level => exact floorKept_execLaneLoopChange _ _
  | bayLoopChange b level => exact floorKept_execBayLoopChange _ _
  | chainLoad =>
    show FloorKept s (execChainLoad s)
    exact floorKept_event_same fun _ => floor_permitsChanged _ _
  | powerOn backup =>
    show FloorKept s (execPowerOn backup s)
    exact floorKept_next (keeps_applyPower backup)
  | mainSupplyLost =>
    show FloorKept s (execMainSupplyLost s)
    exact floorKept_same rfl
  | mainSupplyReturn => exact floorKept_execMainSupplyReturn
  | resetNAsserted =>
    show FloorKept s (execResetNAsserted s)
    exact floorKept_same rfl
  | resetNReleased => exact floorKept_execResetNReleased
  | backupSupplyLost =>
    show FloorKept s (execBackupSupplyLost s)
    exact floorKept_same rfl
  | chainClkRisingEdge level => exact floorKept_execChainClkRisingEdge _

theorem step_keeps {t : State} (hstep : step s = .next t) : s.floor.Keeps (CommissioningEmpty s) t.floor := by
  unfold step at hstep
  split at hstep
  · cases hstep; exact .refl
  next c rest _ => exact exec_floorKept (s := { s with pending := rest }) c t hstep

/-- Settles O52, by the floor: every command keeps the bounds of the buffers and of the wait list. -/
theorem everyStepKeepsTheListBounds : Obligations.EveryStepKeepsTheListBounds := by
  intro s t hs hstep
  exact (floor_bounded_iff t).mp ((step_keeps hstep).1 ((floor_bounded_iff s).mpr hs))

/-- Settles O58, by the floor: every command keeps it sound, and the table says which record a ticket looks up. -/
theorem everyStepKeepsTheWaitListAndTheHolders : Obligations.EveryStepKeepsTheWaitListAndTheHolders := by
  intro s t htable hempty hwait hstalls hstep
  have hsound : t.floor.Sound := (step_keeps hstep).2 hempty ((floor_sound_iff htable).mpr ⟨hwait, hstalls⟩)
  exact (floor_sound_iff (everyStepKeepsTheTable s t htable hstep)).mp hsound

end Sys2Proof.Machine
end

section
/-! One stall of a heard report, by its holder and by what the report says of it (R60 to R66). -/

namespace Sys2Proof.Machine

open Sys2Proof.Safety

/-! ### What the operations of a report leave at a stall -/

section

variable {s : State} {t z i : Nat}

/-- A suspension resets the runs of the record's stall and changes nothing else of the stalls (R19, R33). -/
theorem stall?_suspend {r : Record} (hr : s.record? t = some r) (why : SuspendReason) (z i : Nat) :
    (s.suspend t why).stall? z i =
      (s.stall? z i).map (if r.stall = some ⟨z, i⟩ then Stall.resetRuns else id) := by
  obtain ⟨hct, -, -, -, hzones, -⟩ := State.cutLoose_frame (s := s) (t := t) (r := r)
  have hrec : (s.cutLoose t r).record? t = some r := by rw [record?_congr hct, hr]
  have hstall : (s.cutLoose t r).stall? z i = s.stall? z i := by simp only [State.stall?, State.zone, hzones]
  rw [suspend_eq hr]
  simp only [State.modRecord_lookups, stall?_setState, hrec, hstall, Option.bind_some]

theorem stall?_storedJob (s : State) (t : Nat) (o : Option Nat) (z i : Nat) :
    (s.storedJob t o).stall? z i = (s.setState t .stored).stall? z i := by
  unfold State.storedJob
  dsimp only
  split <;> split <;> simp

/-- What keeps the sensed state of a stall, done to one row, keeps it at every row. -/
theorem sensed_map_row {c : Prop} {_ : Decidable c} {f : Stall → Stall} (hf : ∀ x, (f x).sensed = x.sensed)
    (o : Option Stall) : (o.map (if c then f else id)).map Stall.sensed = o.map Stall.sensed := by
  cases o with
  | none => rfl
  | some x => split <;> simp [hf]

/-- A change of a record's state moves no sensed state. -/
theorem sensed_setState (s : State) (t : Nat) (st : RecordState) (z i : Nat) :
    ((s.setState t st).stall? z i).map Stall.sensed = (s.stall? z i).map Stall.sensed := by
  rw [stall?_setState]
  exact sensed_map_row (by intro x; rfl) _

theorem sensed_releaseStall (s : State) (t z i : Nat) :
    ((s.releaseStall t).stall? z i).map Stall.sensed = (s.stall? z i).map Stall.sensed := by
  rw [stall?_releaseStall]
  exact sensed_map_row (by intro x; rfl) _

theorem sensed_stallEmpty (s : State) (t y z i : Nat) :
    ((s.stallEmpty t y).stall? z i).map Stall.sensed = (s.stall? z i).map Stall.sensed := by
  simp only [State.stallEmpty, State.raise_lookups]
  cases hr : s.record? t with
  | none => simp [State.suspend, hr]
  | some r =>
    rw [stall?_suspend hr]
    exact sensed_map_row (by intro x; rfl) _

theorem sensed_enterStored (s : State) (t z i : Nat) :
    ((s.enterStored t).stall? z i).map Stall.sensed = (s.stall? z i).map Stall.sensed := by
  cases hr : s.record? t with
  | none => simp [State.enterStored, hr]
  | some r =>
    rw [enterStored_eq hr]
    split <;> simp [sensed_setState, stall?_storedJob]

theorem sensed_parkConfirmed (s : State) (t z i : Nat) :
    ((s.parkConfirmed t).stall? z i).map Stall.sensed = (s.stall? z i).map Stall.sensed := by
  cases hr : s.record? t with
  | none => simp [State.parkConfirmed, hr]
  | some r =>
    simp only [State.parkConfirmed, hr, State.setMarks]
    split
    · split
      · exact sensed_enterStored s t z i
      · simp
    · rfl

/-! ### PARK_CONFIRMED (R9, R61) -/

theorem parkConfirmed_stays {r : Record} (hr : s.record? t = some r) (h : r.state ≠ .inbound ∨ r.parkMark = true) :
    s.parkConfirmed t = s := by
  have hnot : ¬(r.state = .inbound ∧ r.parkMark = false) := by
    rintro ⟨hin, hpark⟩
    rcases h with h | h
    · exact h hin
    · simp [hpark] at h
  simp only [State.parkConfirmed, hr, hnot, if_false]

theorem parkConfirmed_marks {r : Record} (hr : s.record? t = some r) (hin : r.state = .inbound)
    (hpark : r.parkMark = false) (hkey : r.keyMark = false) :
    (s.parkConfirmed t).record? t = some { r with parkMark := true } := by
  simp [State.parkConfirmed, hr, hin, hpark, hkey, setMarks_one]

/-! ### A stall without a holder (R60, R65, R66) -/

/-- An unheld stall reported occupied is stray from its second report on (R65). -/
theorem freeOccupied_stall? {x : Stall} (hx : s.stall? z i = some x) :
    (s.freeOccupied z i x).stall? z i = some { x with
      sensed := .occupied, occupiedRun := runUp x.occupiedRun, stray := x.stray || x.occupiedRun == 1 } := by
  have hrun := stall?_modStall_self s z i
    (fun x => { x with sensed := .occupied, occupiedRun := runUp x.occupiedRun }) x hx
  unfold State.freeOccupied
  dsimp only
  split
  next hsecond =>
    simp only [State.raise_lookups, stall?_modStall_self _ z i _ _ hrun]
    simp [hsecond.1]
  next hother =>
    have hstray : (x.stray || x.occupiedRun == 1) = x.stray := by
      cases hs : x.stray with
      | true => rfl
      | false => simpa using fun h => hother ⟨h, hs⟩
    rw [hrun, hstray]

theorem freeOccupied_frame (s : State) (z i : Nat) (x : Stall) :
    (s.freeOccupied z i x).ct = s.ct ∧ (s.freeOccupied z i x).jq = s.jq := by
  unfold State.freeOccupied
  dsimp only
  split <;> simp

/-- An unheld stall reported vacant is not stray (R60, R66). -/
theorem freeVacant_stall? {x : Stall} (hx : s.stall? z i = some x) :
    (s.freeVacant z i x).stall? z i = some { x with sensed := .vacant, occupiedRun := 0, stray := false } := by
  simp only [State.freeVacant, State.serveIf_lookups]
  exact stall?_modStall_self s z i _ x hx

/-! ### A held stall (R61 to R64) -/

/-- A held stall has been reported vacant once more. -/
def State.seenVacant (s : State) (z i : Nat) : State :=
  s.modStall z i fun x => { x with sensed := .vacant, vacantRun := runUp x.vacantRun }

theorem seenVacant_record? (s : State) (z i : Nat) : (s.seenVacant z i).record? = s.record? := record?_congr rfl

theorem seenVacant_stall? {x : Stall} (hx : s.stall? z i = some x) :
    (s.seenVacant z i).stall? z i = some { x with sensed := .vacant, vacantRun := runUp x.vacantRun } :=
  stall?_modStall_self s z i _ x hx

/-- What the second vacant report in a row asks for, by the state of the record (R62). -/
theorem heldVacant_eq (s : State) (z i : Nat) (x : Stall) (t : Nat) :
    s.heldVacant z i x t =
      if x.vacantRun = 1 then
        match (s.record? t).map Record.state with
        | some .fetching => (s.seenVacant z i).releaseStall t
        | some .stored => (s.seenVacant z i).stallEmpty t z
        | some .called => (s.seenVacant z i).stallEmpty t z
        | _ => s.seenVacant z i
      else s.seenVacant z i := by
  rw [← seenVacant_record? s z i]
  rfl

theorem heldVacant_stays {x : Stall} {r : Record} (hr : s.record? t = some r)
    (h : x.vacantRun ≠ 1 ∨ (r.state ≠ .fetching ∧ r.state ≠ .stored ∧ r.state ≠ .called)) :
    s.heldVacant z i x t = s.seenVacant z i := by
  rw [heldVacant_eq, hr]
  split
  next hsecond =>
    obtain ⟨hfetching, hstored, hcalled⟩ := h.resolve_left (not_not_intro hsecond)
    split
    next hst => exact absurd (Option.some.inj hst) hfetching
    next hst => exact absurd (Option.some.inj hst) hstored
    next hst => exact absurd (Option.some.inj hst) hcalled
    · rfl
  · rfl

theorem heldVacant_fetching {x : Stall} {r : Record} (hr : s.record? t = some r) (hsecond : x.vacantRun = 1)
    (hst : r.state = .fetching) : s.heldVacant z i x t = (s.seenVacant z i).releaseStall t := by
  simp [heldVacant_eq, hr, hsecond, hst]

theorem heldVacant_parked {x : Stall} {r : Record} (hr : s.record? t = some r) (hsecond : x.vacantRun = 1)
    (hst : r.state = .stored ∨ r.state = .called) : s.heldVacant z i x t = (s.seenVacant z i).stallEmpty t z := by
  rcases hst with hst | hst <;> simp [heldVacant_eq, hr, hsecond, hst]

theorem heldVacant_sensed {x : Stall} (hx : s.stall? z i = some x) (t : Nat) :
    ((s.heldVacant z i x t).stall? z i).map Stall.sensed = some .vacant := by
  have hseen : ((s.seenVacant z i).stall? z i).map Stall.sensed = some .vacant := by rw [seenVacant_stall? hx]; rfl
  rw [heldVacant_eq]
  split
  · split
    · rw [sensed_releaseStall, hseen]
    · rw [sensed_stallEmpty, hseen]
    · rw [sensed_stallEmpty, hseen]
    · exact hseen
  · exact hseen

/-- The car of a FETCHING record has left its stall (R63). -/
theorem heldVacant_leaves {x : Stall} {r : Record} (hx : s.stall? z i = some x) (hr : s.record? t = some r)
    (hsecond : x.vacantRun = 1) (hstall : r.stall = some ⟨z, i⟩) (hst : r.state = .fetching) :
    (s.heldVacant z i x t).stall? z i =
        some { x with sensed := .vacant, vacantRun := 0, occupiedRun := 0, holder := none } ∧
      ∃ r', (s.heldVacant z i x t).record? t = some r' ∧ r'.state = .fetching ∧ r'.stall = none := by
  rw [heldVacant_fetching hr hsecond hst]
  constructor
  · simp [stall?_releaseStall, seenVacant_record?, seenVacant_stall? hx, hr, hstall, Stall.resetRuns]
  · exact ⟨r.released, by simp [seenVacant_record?, hr], by simp [hst], by simp⟩

/-- The car of a STORED or CALLED record is gone: STALL_EMPTY (R20, R64). -/
theorem heldVacant_empties {x : Stall} {r : Record} (hx : s.stall? z i = some x) (hr : s.record? t = some r)
    (hsecond : x.vacantRun = 1) (hstall : r.stall = some ⟨z, i⟩) (hst : r.state = .stored ∨ r.state = .called) :
    (s.heldVacant z i x t).stall? z i = some { x with sensed := .vacant, vacantRun := 0, occupiedRun := 0 } ∧
      ∃ r', (s.heldVacant z i x t).record? t = some r' ∧ r'.state = .suspended ∧ r'.reason = some .stallEmpty ∧
        r'.stall = some ⟨z, i⟩ := by
  have hseen : (s.seenVacant z i).record? t = some r := by rw [seenVacant_record?, hr]
  rw [heldVacant_parked hr hsecond hst]
  simp only [State.stallEmpty, State.raise_lookups]
  constructor
  · simp [stall?_suspend hseen, seenVacant_stall? hx, hstall, Stall.resetRuns]
  · exact ⟨_, by rw [suspend_record? hseen, hseen]; rfl, by simp [Record.suspended], by simp [Record.suspended],
      by simp [Record.suspended, hstall]⟩

/-- A held stall has been reported occupied. -/
def State.seenOccupied (s : State) (z i : Nat) : State :=
  s.modStall z i fun x => { x with sensed := .occupied, vacantRun := 0 }

theorem heldOccupied_eq (s : State) (z i t : Nat) : s.heldOccupied z i t = (s.seenOccupied z i).parkConfirmed t := rfl

theorem seenOccupied_record? (s : State) (z i : Nat) : (s.seenOccupied z i).record? = s.record? := record?_congr rfl

theorem seenOccupied_stall? {x : Stall} (hx : s.stall? z i = some x) :
    (s.seenOccupied z i).stall? z i = some { x with sensed := .occupied, vacantRun := 0 } :=
  stall?_modStall_self s z i _ x hx

theorem heldOccupied_sensed {x : Stall} (hx : s.stall? z i = some x) (t : Nat) :
    ((s.heldOccupied z i t).stall? z i).map Stall.sensed = some .occupied := by
  rw [heldOccupied_eq, sensed_parkConfirmed, seenOccupied_stall? hx]
  rfl

/-! ### The four cases of a stall -/

variable {x : Stall} {occupied : BitVec 96}

theorem takeStall_freeOccupied (hx : s.stall? z i = some x) (hholder : x.holder = none)
    (hnamed : occupied.getLsbD i = true) : State.takeStall z occupied s i = s.freeOccupied z i x := by
  simp only [State.takeStall, hx, hholder, hnamed]

theorem takeStall_freeVacant (hx : s.stall? z i = some x) (hholder : x.holder = none)
    (hnamed : occupied.getLsbD i = false) : State.takeStall z occupied s i = s.freeVacant z i x := by
  simp only [State.takeStall, hx, hholder, hnamed]

theorem takeStall_heldOccupied (hx : s.stall? z i = some x) (hholder : x.holder = some t)
    (hnamed : occupied.getLsbD i = true) : State.takeStall z occupied s i = s.heldOccupied z i t := by
  simp only [State.takeStall, hx, hholder, hnamed]

theorem takeStall_heldVacant (hx : s.stall? z i = some x) (hholder : x.holder = some t)
    (hnamed : occupied.getLsbD i = false) : State.takeStall z occupied s i = s.heldVacant z i x t := by
  simp only [State.takeStall, hx, hholder, hnamed]

/-- The sensed state follows the report, whoever holds the stall (R60). -/
theorem takeStall_sensed (hx : s.stall? z i = some x) :
    ((State.takeStall z occupied s i).stall? z i).map Stall.sensed =
      some (if occupied.getLsbD i then .occupied else .vacant) := by
  cases hnamed : occupied.getLsbD i with
  | true =>
    cases hholder : x.holder with
    | none => rw [takeStall_freeOccupied hx hholder hnamed, freeOccupied_stall? hx]; rfl
    | some t => rw [takeStall_heldOccupied hx hholder hnamed, heldOccupied_sensed hx]; rfl
  | false =>
    cases hholder : x.holder with
    | none => rw [takeStall_freeVacant hx hholder hnamed, freeVacant_stall? hx]; rfl
    | some t => rw [takeStall_heldVacant hx hholder hnamed, heldVacant_sensed hx]; rfl

end

/-- Settles O43: a stall without a holder, then a held one reported occupied and vacant. -/
theorem stallsActAtTheSecondReport : Obligations.StallsActAtTheSecondReport := by
  intro s z i x occupied hx named q
  refine ⟨takeStall_sensed hx, fun hholder hnamed => ?_, fun hholder hnamed => ?_, fun t r hholder hr =>
    ⟨fun hnamed => ?_, fun hnamed => ?_⟩⟩
  · have hq : q = _ := takeStall_freeOccupied hx hholder hnamed
    rw [hq]
    exact ⟨freeOccupied_stall? hx, freeOccupied_frame s z i x⟩
  · have hq : q = _ := takeStall_freeVacant hx hholder hnamed
    rw [hq]
    exact ⟨freeVacant_stall? hx, by simp [State.freeVacant]⟩
  · have hq : q = _ := takeStall_heldOccupied hx hholder hnamed
    have hseen : (s.seenOccupied z i).record? t = some r := by rw [seenOccupied_record?, hr]
    rw [hq, heldOccupied_eq]
    refine ⟨fun hstays => ?_, parkConfirmed_marks hseen⟩
    rw [parkConfirmed_stays hseen hstays]
    exact ⟨seenOccupied_stall? hx, rfl⟩
  · have hq : q = _ := takeStall_heldVacant hx hholder hnamed
    rw [hq]
    refine ⟨fun hstays => ?_, heldVacant_leaves hx hr, heldVacant_empties hx hr⟩
    rw [heldVacant_stays hr hstays]
    exact ⟨seenVacant_stall? hx, rfl⟩

end Sys2Proof.Machine
end

section
/-! What a zone report and a cabinet message are taken for, and when they are dropped (R54 to R57, R69, R71, R73, R74, R186,
R188). -/

namespace Sys2Proof.Machine

open Sys2Proof.Safety

/-! ### Zone reports (R54 to R57) -/

section

variable (s : State)

theorem exec_zoneReport (z : Nat) (occupied : BitVec 96) (check : Nat) : exec (.zoneReport z occupied check) s =
    .next (if s.running && s.hears z occupied check then ((s.begin.takeReport z occupied).finish).heardInRecovery z
      else s) := rfl

theorem hears_iff (z : Nat) (occupied : BitVec 96) (check : Nat) :
    s.hears z occupied check = true ↔ (byteSum (byteOf z :: occupancyBytes occupied) + check) % 65536 = 65535 ∧ z ≤ 11 ∧
      (s.zone z).inLayout = true := by
  have hzone : z < Config.zones ↔ z ≤ 11 := by simp only [Config.zones]; omega
  simp only [State.hears, checkHolds, reportCovered, Bool.and_eq_true, beq_iff_eq, decide_eq_true_eq, hzone, and_assoc]

theorem zoneReport_ruled (hrun : s.running = true) (z : Nat) (occupied : BitVec 96) (check : Nat) :
    let heard : Prop := (byteSum (byteOf z :: occupancyBytes occupied) + check) % 65536 = 65535 ∧ z ≤ 11 ∧
      (s.zone z).inLayout = true
    (heard → exec (.zoneReport z occupied check) s =
      .next (((s.begin.takeReport z occupied).finish).heardInRecovery z)) ∧
    (¬heard → exec (.zoneReport z occupied check) s = .next s) := by
  intro heard
  have hheard : s.hears z occupied check = true ↔ heard := hears_iff s z occupied check
  refine ⟨fun h => ?_, fun h => ?_⟩
  · simp [exec_zoneReport, hrun, hheard.mpr h]
  · simp [exec_zoneReport, Bool.not_eq_true _ ▸ mt hheard.mp h]

theorem hearZone_link_self {z : Nat} (hz : z < s.zl.links.length) :
    (s.hearZone z).link z = { link := .live, silence := some ⟨0, s.zl.silenceTime⟩ } := by
  simp [State.hearZone, State.link, State.setLink, Timer.start, hz]

theorem hearZone_link_other {z y : Nat} (hy : y ≠ z) : (s.hearZone z).link y = s.link y := by
  simp [State.hearZone, State.link, State.setLink, List.getD_eq_getElem?_getD, Ne.symm hy]

/-- Beyond the links, a heard report leaves a trigger for the serving pass where the zone was not LIVE (R57). -/
theorem hearZone_frame (z : Nat) : s.hearZone z = { s with
    zl := (s.hearZone z).zl, due := { s.due with serve := s.due.serve || (s.link z).link != .live } } := by
  unfold State.hearZone State.serveIf
  cases hlive : (s.link z).link != .live
  · simp only [Bool.or_false]; rfl
  · simp only [Bool.or_true]; rfl

/-! ### The zones heard in RECOVERY (R186) -/

variable {s}

theorem heardInRecovery_none (hnone : s.sa.recovery = none) (z : Nat) : s.heardInRecovery z = s := by
  simp only [State.heardInRecovery, hnone]

theorem heardInRecovery_last {rc : Recovery} {z : Nat} (hrc : s.sa.recovery = some rc) (hlast : ∀ y ∈ rc.unheard, y = z) :
    s.heardInRecovery z = s.endRecovery := by
  have hempty : rc.unheard.filter (· != z) = [] := by simpa using hlast
  simp [State.heardInRecovery, hrc, hempty]

theorem heardInRecovery_left {rc : Recovery} {z : Nat} (hrc : s.sa.recovery = some rc) (hleft : ∃ y ∈ rc.unheard, y ≠ z) :
    s.heardInRecovery z =
      { s with sa := { s.sa with recovery := some { rc with unheard := rc.unheard.filter fun y => y != z } } } := by
  have hsome : rc.unheard.filter (· != z) ≠ [] := by simpa using hleft
  simp [State.heardInRecovery, hrc, List.isEmpty_iff, hsome]

end

/-! ### HOOK_LOADED at the hook (R73) -/

section

variable {s : State} {h : Nat} {k : Hook}

theorem loadHook_stays (hk : s.hook? h = some k) (hst : k.strayTag ≠ none ∨ k.state = .held ∨ k.state = .opened)
    (tag : Nat) : s.loadHook h tag = s := by
  cases hstray : k.strayTag with
  | some _ => simp only [State.loadHook, hk, hstray]
  | none =>
    rcases hst.resolve_left (not_not_intro hstray) with hst | hst <;> simp only [State.loadHook, hk, hstray, hst]

theorem loadHook_hung {tag : Nat} (hk : s.hook? h = some k) (hstray : k.strayTag = none)
    (hst : k.state = .await ∨ k.state = .out) (hbound : k.bound = some tag) :
    s.loadHook h tag = (s.updHook h Hook.hung).keyHome tag := by
  rcases hst with hst | hst <;> simp only [State.loadHook, hk, hstray, hst, hbound, if_true]

theorem loadHook_mishung {tag : Nat} (hk : s.hook? h = some k) (hstray : k.strayTag = none)
    (hst : k.state = .free ∨ ((k.state = .await ∨ k.state = .out) ∧ k.bound ≠ some tag)) :
    s.loadHook h tag = s.mishung h tag := by
  rcases hst with hst | ⟨hst | hst, hbound⟩
  · simp only [State.loadHook, hk, hstray, hst]
  all_goals simp only [State.loadHook, hk, hstray, hst, hbound, if_false]

/-! ### HOOK_EMPTIED at the hook (R74) -/

theorem emptyHook_stray (hk : s.hook? h = some k) (hstray : k.strayTag ≠ none) (latched : Bool) :
    s.emptyHook h latched = s.updHook h fun x => { x with strayTag := none } := by
  obtain ⟨tag, htag⟩ := Option.ne_none_iff_exists'.mp hstray
  simp only [State.emptyHook, hk, htag]

theorem emptyHook_stays (hk : s.hook? h = some k) (hstray : k.strayTag = none)
    (hst : k.state = .free ∨ k.state = .await ∨ k.state = .out) (latched : Bool) : s.emptyHook h latched = s := by
  rcases hst with hst | hst | hst <;> simp only [State.emptyHook, hk, hstray, hst]

theorem emptyHook_taken {latched : Bool} (hk : s.hook? h = some k) (hstray : k.strayTag = none) (hst : k.state = .opened)
    (hfree : latched = false ∨ s.hookInService h = true) : s.emptyHook h latched = s.takeKey h k := by
  rcases hfree with hfree | hfree <;> simp [State.emptyHook, hk, hstray, hst, hfree]

theorem emptyHook_forced {latched : Bool} (hk : s.hook? h = some k) (hstray : k.strayTag = none)
    (hst : k.state = .opened ∧ latched = true ∨ k.state = .held) (hserv : s.hookInService h = false) :
    s.emptyHook h latched = s.forceKey h k := by
  rcases hst with ⟨hst, hlatched⟩ | hst
  · simp [State.emptyHook, hk, hstray, hst, hserv, hlatched]
  · simp [State.emptyHook, hk, hstray, hst, hserv]

theorem emptyHook_service (hk : s.hook? h = some k) (hstray : k.strayTag = none) (hst : k.state = .held)
    (hserv : s.hookInService h = true) (latched : Bool) : s.emptyHook h latched = s.serviceKey h k := by
  simp [State.emptyHook, hk, hstray, hst, hserv]

/-! ### LATCH_DONE at the hook (R71) -/

/-- The pending command of the hook is confirmed. -/
def State.latchDone (s : State) (h : Nat) : State := s.updHook h fun x => { x with latch := none, repeatTimer := none }

variable {l : Latch}

theorem confirmLatch_other (hk : s.hook? h = some k) (hl : k.latch ≠ some l) : s.confirmLatch h l = s := by
  simp only [State.confirmLatch, hk, hl, if_false]

theorem confirmLatch_closing (hk : s.hook? h = some k) (hl : k.latch = some .closed) (hst : k.state = .opened)
    (hph : k.phase = .closing) : s.confirmLatch h .closed = (s.latchDone h).completeLapse h k := by
  simp [State.confirmLatch, hk, hl, hst, hph, State.latchDone]

theorem confirmLatch_ending (hk : s.hook? h = some k) (hl : k.latch = some .closed) (hst : k.state = .opened)
    (hph : k.phase = .ending) : s.confirmLatch h .closed = (s.latchDone h).updHook h Hook.windowEnded := by
  simp [State.confirmLatch, hk, hl, hst, hph, State.latchDone]

theorem confirmLatch_done (hk : s.hook? h = some k) (hl : k.latch = some l)
    (hplain : l = .opened ∨ k.state ≠ .opened ∨ (k.phase ≠ .closing ∧ k.phase ≠ .ending)) :
    s.confirmLatch h l = s.latchDone h := by
  simp only [State.confirmLatch, hk, hl, if_true]
  split
  next hwindow =>
    obtain ⟨rfl, hst⟩ := hwindow
    obtain ⟨hclosing, hending⟩ := (hplain.resolve_left nofun).resolve_left (not_not_intro hst)
    split
    next hph => exact absurd hph hclosing
    next hph => exact absurd hph hending
    · rfl
  · rfl

end

/-! ### The messages of a panel -/

section

variable (s : State) (p i v : Nat)

theorem exec_hookLoaded : exec (.hookLoaded p i v) s =
    event (fun s => s.hookThere p i && v ≤ Config.maxTicket) (fun s => s.loadHook (hookAt p i) v) s := rfl

theorem exec_hookEmptied : exec (.hookEmptied p i v) s =
    event (fun s => s.hookThere p i && (boolOf v).isSome) (fun s => s.emptyHook (hookAt p i) (v == 1)) s := rfl

theorem exec_latchDone : exec (.latchDone p i v) s =
    event (fun s => s.hookThere p i && (boolOf v).isSome)
      (fun s => s.confirmLatch (hookAt p i) (if v = 1 then .closed else .opened)) s := rfl

theorem hookThere_iff : s.hookThere p i = true ↔ i ≤ 255 ∧ s.hook? (256 * p + i) ≠ none := by
  have hpos : i < Config.hooksPerPanel ↔ i ≤ 255 := by simp only [Config.hooksPerPanel]; omega
  simp only [State.hookThere, hookAt, Bool.and_eq_true, decide_eq_true_eq, hpos, Option.isSome_iff_ne_none]
  rfl

/-- A message for no hook of the layout is dropped (R69). -/
theorem panelMessages_absent (h : 255 < i ∨ s.hook? (256 * p + i) = none) :
    exec (.hookLoaded p i v) s = .next s ∧ exec (.hookEmptied p i v) s = .next s ∧
      exec (.latchDone p i v) s = .next s := by
  have hthere : s.hookThere p i = false := by
    rw [← Bool.not_eq_true, hookThere_iff]
    rintro ⟨hi, hhook⟩
    exact h.elim (by omega) hhook
  exact ⟨exec_of_not_occurs (exec_hookLoaded s p i v) (by simp [hthere]),
    exec_of_not_occurs (exec_hookEmptied s p i v) (by simp [hthere]),
    exec_of_not_occurs (exec_latchDone s p i v) (by simp [hthere])⟩

/-- A tag beyond the tickets is no value (R188). -/
theorem hookLoaded_noValue (hv : 999999 < v) : exec (.hookLoaded p i v) s = .next s :=
  exec_of_not_occurs (exec_hookLoaded s p i v) (by simp [Config.maxTicket, Nat.not_le.mpr hv])

/-- A latch byte above 1 is no value (R188). -/
theorem latchByte_noValue (hv : 1 < v) :
    exec (.hookEmptied p i v) s = .next s ∧ exec (.latchDone p i v) s = .next s :=
  ⟨exec_of_not_occurs (exec_hookEmptied s p i v) (by simp [boolOf_eq_none hv]),
    exec_of_not_occurs (exec_latchDone s p i v) (by simp [boolOf_eq_none hv])⟩

end

section

variable {s : State} {p i : Nat} {k : Hook}

theorem hookLoaded_taken (hrun : s.running = true) (hi : i ≤ 255) (hk : s.hook? (256 * p + i) = some k) {tag : Nat}
    (htag : tag ≤ 999999) : EventLeaves (.hookLoaded p i tag) s (s.begin.loadHook (256 * p + i) tag) :=
  eventLeaves_of_occurs (exec_hookLoaded s p i tag) hrun
    (by simp [(hookThere_iff s p i).mpr ⟨hi, by simp [hk]⟩, Config.maxTicket, htag])

theorem hookEmptied_taken (hrun : s.running = true) (hi : i ≤ 255) (hk : s.hook? (256 * p + i) = some k)
    (latched : Bool) :
    EventLeaves (.hookEmptied p i latched.toNat) s (s.begin.emptyHook (256 * p + i) latched) := by
  have htaken := eventLeaves_of_occurs (exec_hookEmptied s p i latched.toNat) hrun
    (by simp [(hookThere_iff s p i).mpr ⟨hi, by simp [hk]⟩])
  cases latched <;> exact htaken

theorem latchDone_taken (hrun : s.running = true) (hi : i ≤ 255) (hk : s.hook? (256 * p + i) = some k) (l : Latch) :
    EventLeaves (.latchDone p i l.code) s (s.begin.confirmLatch (256 * p + i) l) := by
  have hcode : (boolOf l.code).isSome = true := by cases l <;> rfl
  have htaken := eventLeaves_of_occurs (exec_latchDone s p i l.code) hrun
    (by simp [(hookThere_iff s p i).mpr ⟨hi, by simp [hk]⟩, hcode])
  cases l <;> exact htaken

/-- HOOK_LOADED by the hook it finds (R73). -/
theorem hookLoaded_ruled (hrun : s.running = true) (hi : i ≤ 255) (hk : s.hook? (256 * p + i) = some k) (tag : Nat)
    (htag : tag ≤ 999999) :
    let h := 256 * p + i
    let c := Instr.hookLoaded p i tag
    (k.strayTag ≠ none ∨ k.state = .held ∨ k.state = .opened → EventLeaves c s s.begin) ∧
    (k.strayTag = none → k.state = .await ∨ k.state = .out → k.bound = some tag →
      EventLeaves c s ((s.begin.updHook h Hook.hung).keyHome tag)) ∧
    (k.strayTag = none → k.state = .free ∨ ((k.state = .await ∨ k.state = .out) ∧ k.bound ≠ some tag) →
      EventLeaves c s (s.begin.mishung h tag)) := by
  intro h c
  have hbegin : s.begin.hook? h = some k := hk
  have htaken : EventLeaves c s (s.begin.loadHook h tag) := hookLoaded_taken hrun hi hk htag
  refine ⟨fun hst => ?_, fun hstray hst hbound => ?_, fun hstray hst => ?_⟩
  · rwa [loadHook_stays hbegin hst] at htaken
  · rwa [loadHook_hung hbegin hstray hst hbound] at htaken
  · rwa [loadHook_mishung hbegin hstray hst] at htaken

/-- HOOK_EMPTIED by the hook and the panel it finds (R74). -/
theorem hookEmptied_ruled (hrun : s.running = true) (hi : i ≤ 255) (hk : s.hook? (256 * p + i) = some k)
    (latched : Bool) :
    let h := 256 * p + i
    let c := Instr.hookEmptied p i latched.toNat
    (k.strayTag ≠ none → EventLeaves c s (s.begin.updHook h fun x => { x with strayTag := none })) ∧
    (k.strayTag = none →
      (k.state = .free ∨ k.state = .await ∨ k.state = .out → EventLeaves c s s.begin) ∧
      (k.state = .opened → latched = false ∨ s.hookInService h = true → EventLeaves c s (s.begin.takeKey h k)) ∧
      ((k.state = .opened ∧ latched = true ∨ k.state = .held) → s.hookInService h = false →
        EventLeaves c s (s.begin.forceKey h k)) ∧
      (k.state = .held → s.hookInService h = true → EventLeaves c s (s.begin.serviceKey h k))) := by
  intro h c
  have hbegin : s.begin.hook? h = some k := hk
  have htaken : EventLeaves c s (s.begin.emptyHook h latched) := hookEmptied_taken hrun hi hk latched
  refine ⟨fun hstray => ?_, fun hstray => ⟨fun hst => ?_, fun hst hfree => ?_, fun hst hserv => ?_,
    fun hst hserv => ?_⟩⟩
  · rwa [emptyHook_stray hbegin hstray] at htaken
  · rwa [emptyHook_stays hbegin hstray hst] at htaken
  · rwa [emptyHook_taken (s := s.begin) hbegin hstray hst hfree] at htaken
  · rwa [emptyHook_forced (s := s.begin) hbegin hstray hst hserv] at htaken
  · rwa [emptyHook_service (s := s.begin) hbegin hstray hst hserv] at htaken

/-- LATCH_DONE by the pending command and the window it finds (R71, R77, R80). -/
theorem latchDone_ruled (hrun : s.running = true) (hi : i ≤ 255) (hk : s.hook? (256 * p + i) = some k) (l : Latch) :
    let h := 256 * p + i
    let c := Instr.latchDone p i l.code
    let q := s.begin.latchDone h
    (k.latch ≠ some l → EventLeaves c s s.begin) ∧
    (k.latch = some l →
      (l = .closed → k.state = .opened → k.phase = .closing → EventLeaves c s (q.completeLapse h k)) ∧
      (l = .closed → k.state = .opened → k.phase = .ending → EventLeaves c s (q.updHook h Hook.windowEnded)) ∧
      (l = .opened ∨ k.state ≠ .opened ∨ (k.phase ≠ .closing ∧ k.phase ≠ .ending) → EventLeaves c s q)) := by
  intro h c q
  have hbegin : s.begin.hook? h = some k := hk
  have htaken : EventLeaves c s (s.begin.confirmLatch h l) := latchDone_taken hrun hi hk l
  refine ⟨fun hl => ?_, fun hl => ⟨?_, ?_, fun hplain => ?_⟩⟩
  · rwa [confirmLatch_other hbegin hl] at htaken
  · rintro rfl hst hph
    rwa [confirmLatch_closing hbegin hl hst hph] at htaken
  · rintro rfl hst hph
    rwa [confirmLatch_ending hbegin hl hst hph] at htaken
  · rwa [confirmLatch_done hbegin hl hplain] at htaken

end

/-- Settles O42: reports and panel messages as commands, what a heard report does to its zone, and the zones heard in
RECOVERY. -/
theorem reportsActByTheStateTheyFind : Obligations.ReportsActByTheStateTheyFind := by
  refine ⟨fun s hrun => ⟨zoneReport_ruled s hrun, fun bytes => rfl, panelMessages_absent s, hookLoaded_noValue s,
      latchByte_noValue s, fun p i k hi hk => ⟨hookLoaded_ruled hrun hi hk, hookEmptied_ruled hrun hi hk,
        latchDone_ruled hrun hi hk⟩⟩,
    fun s z occupied => ⟨rfl, hearZone_link_self s, fun y => hearZone_link_other s, hearZone_frame s z, ?_⟩,
    fun s z => ⟨fun hnone => heardInRecovery_none hnone z, fun rc hrc => ⟨heardInRecovery_last hrc,
      heardInRecovery_left hrc⟩⟩⟩
  simp [State.hearZone, State.setLink]

end Sys2Proof.Machine
end

section
/-! The bindings of records and hooks (R69, R70, R72): what the agreement of the two is read from, and the operations that
leave it, which are all but ACCEPT's, a retirement's, the layout's and a power-on's. -/

namespace Sys2Proof.Machine

open Sys2Proof.Safety

/-! ### What the agreement is read from -/

/-- The ticket and the hook of every live record, in table order. -/
def Custody.tags (c : Custody) : List (Nat × Nat) := c.records.map fun r => (r.ticket, r.hook)

/-- What is bound to a hook, and whether the hook is FREE. -/
def Hook.tie (k : Hook) : Option Nat × Bool := (k.bound, k.state == .free)

/-- Whether a panel is in the layout, and the ties of its hooks. -/
def Panel.shape (p : Panel) : Bool × List (Option Nat × Bool) := (p.inLayout, p.hooks.map Hook.tie)

/-- The ties of every panel. -/
def Cabinet.board (b : Cabinet) : List (Bool × List (Option Nat × Bool)) := b.panels.map Panel.shape

/-- Of every panel, whether it is in the layout and how many hooks it has. -/
def Cabinet.racks (b : Cabinet) : List (Bool × Nat) := b.panels.map fun p => (p.inLayout, p.hooks.length)

section

variable {s q : State}

theorem tie_of_board (h : q.kc.board = s.kc.board) (n : Nat) : (q.hook? n).map Hook.tie = (s.hook? n).map Hook.tie := by
  have htie (p : State) : (p.hook? n).map Hook.tie =
      ((p.kc.board[panelOf n]?).map Prod.snd).bind fun l => l[n % Config.hooksPerPanel]? := by
    simp only [State.hook?, State.panel, Cabinet.board, List.getD_eq_getElem?_getD, List.getElem?_map]
    cases p.kc.panels[panelOf n]? <;> simp [Panel.shape, Panel.absent]
  rw [htie, htie, h]

theorem racks_of_board (h : q.kc.board = s.kc.board) : q.kc.racks = s.kc.racks := by
  have hracks (b : Cabinet) : b.racks = b.board.map fun p => (p.1, p.2.length) := by
    simp [Cabinet.racks, Cabinet.board, Panel.shape]
  rw [hracks, hracks, h]

/-- A panel has 256 hooks at most, and none outside the layout (R69). -/
def PanelsSound (s : State) : Prop := ∀ p ∈ s.kc.panels, p.hooks.length ≤ 256 ∧ (p.inLayout = false → p.hooks = [])

theorem panelsSound_of_racks (h : q.kc.racks = s.kc.racks) (hs : PanelsSound s) : PanelsSound q := by
  have hiff (p : State) : PanelsSound p ↔ ∀ x ∈ p.kc.racks, x.2 ≤ 256 ∧ (x.1 = false → x.2 = 0) := by
    simp [PanelsSound, Cabinet.racks]
  rw [hiff] at hs ⊢
  rwa [h]

/-- The tags say which hook the record of a ticket names. -/
theorem hook_of_tags (htags : q.ct.tags = s.ct.tags) (t : Nat) :
    (q.record? t).map Record.hook = (s.record? t).map Record.hook := by
  have hfind (p : State) : (p.record? t).map Record.hook = (p.ct.tags.find? fun x => x.1 == t).map Prod.snd := by
    rw [Custody.tags, List.find?_map, Option.map_map]
    rfl
  rw [hfind, hfind, htags]

theorem bound_eq_tie (o : Option Hook) : o.map Hook.bound = (o.map Hook.tie).map Prod.fst := by
  rw [Option.map_map]; rfl

/-- The agreement is read from the tags and the board alone. -/
theorem hooksAgree_of_same (htags : q.ct.tags = s.ct.tags) (hboard : q.kc.board = s.kc.board) (h : HooksAgree s) :
    HooksAgree q := by
  obtain ⟨hlive, hbound, hfree, hpanels⟩ := h
  have htie := tie_of_board hboard
  have hooked {n : Nat} {k : Hook} (hk : q.hook? n = some k) : ∃ k', s.hook? n = some k' ∧ k'.tie = k.tie :=
    Option.map_eq_some_iff.mp ((htie n).symm.trans (congrArg (Option.map Hook.tie) hk))
  refine ⟨fun r hr => ?_, fun n k t hk ht => ?_, fun n k hk => ?_, panelsSound_of_racks (racks_of_board hboard) hpanels⟩
  · have hmem : (r.ticket, r.hook) ∈ s.ct.tags := htags ▸ List.mem_map_of_mem hr
    obtain ⟨r', hr', hpair⟩ := List.mem_map.mp hmem
    obtain ⟨ht, hhook⟩ := Prod.mk.inj hpair
    rw [bound_eq_tie, htie, ← bound_eq_tie, ← hhook, ← ht]
    exact hlive r' hr'
  · obtain ⟨k', hk', hsame⟩ := hooked hk
    obtain ⟨r', hr', rfl⟩ := hbound n k' t hk' ((congrArg Prod.fst hsame).trans ht)
    exact Option.map_eq_some_iff.mp ((hook_of_tags htags t).trans (congrArg (Option.map Record.hook) hr'))
  · obtain ⟨k', hk', hsame⟩ := hooked hk
    obtain ⟨hb, hst⟩ := Prod.mk.inj hsame
    have hk'free := hfree n k' hk'
    rwa [← beq_iff_eq, hst, hb, beq_iff_eq] at hk'free

end

/-! ### Operations that keep every ticket and its hook -/

section

variable (s : State)

@[simp] theorem tags_modRecord (t : Nat) (f : Record → Record)
    (hf : ∀ r, (f r).ticket = r.ticket ∧ (f r).hook = r.hook) : (s.modRecord t f).ct.tags = s.ct.tags := by
  simp only [Custody.tags, State.modRecord, List.map_map]
  refine List.map_congr_left fun r _ => ?_
  simp only [Function.comp]
  split <;> simp [hf]

@[simp] theorem tags_setState (t : Nat) (st : RecordState) : (s.setState t st).ct.tags = s.ct.tags := by
  simp [State.setState]

@[simp] theorem tags_holdStall (t : Nat) (st : StallId) : (s.holdStall t st).ct.tags = s.ct.tags := by
  simp [State.holdStall]

@[simp] theorem tags_releaseStall (t : Nat) : (s.releaseStall t).ct.tags = s.ct.tags := by
  unfold State.releaseStall; split <;> simp

@[simp] theorem tags_noteFallback (t : Nat) (b : Bool) : (s.noteFallback t b).ct.tags = s.ct.tags := by
  cases b <;> simp [State.noteFallback]

@[simp] theorem tags_compareGrade (st : Stall) : (s.compareGrade st).ct.tags = s.ct.tags := by
  unfold State.compareGrade; repeat' split
  all_goals simp

@[simp] theorem tags_enterStored (t : Nat) : (s.enterStored t).ct.tags = s.ct.tags := by
  unfold State.enterStored; dsimp only; repeat' split
  all_goals simp [Record.freed]

@[simp] theorem tags_setMarks (t : Nat) (p k : Bool) : (s.setMarks t p k).ct.tags = s.ct.tags := by
  unfold State.setMarks; split <;> simp

@[simp] theorem tags_parkConfirmed (t : Nat) : (s.parkConfirmed t).ct.tags = s.ct.tags := by
  unfold State.parkConfirmed; repeat' split
  all_goals simp

@[simp] theorem tags_keyHome (t : Nat) : (s.keyHome t).ct.tags = s.ct.tags := by
  unfold State.keyHome; dsimp only; repeat' split
  all_goals simp [Record.freed]

@[simp] theorem tags_keyTaken (t a : Nat) : (s.keyTaken t a).ct.tags = s.ct.tags := by
  unfold State.keyTaken; repeat' split
  all_goals simp

@[simp] theorem tags_undoJob (t : Nat) (st : RecordState) : (s.undoJob t st).ct.tags = s.ct.tags := by
  simp [State.undoJob, Record.freed]

@[simp] theorem tags_windowLapsed (t : Nat) : (s.windowLapsed t).ct.tags = s.ct.tags := by
  unfold State.windowLapsed; repeat' split
  all_goals simp

@[simp] theorem tags_suspend (t : Nat) (w : SuspendReason) : (s.suspend t w).ct.tags = s.ct.tags := by
  unfold State.suspend; split <;> simp

@[simp] theorem tags_keyForced (t : Nat) : (s.keyForced t).ct.tags = s.ct.tags := by
  unfold State.keyForced; repeat' split
  all_goals simp

@[simp] theorem tags_takeKey (h : Nat) (k : Hook) : (s.takeKey h k).ct.tags = s.ct.tags := by
  unfold State.takeKey; dsimp only; split <;> simp

@[simp] theorem tags_forceKey (h : Nat) (k : Hook) : (s.forceKey h k).ct.tags = s.ct.tags := by
  unfold State.forceKey; dsimp only; split <;> simp

@[simp] theorem tags_completeLapse (h : Nat) (k : Hook) : (s.completeLapse h k).ct.tags = s.ct.tags := by
  unfold State.completeLapse; dsimp only; repeat' split
  all_goals simp

@[simp] theorem tags_serviceKey (h : Nat) (k : Hook) : (s.serviceKey h k).ct.tags = s.ct.tags := by
  unfold State.serviceKey; dsimp only; split
  · simp
  · split <;> simp

@[simp] theorem tags_stagedOk (t b : Nat) : (s.stagedOk t b).ct.tags = s.ct.tags := by
  unfold State.stagedOk; dsimp only; repeat' split
  all_goals simp

@[simp] theorem tags_enterWaiting (t : Nat) : (s.enterWaiting t).ct.tags = s.ct.tags := by
  simp [State.enterWaiting]

@[simp] theorem tags_clearSuspension (t : Nat) : (s.clearSuspension t).ct.tags = s.ct.tags := by
  simp [State.clearSuspension]

@[simp] theorem tags_grant (r : Record) (st : StallId) (b : Bool) : (s.grant r st b).ct.tags = s.ct.tags := by
  simp [State.grant]

@[simp] theorem tags_servePass : s.servePass.ct.tags = s.ct.tags :=
  serveList_induction (P := fun q => q.ct.tags = s.ct.tags) rfl fun q r st fallback _ _ hq =>
    (tags_grant q r st fallback).trans hq

@[simp] theorem tags_finish : s.finish.ct.tags = s.ct.tags := by
  unfold State.finish State.serveStep
  split <;> simp

@[simp] theorem tags_newCall (r : Record) (c : CallField) : (s.newCall r c).ct.tags = s.ct.tags := by
  unfold State.newCall State.setCall; dsimp only; split <;> simp

@[simp] theorem tags_upgradeCall (t tier : Nat) : (s.upgradeCall t tier).ct.tags = s.ct.tags := by
  simp [State.upgradeCall]

@[simp] theorem tags_cancelCall (r : Record) : (s.cancelCall r).ct.tags = s.ct.tags := by
  unfold State.cancelCall; dsimp only; split <;> simp

@[simp] theorem tags_takeJob (r : Record) (e : Entry) (a : Nat) : (s.takeJob r e a).ct.tags = s.ct.tags := by
  unfold State.takeJob State.acked; split <;> simp

@[simp] theorem tags_placeInStray (r : Record) (st : StallId) (x : Stall) : (s.placeInStray r st x).ct.tags = s.ct.tags := by
  unfold State.placeInStray; dsimp only; split <;> simp

@[simp] theorem tags_reparkCar (r : Record) (a : Nat) (found : Option (StallId × Bool)) :
    (s.reparkCar r a found).ct.tags = s.ct.tags := by
  unfold State.reparkCar; dsimp only; split <;> simp

/-- What every step of a fold leaves, the fold leaves. -/
theorem foldl_leaves {α β : Type} (view : State → β) (f : State → α → State) (hf : ∀ q a, view (f q a) = view q)
    (l : List α) : view (l.foldl f s) = view s :=
  List.foldlRecOn l f (motive := fun q => view q = view s) rfl fun q hq a _ => (hf q a).trans hq

@[simp] theorem tags_regrade (n g : Nat) : (s.regrade n g).ct.tags = s.ct.tags :=
  foldl_leaves _ (fun q => q.ct.tags) _ (fun q st => tags_compareGrade q st) _

@[simp] theorem tags_takeStall (z : Nat) (occupied : BitVec 96) (i : Nat) :
    (State.takeStall z occupied s i).ct.tags = s.ct.tags := by
  unfold State.takeStall State.heldOccupied State.heldVacant State.freeOccupied State.freeVacant State.stallEmpty
  dsimp only; repeat' split
  all_goals simp

@[simp] theorem tags_takeReport (z : Nat) (occupied : BitVec 96) : (s.takeReport z occupied).ct.tags = s.ct.tags :=
  (foldl_leaves _ (fun q => q.ct.tags) _ (fun q i => tags_takeStall q z occupied i) _).trans (by simp [State.hearZone])

@[simp] theorem tags_setPanelService (p : Nat) (b : Bool) : (s.setPanelService p b).ct.tags = s.ct.tags := by
  refine (foldl_leaves _ (fun q => q.ct.tags) _ (fun q i => ?_) _).trans (by simp)
  repeat' split
  all_goals simp

@[simp] theorem tags_loadHook (h tag : Nat) : (s.loadHook h tag).ct.tags = s.ct.tags := by
  unfold State.loadHook State.mishung; repeat' split
  all_goals simp

@[simp] theorem tags_emptyHook (h : Nat) (latched : Bool) : (s.emptyHook h latched).ct.tags = s.ct.tags := by
  unfold State.emptyHook; repeat' split
  all_goals simp

@[simp] theorem tags_confirmLatch (h : Nat) (p : Latch) : (s.confirmLatch h p).ct.tags = s.ct.tags := by
  unfold State.confirmLatch; dsimp only; repeat' split
  all_goals simp

@[simp] theorem tags_expireWindow (h : Nat) : (s.expireWindow h).ct.tags = s.ct.tags := by
  unfold State.expireWindow; repeat' split
  all_goals simp

@[simp] theorem tags_resendLatch (h : Nat) : (s.resendLatch h).ct.tags = s.ct.tags := by
  unfold State.resendLatch; split <;> simp

@[simp] theorem tags_warnKey (h : Nat) : (s.warnKey h).ct.tags = s.ct.tags := by
  unfold State.warnKey; dsimp only; repeat' split
  all_goals simp

@[simp] theorem tags_overdueKey (h : Nat) : (s.overdueKey h).ct.tags = s.ct.tags := by
  unfold State.overdueKey; dsimp only; repeat' split
  all_goals simp

@[simp] theorem tags_expireDwell (b : Nat) : (s.expireDwell b).ct.tags = s.ct.tags := by
  unfold State.expireDwell; dsimp only; split <;> simp

@[simp] theorem tags_tickSecond : s.tickSecond.ct.tags = s.ct.tags := by
  simp [State.tickSecond, State.tickTimers, Custody.tags]

theorem Record.reconcile_tag (limit : Nat) (out : Bool) (holder : Option Nat) (moved : Bool) (r : Record) :
    ((r.reconcile limit out holder moved).ticket, (r.reconcile limit out holder moved).hook) = (r.ticket, r.hook) := by
  unfold Record.reconcile; dsimp only; repeat' split
  all_goals rfl

@[simp] theorem tags_restarted : s.restarted.ct.tags = s.ct.tags := by
  rw [Custody.tags, restarted_records, List.map_map]
  exact List.map_congr_left fun r _ => Record.reconcile_tag _ _ _ _ r

@[simp] theorem tags_warmRestart : s.warmRestart.ct.tags = s.ct.tags := by
  unfold State.warmRestart; dsimp only; split <;> simp

end

end Sys2Proof.Machine
end

section
/-! The operations that keep every tie: a hook is unbound by a retirement alone, and every other change of a hook leaves it FREE
or leaves it bound (R70, R72 to R80, R91). -/

namespace Sys2Proof.Machine

/-! ### Changes of one hook -/

section

variable (s : State)

/-- A row changed to one of the same shape leaves the shapes as they were. -/
theorem map_modify_same {α β : Type} (g : α → β) (l : List α) (i : Nat) (f : α → α)
    (h : ∀ x, l[i]? = some x → g (f x) = g x) : (l.modify i f).map g = l.map g := by
  refine List.ext_getElem? fun j => ?_
  rw [List.getElem?_map, List.getElem?_map, List.getElem?_modify]
  cases hj : l[j]? with
  | none => rfl
  | some x =>
    by_cases hij : i = j
    · subst hij; simp [h x hj]
    · simp [hij]

/-- Whatever becomes of a hook, the panels have the hooks they had. -/
@[simp] theorem racks_modHook (h : Nat) (f : Hook → Hook) : (s.modHook h f).kc.racks = s.kc.racks :=
  map_modify_same _ _ _ _ fun p _ => by simp

@[simp] theorem racks_sendLatch (h : Nat) (p : Latch) : (s.sendLatch h p).kc.racks = s.kc.racks :=
  racks_modHook s h _

@[simp] theorem racks_updHook (h : Nat) (f : Hook → Hook) : (s.updHook h f).kc.racks = s.kc.racks := by
  unfold State.updHook; split
  · rfl
  · dsimp only; split <;> simp

/-- A change of a hook that leaves its tie leaves the board. -/
theorem board_modHook (h : Nat) (f : Hook → Hook) (hf : ∀ k, s.hook? h = some k → (f k).tie = k.tie) :
    (s.modHook h f).kc.board = s.kc.board := by
  refine map_modify_same Panel.shape _ _ _ fun p hp => Prod.ext rfl (map_modify_same Hook.tie _ _ f fun k hk => hf k ?_)
  simp [State.hook?, State.panel, List.getD_eq_getElem?_getD, hp, hk]

@[simp] theorem board_sendLatch (h : Nat) (p : Latch) : (s.sendLatch h p).kc.board = s.kc.board :=
  board_modHook s h _ fun _ _ => rfl

theorem board_updHook (h : Nat) (f : Hook → Hook) (hf : ∀ k, s.hook? h = some k → (f k).tie = k.tie) :
    (s.updHook h f).kc.board = s.kc.board := by
  have hmod := board_modHook s h f hf
  unfold State.updHook; split
  · rfl
  · dsimp only; split <;> simp [hmod]

/-- A hook that is bound and stays so keeps its tie. -/
theorem tie_eq {k k' : Hook} (hb : k'.bound = k.bound) (hst : k.state ≠ .free) (hst' : k'.state ≠ .free) :
    k'.tie = k.tie := by
  simp [Hook.tie, hb, hst, hst']

variable {s} {h : Nat} {k : Hook}

/-- A key hung, taken or forced, a window opened or ended: the hook is in another state than FREE before and after. -/
theorem board_updHook_used (hk : s.hook? h = some k) (hst : k.state ≠ .free) {f : Hook → Hook}
    (hb : (f k).bound = k.bound) (hst' : (f k).state ≠ .free) : (s.updHook h f).kc.board = s.kc.board :=
  board_updHook s h f fun k' hk' => by
    obtain rfl : k = k' := Option.some.inj (hk.symm.trans hk')
    exact tie_eq hb hst hst'

theorem board_requestWindow (h a : Nat) : (s.requestWindow h a).kc.board = s.kc.board := by
  unfold State.requestWindow
  split
  · rfl
  next k hk =>
    split
    next hst => exact board_updHook_used hk (by simp [hst]) rfl (by simp [Hook.openFor])
    · exact board_updHook s h _ fun _ _ => rfl
    · rfl

theorem board_endWindow (h : Nat) : (s.endWindow h).kc.board = s.kc.board := by
  unfold State.endWindow
  split
  · rfl
  next k hk =>
    split
    next hst =>
      split
      · exact board_updHook_used hk (by simp [hst]) rfl (by simp [Hook.windowEnded])
      · split
        · exact board_updHook s h _ fun _ _ => rfl
        · rfl
    next hst =>
      split
      · exact board_updHook_used hk (by simp [hst]) rfl (by simp [Hook.windowEnded])
      · rfl
    · rfl

theorem board_reparkHook (h a : Nat) : (s.reparkHook h a).kc.board = s.kc.board := by
  unfold State.reparkHook
  split
  · exact board_updHook s h _ fun _ _ => rfl
  · exact board_requestWindow h a
  · rfl

@[simp] theorem board_suspend (t : Nat) (w : SuspendReason) : (s.suspend t w).kc.board = s.kc.board := by
  unfold State.suspend
  split
  · rfl
  · simp [board_endWindow]

@[simp] theorem board_keyForced (t : Nat) : (s.keyForced t).kc.board = s.kc.board := by
  unfold State.keyForced
  split
  · rfl
  · split <;> simp

@[simp] theorem board_stagedOk (t b : Nat) : (s.stagedOk t b).kc.board = s.kc.board := by
  have hstop (q : State) (n : Nat) : (q.updHook n Hook.stopCustody).kc.board = q.kc.board :=
    board_updHook q n _ fun _ _ => rfl
  unfold State.stagedOk; dsimp only
  split
  · rfl
  · split <;> simp [hstop]

@[simp] theorem board_takeJob (r : Record) (e : Entry) (a : Nat) : (s.takeJob r e a).kc.board = s.kc.board := by
  unfold State.takeJob State.acked
  split <;> simp [board_requestWindow]

@[simp] theorem board_reparkCar (r : Record) (a : Nat) (found : Option (StallId × Bool)) :
    (s.reparkCar r a found).kc.board = s.kc.board := by
  unfold State.reparkCar; dsimp only
  split <;> simp [board_reparkHook]

/-! ### Keys hung and removed, windows lapsed (R73 to R77, R82, R88) -/

theorem board_takeKey (hk : s.hook? h = some k) (hst : k.state ≠ .free) : (s.takeKey h k).kc.board = s.kc.board := by
  rw [kc_takeKey]
  exact board_updHook_used hk hst rfl nofun

theorem board_forceKey (hk : s.hook? h = some k) (hst : k.state ≠ .free) : (s.forceKey h k).kc.board = s.kc.board := by
  have hout : (s.updHook h Hook.forcedOut).kc.board = s.kc.board := board_updHook_used hk hst rfl nofun
  cases ht : k.bound with
  | none => simp only [State.forceKey, ht]; exact hout
  | some t => simp [forceKey_bound ht, hout]

theorem board_serviceKey (hk : s.hook? h = some k) (hst : k.state ≠ .free) : (s.serviceKey h k).kc.board = s.kc.board := by
  rw [kc_serviceKey]
  refine board_updHook_used hk hst ?_ ?_ <;> unfold Hook.servedOut <;> split <;> simp

/-- The hook may have changed since `k` was read, and is bound still. -/
theorem board_completeLapse {k' : Hook} (hk : s.hook? h = some k') (hst : k'.state ≠ .free) :
    (s.completeLapse h k).kc.board = s.kc.board := by
  by_cases hcount : k.count = 0
  · rw [completeLapse_first hcount]
    exact board_updHook_used hk hst rfl nofun
  · have hsecond : (s.updHook h Hook.secondLapse).kc.board = s.kc.board := board_updHook_used hk hst rfl nofun
    simp only [State.completeLapse, hcount, if_false]
    split
    · exact (congrArg Cabinet.board (State.windowLapsed_frame _ _).2.1).trans hsecond
    · exact hsecond

@[simp] theorem board_loadHook (n tag : Nat) : (s.loadHook n tag).kc.board = s.kc.board := by
  have hmishung : (s.mishung n tag).kc.board = s.kc.board :=
    board_updHook s n _ fun _ _ => rfl
  have hhung {k : Hook} (hk : s.hook? n = some k) (hst : k.state ≠ .free) :
      ((s.updHook n Hook.hung).keyHome tag).kc.board = s.kc.board := by
    rw [(State.keyHome_frame _ _).2.1]
    exact board_updHook_used hk hst rfl nofun
  unfold State.loadHook
  split
  · rfl
  next k hk =>
    split
    · rfl
    · rfl
    · rfl
    · exact hmishung
    next hst => split; exacts [hhung hk (by simp [hst]), hmishung]
    next hst => split; exacts [hhung hk (by simp [hst]), hmishung]

@[simp] theorem board_emptyHook (n : Nat) (latched : Bool) : (s.emptyHook n latched).kc.board = s.kc.board := by
  unfold State.emptyHook
  split
  · rfl
  next k hk =>
    split
    · exact board_updHook s n _ fun _ _ => rfl
    next hst => split; exacts [board_forceKey hk (by simp [hst]), board_takeKey hk (by simp [hst])]
    next hst => split; exacts [board_serviceKey hk (by simp [hst]), board_forceKey hk (by simp [hst])]
    · rfl

theorem board_latchDone (n : Nat) : (s.latchDone n).kc.board = s.kc.board :=
    board_updHook s n _ fun _ _ => rfl

/-- A closed latch completes a lapse or ends a window at a hook that is OPEN (R71, R77, R80). -/
@[simp] theorem board_confirmLatch (n : Nat) (p : Latch) : (s.confirmLatch n p).kc.board = s.kc.board := by
  cases hk : s.hook? n with
  | none => simp only [State.confirmLatch, hk]
  | some k =>
    obtain ⟨latch, timer, hdone⟩ :=
      hook?_updHook_upToLatch s n (fun x => { x with latch := none, repeatTimer := none }) k hk
    simp only [State.confirmLatch, hk]
    split
    · split
      next hwindow =>
        have hst : k.state ≠ .free := by simp [hwindow.2]
        split
        · exact (board_completeLapse hdone hst).trans (board_latchDone n)
        · exact (board_updHook_used hdone hst rfl (by simp [Hook.windowEnded])).trans (board_latchDone n)
        · exact board_latchDone n
      · exact board_latchDone n
    · rfl

@[simp] theorem board_expireWindow (n : Nat) : (s.expireWindow n).kc.board = s.kc.board := by
  unfold State.expireWindow
  split
  · rfl
  next k hk =>
    split
    next hst =>
      split
      · exact board_completeLapse hk (by simp [hst])
      · exact board_updHook s n _ fun _ _ => rfl
    next hst => exact board_completeLapse hk (by simp [hst])
    · exact board_updHook s n _ fun _ _ => rfl

/-! ### Latches, warnings, panel service, reports, seconds and restarts -/

@[simp] theorem board_resendLatch (n : Nat) : (s.resendLatch n).kc.board = s.kc.board := by
  unfold State.resendLatch; split <;> simp

@[simp] theorem board_warnKey (n : Nat) : (s.warnKey n).kc.board = s.kc.board := by
  have hwarned : (s.updHook n fun x => { x with warned := true }).kc.board = s.kc.board :=
    board_updHook s n _ fun _ _ => rfl
  unfold State.warnKey; dsimp only
  split
  · rfl
  · split
    · exact hwarned
    · split <;> simp [hwarned]

@[simp] theorem board_overdueKey (n : Nat) : (s.overdueKey n).kc.board = s.kc.board := by
  have hoverdue : (s.updHook n fun x => { x with overdue := true }).kc.board = s.kc.board :=
    board_updHook s n _ fun _ _ => rfl
  unfold State.overdueKey; dsimp only
  split
  · rfl
  · split <;> simp [hoverdue]

@[simp] theorem board_setPanelService (p : Nat) (b : Bool) : (s.setPanelService p b).kc.board = s.kc.board := by
  refine (foldl_leaves _ (fun q => q.kc.board) _ (fun q i => ?_) _).trans ?_
  · repeat' split
    all_goals simp
  · exact map_modify_same Panel.shape _ _ _ fun _ _ => rfl

@[simp] theorem board_takeStall (z : Nat) (occupied : BitVec 96) (i : Nat) :
    (State.takeStall z occupied s i).kc.board = s.kc.board := by
  unfold State.takeStall State.heldOccupied State.heldVacant State.freeOccupied State.freeVacant State.stallEmpty
  dsimp only; repeat' split
  all_goals simp

@[simp] theorem board_takeReport (z : Nat) (occupied : BitVec 96) : (s.takeReport z occupied).kc.board = s.kc.board :=
  (foldl_leaves _ (fun q => q.kc.board) _ (fun _ i => board_takeStall z occupied i) _).trans (by simp [State.hearZone])

theorem Hook.restart_tie (k : Hook) : k.restart.tie = k.tie := by
  unfold Hook.restart; dsimp only
  split
  next hused =>
    have hst : k.state ≠ .free := by rcases hused with h | ⟨h, -⟩ <;> simp [h]
    exact tie_eq rfl hst nofun
  · rfl

/-- Hooks changed alike, each keeping its tie. -/
theorem board_mapHooks {b c : Cabinet} (f : Panel → Panel) (g : Hook → Hook) (hpanels : c.panels = b.panels.map f)
    (hf : ∀ p, (f p).inLayout = p.inLayout ∧ (f p).hooks = p.hooks.map g) (hg : ∀ k, (g k).tie = k.tie) :
    c.board = b.board := by
  have hshape (p : Panel) : (f p).shape = p.shape := by
    obtain ⟨hin, hhooks⟩ := hf p
    simp [Panel.shape, hin, hhooks, hg]
  simp [Cabinet.board, hpanels, hshape]

@[simp] theorem board_tickSecond : s.tickSecond.kc.board = s.kc.board :=
  board_mapHooks _ Hook.tick rfl (fun _ => ⟨rfl, rfl⟩) fun _ => rfl

theorem board_restartCustodies (q : State) : q.restartCustodies.kc.board = q.kc.board :=
  board_mapHooks (fun p => { p with hooks := p.hooks.map q.restartCustody }) q.restartCustody rfl (fun _ => ⟨rfl, rfl⟩)
    fun k => by unfold State.restartCustody; split <;> rfl

/-- A restart closes windows and relatches, and unbinds no hook (R91). -/
@[simp] theorem board_restarted : s.restarted.kc.board = s.kc.board := by
  have hrecovery (q : State) : q.beginRecovery.kc = q.kc := by
    unfold State.beginRecovery State.endRecovery; repeat' split
    all_goals rfl
  have hreset : s.volatileReset.kc.board = s.kc.board :=
    board_mapHooks Panel.restart Hook.restart rfl (fun _ => ⟨rfl, rfl⟩) Hook.restart_tie
  rw [State.restarted, hrecovery, board_restartCustodies]
  exact hreset

@[simp] theorem board_warmRestart : s.warmRestart.kc.board = s.kc.board := by
  unfold State.warmRestart; dsimp only; split <;> simp

end

end Sys2Proof.Machine
end

section
/-! ACCEPT, a retirement, the layout and a power-on keep the agreement of records and hooks (R8, R17, R72, R176, R178). -/

namespace Sys2Proof.Machine

open Sys2Proof.Safety

variable {s : State}

/-! ### The hook that ACCEPT binds (R7, R72) -/

/-- The hook found is FREE, at its place on one of the panels. -/
theorem freeHookFrom_spec {l : List Panel} {p h : Nat} (hfound : freeHookFrom p l = some h) :
    ∃ (j i : Nat) (x : Panel) (k : Hook), h = Config.hooksPerPanel * (p + j) + i ∧ l[j]? = some x ∧
      x.hooks[i]? = some k ∧ k.state = .free := by
  induction l generalizing p with
  | nil => cases hfound
  | cons x xs ih =>
    unfold freeHookFrom at hfound
    split at hfound
    next i hi =>
      obtain ⟨hlt, hk, -⟩ := List.findIdx?_eq_some_iff_getElem.mp hi
      have hst : x.hooks[i].state = .free := by
        simp only [Hook.freeToBind, Bool.and_eq_true, beq_iff_eq] at hk
        exact hk.1
      exact ⟨0, i, x, x.hooks[i], (Option.some.inj hfound).symm, rfl, List.getElem?_eq_getElem hlt, hst⟩
    · obtain ⟨j, i, y, k, rfl, hy, hk, hst⟩ := ih hfound
      exact ⟨j + 1, i, y, k, by rw [Nat.add_assoc, Nat.add_comm 1 j], hy, hk, hst⟩

theorem freeHook_spec (hs : PanelsSound s) {h : Nat} (hfound : s.freeHook? = some h) :
    ∃ k, s.hook? h = some k ∧ k.state = .free := by
  obtain ⟨j, i, x, k, rfl, hx, hk, hst⟩ := freeHookFrom_spec hfound
  have hlen : x.hooks.length ≤ 256 := (hs x (List.mem_of_getElem? hx)).1
  have hi : i < Config.hooksPerPanel := by
    obtain ⟨hlt, -⟩ := List.getElem?_eq_some_iff.mp hk
    exact Nat.lt_of_lt_of_le hlt hlen
  refine ⟨k, ?_, hst⟩
  rw [Nat.zero_add, State.hook?, panelOf, Nat.mul_add_div (by decide), Nat.div_eq_of_lt hi, Nat.mul_add_mod,
    Nat.mod_eq_of_lt hi, Nat.add_zero, State.panel, List.getD_eq_getElem?_getD, hx, Option.getD_some, hk]

/-- The new record and its hook are bound to each other; no other record names a hook that was FREE. -/
theorem hooksAgree_enrol (h : HooksAgree s) (hlen : s.ct.records.length < 1024) (f : Arrival) {hook : Nat} (found : Bool)
    (sender : Option Nat) (hfound : s.freeHook? = some hook) : HooksAgree (s.enrol f hook found sender) := by
  obtain ⟨hlive, hbound, hfree, hpanels⟩ := h
  obtain ⟨k, hk, hst⟩ := freeHook_spec hpanels hfound
  have hfresh := (nextTicket_spec hlen).2.2
  have hunbound : k.bound = none := (hfree hook k hk).mp hst
  set q := s.enrol f hook found sender with hq
  have hself : q.hook? hook = some { k with state := .await, bound := some s.nextTicket } :=
    (hook?_enrol s f hook found sender hk hst).1
  have hother {n : Nat} (hn : n ≠ hook) : q.hook? n = s.hook? n := by
    rw [hq, State.enrol, State.bindHook, hook?_updHook_other _ _ _ _ hn]
    exact congrFun (hook?_congr (by simp)) n
  have hrecords : q.ct.records = insertRecord (s.newRecord f hook found sender) s.ct.records := by
    simp [hq, State.enrol, State.addRecord]
  have hracks : q.kc.racks = s.kc.racks := by simp [hq, State.enrol, State.bindHook]
  refine ⟨fun r hr => ?_, fun n k' t hk' ht => ?_, fun n k' hk' => ?_, panelsSound_of_racks hracks hpanels⟩
  · rw [hrecords, mem_insertRecord] at hr
    rcases hr with rfl | hr
    · show (q.hook? hook).map Hook.bound = some (some s.nextTicket)
      rw [hself]; rfl
    · have hne : r.hook ≠ hook := by
        intro he
        have := hlive r hr
        rw [he, hk, Option.map_some, hunbound] at this
        cases this
      rw [hother hne]
      exact hlive r hr
  · by_cases hn : n = hook
    · subst hn
      obtain rfl := Option.some.inj (hself.symm.trans hk')
      obtain rfl := Option.some.inj ht
      exact ⟨_, record?_enrol s f n found sender hlen, rfl⟩
    · obtain ⟨r, hr, hhook⟩ := hbound n k' t (hother hn ▸ hk') ht
      have hne : s.nextTicket ≠ t := by
        rintro rfl
        exact hfresh r (List.mem_of_find?_eq_some hr) (record?_ticket s _ r hr)
      refine ⟨r, ?_, hhook⟩
      rw [State.record?, hrecords, find?_insertRecord_other _ _ _ hne]
      exact hr
  · by_cases hn : n = hook
    · subst hn
      obtain rfl := Option.some.inj (hself.symm.trans hk')
      simp
    · exact hfree n k' (hother hn ▸ hk')

theorem hooksAgree_acceptCar (h : HooksAgree s) (hlen : s.ct.records.length < 1024) (f : Arrival) {hook : Nat}
    (found : Option (StallId × Bool)) (sender : Option Nat) (hfound : s.freeHook? = some hook) :
    HooksAgree (s.acceptCar f hook found sender) := by
  cases found with
  | none =>
    rw [acceptCar_none]
    exact hooksAgree_of_same (by simp) (by simp) (hooksAgree_enrol h hlen f false sender hfound)
  | some p =>
    rw [acceptCar_some]
    exact hooksAgree_of_same (by simp) (by simp) (hooksAgree_enrol h hlen f true sender hfound)

/-! ### The hook that a retirement frees (R17, R72) -/

theorem hook?_unbindHook_other {h n : Nat} (t : Nat) (hn : n ≠ h) : (s.unbindHook h t).hook? n = s.hook? n := by
  unfold State.unbindHook
  split
  · rfl
  · dsimp only; split <;> simp [hn]

theorem hook?_unbindHook_self {h t : Nat} {k : Hook} (hk : s.hook? h = some k) :
    ∃ k', (s.unbindHook h t).hook? h = some k' ∧ k'.state = .free ∧ k'.bound = none := by
  simp only [State.unbindHook, hk]
  split
  · exact ⟨{ Hook.freed t k with latch := some .opened, repeatTimer := some (Timer.start Config.latchRepeat) },
      by simp [hk], rfl, rfl⟩
  · exact ⟨Hook.freed t k, by simp [hk], rfl, rfl⟩

theorem racks_unbindHook (h t : Nat) : (s.unbindHook h t).kc.racks = s.kc.racks := by
  unfold State.unbindHook
  split
  · rfl
  · dsimp only; split <;> simp

/-- The record leaves with the binding of its hook; every other record names another hook. -/
theorem hooksAgree_unbound (h : HooksAgree s) {t : Nat} {r : Record} (hr : s.record? t = some r) :
    HooksAgree ((s.unbindHook r.hook t).dropRecord t) := by
  obtain ⟨hlive, hbound, hfree, hpanels⟩ := h
  have ht : r.ticket = t := record?_ticket s t r hr
  have hmine : (s.hook? r.hook).map Hook.bound = some (some t) := ht ▸ hlive r (List.mem_of_find?_eq_some hr)
  obtain ⟨k, hk, -⟩ := Option.map_eq_some_iff.mp hmine
  obtain ⟨k₀, hself, hst, hnone⟩ := hook?_unbindHook_self (t := t) hk
  set q := (s.unbindHook r.hook t).dropRecord t with hq
  replace hself : q.hook? r.hook = some k₀ := by simpa [hq] using hself
  have hother {n : Nat} (hn : n ≠ r.hook) : q.hook? n = s.hook? n := by simp [hq, hook?_unbindHook_other t hn]
  have hracks : q.kc.racks = s.kc.racks := by simp [hq, racks_unbindHook]
  have hrec (u : Nat) (hu : u ≠ t) : q.record? u = s.record? u := by simp [hq, hu]
  refine ⟨fun r' hr' => ?_, fun n k' u hk' hu => ?_, fun n k' hk' => ?_, panelsSound_of_racks hracks hpanels⟩
  · obtain ⟨hmem, hne⟩ : r' ∈ s.ct.records ∧ r'.ticket ≠ t := by simpa [hq, State.dropRecord] using hr'
    have hhook : r'.hook ≠ r.hook := by
      intro he
      have := hlive r' hmem
      rw [he, hmine] at this
      exact hne (Option.some.inj (Option.some.inj this)).symm
    rw [hother hhook]
    exact hlive r' hmem
  · have hn : n ≠ r.hook := by
      rintro rfl
      obtain rfl := Option.some.inj (hself.symm.trans hk')
      cases hnone.symm.trans hu
    obtain ⟨r', hr', hhook⟩ := hbound n k' u (hother hn ▸ hk') hu
    have hne : u ≠ t := by
      rintro rfl
      exact hn (hhook.symm.trans (congrArg Record.hook (Option.some.inj (hr'.symm.trans hr))))
    exact ⟨r', (hrec u hne).trans hr', hhook⟩
  · by_cases hn : n = r.hook
    · subst hn
      obtain rfl := Option.some.inj (hself.symm.trans hk')
      simp [hst, hnone]
    · exact hfree n k' (hother hn ▸ hk')

theorem hooksAgree_retireRecord (h : HooksAgree s) (t : Nat) : HooksAgree (s.retireRecord t) := by
  unfold State.retireRecord
  split
  · exact h
  next r hr =>
    have hleft : HooksAgree ((s.releaseStall t).freeBay r.bay) := hooksAgree_of_same (by simp) (by simp) h
    have hrec : ∃ r', ((s.releaseStall t).freeBay r.bay).record? t = some r' ∧ r'.hook = r.hook :=
      Option.map_eq_some_iff.mp ((hook_of_tags (s := s) (by simp) t).trans (congrArg (Option.map Record.hook) hr))
    obtain ⟨r', hr', hhook⟩ := hrec
    rw [← hhook]
    exact hooksAgree_unbound hleft hr'

/-! ### The layout, CLEAR SITE and power-on (R176, R178, R183) -/

/-- The hooks of a new panel are FREE and bound to nothing; there were none at its places. -/
theorem hooksAgree_definePanel (h : HooksAgree s) {p : Nat} (hout : (s.panel p).inLayout = false) :
    HooksAgree (s.modPanel p fun _ => Panel.created) := by
  obtain ⟨hlive, hbound, hfree, hpanels⟩ := h
  set q := s.modPanel p fun _ => Panel.created with hq
  have hnew (n : Nat) : (q.hook? n = s.hook? n) ∨ s.hook? n = none ∧ ∀ k, q.hook? n = some k → k = Hook.created := by
    by_cases hn : panelOf n = p
    · by_cases hp : p < s.kc.panels.length
      · have hempty : (s.panel p).hooks = [] :=
          (hpanels _ (by rw [State.panel, List.getD_eq_getElem _ _ hp]; exact List.getElem_mem hp)).2 hout
        refine .inr ⟨by rw [State.hook?, hn, hempty]; rfl, fun k hk => ?_⟩
        rw [State.hook?, hn, hq, panel_modPanel_self s p _ hp] at hk
        exact List.eq_of_mem_replicate (List.mem_of_getElem? hk)
      · have hsame : q = s := by
          rw [hq, State.modPanel, List.modify_eq_self (Nat.le_of_not_lt hp)]
        exact .inl (by rw [hsame])
    · exact .inl (by rw [State.hook?, hq, panel_modPanel_other s _ _ _ (Ne.symm hn)]; rfl)
  refine ⟨fun r hr => ?_, fun n k t hk ht => ?_, fun n k hk => ?_, fun x hx => ?_⟩
  · rcases hnew r.hook with hsame | ⟨hnone, -⟩
    · rw [hsame]; exact hlive r hr
    · have := hlive r hr
      rw [hnone] at this; cases this
  · rcases hnew n with hsame | ⟨-, hcreated⟩
    · exact hbound n k t (hsame ▸ hk) ht
    · rw [hcreated k hk] at ht; cases ht
  · rcases hnew n with hsame | ⟨-, hcreated⟩
    · exact hfree n k (hsame ▸ hk)
    · rw [hcreated k hk]; decide
  · obtain ⟨i, hi⟩ := List.mem_iff_getElem?.mp hx
    rw [hq, State.modPanel, List.getElem?_modify] at hi
    obtain ⟨y, hy, rfl⟩ := Option.map_eq_some_iff.mp hi
    split
    · exact ⟨List.length_replicate.le, nofun⟩
    · exact hpanels y (List.mem_of_getElem? hy)

/-- Without records, and with every panel out of the layout. -/
theorem hooksAgree_powerOn {q : State} (hct : q.ct.records = []) (hkc : q.kc.panels = Cabinet.powerOn.panels) :
    HooksAgree q := by
  have hpanels (p : Panel) (hp : p ∈ q.kc.panels) : p = Panel.absent := List.eq_of_mem_replicate (hkc ▸ hp)
  have hhook (n : Nat) : q.hook? n = none := by
    have hpanel : q.panel (panelOf n) = Panel.absent := by
      unfold State.panel
      rw [List.getD_eq_getElem?_getD]
      cases hp : q.kc.panels[panelOf n]? with
      | none => rfl
      | some p => exact hpanels p (List.mem_of_getElem? hp)
    rw [State.hook?, hpanel]; rfl
  refine ⟨fun r hr => ?_, fun n k t hk => ?_, fun n k hk => ?_, fun p hp => ?_⟩
  · rw [hct] at hr; cases hr
  · rw [hhook] at hk; cases hk
  · rw [hhook] at hk; cases hk
  · rw [hpanels p hp]; decide

end Sys2Proof.Machine
end

section
/-! Every command keeps the agreement of records and hooks: first the ports and the events in general, then the plans of the
commands that bind, free or use a hook, then the commands. -/

namespace Sys2Proof.Machine

open Sys2Proof.Safety

/-! ### Plans, ports and events -/

/-- The state an outcome answers, if any, keeps the agreement of `s`. -/
def HooksKept (s : State) (o : Host.Outcome State Fault Refusal) : Prop :=
  ∀ t, o = .next t → HooksAgree s → HooksAgree t

/-- The plan's effect keeps the agreement of a state with the records and the panels of `s`. -/
def Plan.KeepsHooks (p : Plan) (s : State) : Prop :=
  ∀ q : State, q.ct = s.ct → q.kc.panels = s.kc.panels → HooksAgree q → HooksAgree (p.effect q)

variable {s : State}

theorem hooksKept_next {t : State} (h : HooksAgree s → HooksAgree t) : HooksKept s (.next t) := by
  rintro q ⟨⟩; exact h

theorem hooksKept_same {t : State} (htags : t.ct.tags = s.ct.tags) (hboard : t.kc.board = s.kc.board) :
    HooksKept s (.next t) :=
  hooksKept_next (hooksAgree_of_same htags hboard)

theorem keepsHooks_of_same {p : Plan} (htags : ∀ q, (p.effect q).ct.tags = q.ct.tags)
    (hboard : ∀ q, (p.effect q).kc.board = q.kc.board) : p.KeepsHooks s :=
  fun q _ _ => hooksAgree_of_same (htags q) (hboard q)

@[simp] theorem keepsHooks_refuse (a : Answer) : (refuse a).KeepsHooks s := fun _ _ _ => id

@[simp] theorem keepsHooks_refuseWith (blank : List Value) (a : Answer) : (refuseWith blank a).KeepsHooks s :=
  fun _ _ _ => id

@[simp] theorem keepsHooks_report (fields : List Value) : (report fields).KeepsHooks s := fun _ _ _ => id

@[simp] theorem keepsHooks_done (f : State → State) (htags : ∀ q, (f q).ct.tags = q.ct.tags)
    (hboard : ∀ q, (f q).kc.board = q.kc.board) : (done f).KeepsHooks s :=
  keepsHooks_of_same htags hboard

@[simp] theorem keepsHooks_ite (c : Prop) [Decidable c] (p q : Plan) :
    (if c then p else q).KeepsHooks s ↔ (c → p.KeepsHooks s) ∧ (¬c → q.KeepsHooks s) := by
  split <;> simp_all

@[simp] theorem keepsHooks_ranged (lo hi v : Nat) (f : State → State) (htags : ∀ q, (f q).ct.tags = q.ct.tags)
    (hboard : ∀ q, (f q).kc.board = q.kc.board) : (ranged lo hi v f).KeepsHooks s := by
  simp [ranged, htags, hboard]

@[simp] theorem keepsHooks_layoutCommand (p : Plan) (h : p.KeepsHooks s) : (s.layoutCommand p).KeepsHooks s := by
  simp [State.layoutCommand, h]

@[simp] theorem keepsHooks_onZone (z : Nat) (p : Plan) (h : p.KeepsHooks s) : (s.onZone z p).KeepsHooks s := by
  simp [State.onZone, h]

@[simp] theorem keepsHooks_onBay (b : Nat) (own : Bay → Plan) (h : ∀ x, (own x).KeepsHooks s) :
    (s.onBay b own).KeepsHooks s := by
  simp [State.onBay, h]

@[simp] theorem keepsHooks_onStall (z i : Nat) (own : Stall → Plan) (h : ∀ x, (own x).KeepsHooks s) :
    (s.onStall z i own).KeepsHooks s := by
  unfold State.onStall; split <;> simp [h]

@[simp] theorem keepsHooks_deskRecord (t e : Nat) (ok : Bool) (own : Record → Plan) (h : ∀ r, (own r).KeepsHooks s) :
    (s.deskRecord t e ok own).KeepsHooks s := by
  unfold State.deskRecord; repeat' split
  all_goals simp [h]

@[simp] theorem keepsHooks_boundSender (hs : Handset) (blank : List Value) (own : Nat → Plan)
    (h : ∀ a, (own a).KeepsHooks s) : (s.boundSender hs blank own).KeepsHooks s := by
  unfold State.boundSender; split <;> simp [h]

@[simp] theorem keepsHooks_fromSender (hs : Handset) (blank : List Value) (own : Nat → Plan)
    (h : ∀ a, (own a).KeepsHooks s) : (s.fromSender hs blank own).KeepsHooks s := by
  simp [State.fromSender, h]

@[simp] theorem keepsHooks_handsetRecord (t : Nat) (ok : Bool) (blank : List Value) (own : Record → Plan)
    (h : ∀ r, (own r).KeepsHooks s) : (s.handsetRecord t ok blank own).KeepsHooks s := by
  unfold State.handsetRecord; repeat' split
  all_goals simp [h]

@[simp] theorem keepsHooks_actingOnly (a : Nat) (r : Record) (p : Plan) (h : p.KeepsHooks s) :
    (s.actingOnly a r p).KeepsHooks s := by
  simp [State.actingOnly, h]

theorem hooksAgree_finish {q : State} (h : HooksAgree q) : HooksAgree q.finish := hooksAgree_of_same (by simp) (by simp) h

theorem hooksKept_desk {plan : State → Plan} (req code : Nat) (hp : (plan s).KeepsHooks s) :
    HooksKept s (deskCommand req code plan s) := by
  refine hooksKept_next fun h => ?_
  split
  · exact hooksAgree_finish (hp s.begin rfl rfl h)
  · exact h

theorem hooksKept_handset {plan : State → Plan} (hs : Handset) (kind : Nat) (ticket : Option Nat)
    (hp : (plan s).KeepsHooks s) : HooksKept s (handsetMessage hs kind ticket plan s) := by
  refine hooksKept_next fun h => ?_
  split
  · refine hooksAgree_finish (hp _ (by simp [State.sendResult]) (by simp [State.sendResult]) ?_)
    exact hooksAgree_of_same (s := s.begin) (by simp [State.sendResult]) (by simp [State.sendResult]) h
  · exact h

theorem hooksKept_ticket {own : State → Nat → Record → Plan} (hs : Handset) (kind t : Nat)
    (hp : ∀ a r, (own s a r).KeepsHooks s) : HooksKept s (handsetTicket hs kind t own s) :=
  hooksKept_handset hs kind (some t) (by simp [hp])

theorem hooksKept_event {occurs : State → Bool} {f : State → State} (hf : ∀ q, HooksAgree q → HooksAgree (f q)) :
    HooksKept s (event occurs f s) := by
  refine hooksKept_next fun h => ?_
  split
  · exact hooksAgree_finish (hf s.begin h)
  · exact h

theorem hooksKept_event_same {occurs : State → Bool} {f : State → State} (htags : ∀ q, (f q).ct.tags = q.ct.tags)
    (hboard : ∀ q, (f q).kc.board = q.kc.board) : HooksKept s (event occurs f s) :=
  hooksKept_event fun q => hooksAgree_of_same (htags q) (hboard q)

/-! ### Operations that ask nothing of a hook -/

section

variable (s)

@[simp] theorem State.newCall_kc (r : Record) (c : CallField) : (s.newCall r c).kc = s.kc := by
  unfold State.newCall State.setCall; dsimp only; split <;> simp

@[simp] theorem State.upgradeCall_kc (t tier : Nat) : (s.upgradeCall t tier).kc = s.kc := by simp [State.upgradeCall]

@[simp] theorem State.cancelCall_kc (r : Record) : (s.cancelCall r).kc = s.kc := by
  unfold State.cancelCall; dsimp only; split <;> simp

@[simp] theorem State.clearSuspension_kc (t : Nat) : (s.clearSuspension t).kc = s.kc := by simp [State.clearSuspension]

@[simp] theorem State.placeInStray_kc (r : Record) (st : StallId) (x : Stall) : (s.placeInStray r st x).kc = s.kc := by
  unfold State.placeInStray; dsimp only; split <;> simp

@[simp] theorem State.regrade_kc (n g : Nat) : (s.regrade n g).kc = s.kc :=
  foldl_leaves _ State.kc _ (fun q st => (State.compareGrade_frame q st).2.2.1) _

@[simp] theorem State.expireDwell_kc (b : Nat) : (s.expireDwell b).kc = s.kc := by
  unfold State.expireDwell; dsimp only; split <;> simp

@[simp] theorem State.ackTimeout_ct_kc (a : Nat) : (s.ackTimeout a).ct = s.ct ∧ (s.ackTimeout a).kc = s.kc := by
  unfold State.ackTimeout; dsimp only; split <;> simp

@[simp] theorem State.permitsChanged_ct_kc (before : State) :
    (s.permitsChanged before).ct = s.ct ∧ (s.permitsChanged before).kc = s.kc := by simp [State.permitsChanged]

@[simp] theorem State.heardInRecovery_ct_kc (z : Nat) :
    (s.heardInRecovery z).ct = s.ct ∧ (s.heardInRecovery z).kc = s.kc := by
  unfold State.heardInRecovery State.endRecovery; dsimp only; repeat' split
  all_goals exact ⟨rfl, rfl⟩

@[simp] theorem State.defineZone_ct_kc (z n : Nat) : (s.defineZone z n).ct = s.ct ∧ (s.defineZone z n).kc = s.kc := by
  unfold State.defineZone; dsimp only; split <;> simp

end

/-! ### Plans of single commands -/

theorem keepsHooks_retire (t : Nat) : (done fun q => q.retireRecord t).KeepsHooks s :=
  fun _ _ _ h => hooksAgree_retireRecord h t

@[simp] theorem keepsHooks_handoverPlan (r : Record) : (handoverPlan r).KeepsHooks s := by
  simp [handoverPlan, keepsHooks_retire]

/-- ACCEPT binds the lowest free hook to a ticket that no live record carries (R7, R8). -/
@[simp] theorem keepsHooks_acceptPlan (sender : Option Nat) (fields : Option Arrival)
    (returns : Option (Nat × Nat × Nat) → Option StallId → List Value) :
    (s.acceptPlan sender fields returns).KeepsHooks s := by
  unfold State.acceptPlan; dsimp only
  split
  · simp
  split
  · simp
  next f =>
  split
  · simp
  next hlen =>
  split
  · simp
  next hook hhook =>
  split
  · simp
  · intro q hct hpanels h
    have hfound : q.freeHook? = some hook := by rw [State.freeHook?, hpanels]; exact hhook
    exact hooksAgree_acceptCar h (by rw [hct]; exact Nat.lt_of_not_le hlen) f _ sender hfound

@[simp] theorem keepsHooks_callPlan (tier : Option Nat) (due : Option Time) (source : Source) (r : Record) :
    (s.callPlan tier due source r).KeepsHooks s := by
  unfold State.callPlan; dsimp only; repeat' split
  all_goals simp

@[simp] theorem keepsHooks_cancelPlan (r : Record) : (s.cancelPlan r).KeepsHooks s := by
  unfold State.cancelPlan; split <;> simp

@[simp] theorem keepsHooks_ackPlan (a : Nat) (r : Record) : (s.ackPlan a r).KeepsHooks s := by
  unfold State.ackPlan; repeat' split
  all_goals simp

@[simp] theorem keepsHooks_declinePlan (a : Nat) (r : Record) : (s.declinePlan a r).KeepsHooks s := by
  unfold State.declinePlan; repeat' split
  all_goals simp

/-- KEY_AGAIN opens a hook that is HELD (R79). -/
@[simp] theorem keepsHooks_keyAgainPlan (a : Nat) (r : Record) : (s.keyAgainPlan a r).KeepsHooks s := by
  unfold State.keyAgainPlan
  split
  · simp
  next k hk =>
    simp only [keepsHooks_ite, keepsHooks_refuse, implies_true, true_and]
    intro _ _ hheld q _ hpanels
    have hst : k.state = .held := by
      by_contra hst
      exact hheld (.inl hst)
    have hq : q.hook? r.hook = some k := by rw [State.hook?, State.panel, hpanels]; exact hk
    exact hooksAgree_of_same (by simp [done]) (board_updHook_used hq (by simp [hst]) rfl nofun)

@[simp] theorem keepsHooks_reparkPlan (a : Nat) (r : Record) : (s.reparkPlan a r).KeepsHooks s := by
  unfold State.reparkPlan; dsimp only
  simp only [keepsHooks_ite, keepsHooks_refuseWith, implies_true, true_and]
  exact fun _ _ _ _ => keepsHooks_of_same (fun q => by simp) fun q => by simp

@[simp] theorem keepsHooks_signOnPlan (identity n : Nat) : (s.signOnPlan identity n).KeepsHooks s := by
  unfold State.signOnPlan
  simp only [keepsHooks_ite, keepsHooks_refuse, implies_true, true_and]
  exact fun _ _ _ => keepsHooks_of_same (fun q => by simp) fun q => by simp

theorem hooksAgree_driveOff (h : HooksAgree s) (b : Nat) : HooksAgree (s.driveOff b) := by
  unfold State.driveOff; dsimp only
  split
  · exact h
  next t _ =>
    split
    · exact hooksAgree_retireRecord (hooksAgree_of_same (s := s) (by simp) (by simp) h) t
    · exact hooksAgree_of_same (s := s) (by simp) (by simp) h

theorem hooksAgree_warmRestart (h : HooksAgree s) : HooksAgree s.warmRestart := hooksAgree_of_same (by simp) (by simp) h

theorem hooksAgree_applyPower (backup : Bool) : HooksAgree (s.applyPower backup) := hooksAgree_powerOn rfl rfl

end Sys2Proof.Machine
end

section
/-! Every step keeps records and hooks bound to each other (O59). -/

namespace Sys2Proof.Machine

open Sys2Proof.Safety

variable {s : State}

/-! ### Every command -/

theorem hooksKept_accept (port : Port) (grade need tier : Nat) (plate : PlateField) (folio : OptWord) (lane : Nat) :
    HooksKept s (execAccept port grade need tier plate folio lane s) := by
  unfold execAccept
  cases port with
  | desk q => refine hooksKept_desk q _ ?_; simp
  | handset hs => refine hooksKept_handset hs _ _ ?_; simp

theorem hooksKept_handover (port : Port) (t e : Nat) : HooksKept s (execHandover port t e s) := by
  unfold execHandover
  cases port with
  | desk q => refine hooksKept_desk q _ ?_; simp
  | handset hs => refine hooksKept_ticket hs _ t ?_; simp

theorem hooksKept_call (port : Port) (t tier : Nat) (due : OptWord) (e : Nat) :
    HooksKept s (execCall port t tier due e s) := by
  unfold execCall
  cases port with
  | desk q => refine hooksKept_desk q _ ?_; simp
  | handset hs =>
    refine hooksKept_handset hs _ _ ?_
    exact keepsHooks_fromSender _ _ _ fun a => by simp

theorem hooksKept_cancelCall (port : Port) (t e : Nat) : HooksKept s (execCancelCall port t e s) := by
  unfold execCancelCall
  cases port with
  | desk q => refine hooksKept_desk q _ ?_; simp
  | handset hs => refine hooksKept_ticket hs _ t ?_; simp

theorem hooksKept_hold (q t e : Nat) : HooksKept s (execHold q t e s) :=
  hooksKept_desk q _ (keepsHooks_deskRecord _ _ _ _ fun r => by split <;> simp)

theorem hooksKept_resolveMoveTo (q t z i e : Nat) : HooksKept s (execResolveMoveTo q t z i e s) := by
  refine hooksKept_desk q _ (keepsHooks_deskRecord _ _ _ _ fun r => ?_)
  rw [keepsHooks_ite]
  refine ⟨fun _ => keepsHooks_refuse _, fun _ => ?_⟩
  split <;> simp

theorem hooksKept_list (q start filter : Nat) : HooksKept s (execList q start filter s) := by
  refine hooksKept_desk q _ ?_
  split
  · exact keepsHooks_of_same (fun _ => rfl) fun _ => rfl
  · simp

theorem hooksKept_readHook (q h : Nat) : HooksKept s (execReadHook q h s) := by
  refine hooksKept_desk q _ ?_
  split
  · simp
  · split <;> simp

theorem hooksKept_setServiceState (q state : Nat) : HooksKept s (execSetServiceState q state s) := by
  refine hooksKept_desk q _ ?_
  split
  · simp
  · split <;> simp [State.changeService]

theorem hooksKept_captureSite (q : Nat) (site0 site1 : Bool) : HooksKept s (execCaptureSite q site0 site1 s) := by
  refine hooksKept_desk q _ ?_
  split <;> exact keepsHooks_of_same (fun _ => rfl) fun _ => rfl

/-- A new panel joins where there was none (R176). -/
theorem hooksKept_definePanel (q p : Nat) : HooksKept s (execDefinePanel q p s) := by
  refine hooksKept_desk q _ (keepsHooks_layoutCommand _ ?_)
  simp only [keepsHooks_ite, keepsHooks_refuse, implies_true, true_and]
  intro _ hout x _ hpanels h
  have hsame : x.panel p = s.panel p := by rw [State.panel, hpanels]; rfl
  exact hooksAgree_definePanel h (by rw [hsame]; simpa using hout)

/-- CLEAR SITE is taken only with no live record (R178). -/
theorem hooksKept_clearSite (q confirm : Nat) : HooksKept s (execClearSite q confirm s) := by
  refine hooksKept_desk q _ ?_
  simp only [keepsHooks_ite, keepsHooks_refuse, implies_true, true_and]
  intro _ _ hempty x hct _ _
  exact hooksAgree_powerOn (q := x.clearSite) (show x.ct.records = [] by rw [hct]; simpa using hempty) rfl

theorem hooksKept_restart (q confirm : Nat) : HooksKept s (execRestart q confirm s) := by
  unfold execRestart
  split
  · refine hooksKept_next fun h => ?_
    split
    · exact hooksAgree_warmRestart (s := s.begin) h
    · exact h
  · exact hooksKept_desk q _ (by simp)

theorem hooksKept_deskUnknown (q code : Nat) : HooksKept s (execDeskUnknownCommand q code s) := by
  unfold execDeskUnknownCommand
  split
  · exact hooksKept_same rfl rfl
  · exact hooksKept_desk q _ (by simp)

theorem hooksKept_handsetUnknown (hs : Handset) (kind : Nat) : HooksKept s (execHandsetUnknownKind hs kind s) := by
  unfold execHandsetUnknownKind
  split
  · exact hooksKept_same rfl rfl
  · exact hooksKept_handset hs _ _ (by simp)

theorem hooksKept_zoneReport (z : Nat) (occupied : BitVec 96) (check : Nat) :
    HooksKept s (execZoneReport z occupied check s) := by
  refine hooksKept_next fun h => ?_
  split
  · exact hooksAgree_of_same (s := s.begin) (by simp) (by simp) h
  · exact h

theorem hooksKept_elapsedSecond : HooksKept s (execElapsedSecond s) := by
  refine hooksKept_next fun h => ?_
  split
  · exact hooksAgree_of_same (s := s.begin) (by simp) (by simp) h
  · split
    · exact h
    · exact h

theorem hooksKept_mainSupplyReturn : HooksKept s (execMainSupplyReturn s) := by
  refine hooksKept_next fun h => ?_
  split
  · exact hooksAgree_applyPower _
  · dsimp only
    split
    · exact h
    · exact hooksAgree_warmRestart (s := s.setPower true s.pw.backup s.pw.resetAsserted) h

theorem hooksKept_resetNReleased : HooksKept s (execResetNReleased s) := by
  refine hooksKept_next fun h => ?_
  split
  · exact hooksAgree_warmRestart (s := s.setPower s.pw.main s.pw.backup false) h
  · exact h

/-- The input's level stands whether or not the controller takes the event (R130, R134). -/
theorem hooksKept_laneLoop (l : Nat) (level : Bool) : HooksKept s (execLaneLoopChange l level s) := by
  unfold execLaneLoopChange
  exact hooksKept_event_same (s := { s with pw := { s.pw with lanes := s.pw.lanes.set l level } }) (fun _ => rfl)
    fun _ => rfl

theorem hooksKept_bayLoop (b : Nat) (level : Bool) : HooksKept s (execBayLoopChange b level s) := by
  unfold execBayLoopChange
  exact hooksKept_event_same (s := { s with pw := { s.pw with bays := s.pw.bays.set b level } }) (fun _ => rfl)
    fun _ => rfl

/-- A command that only answers, or writes what the agreement is not read from, needs no lemma of its own. -/
theorem exec_hooksKept (c : Instr) : HooksKept s (exec c s) := by
  cases c with
  | accept port grade need tier plate folio lane => exact hooksKept_accept _ _ _ _ _ _ _
  | handover port t e => exact hooksKept_handover _ _ _
  | hold q t e => exact hooksKept_hold _ _ _
  | resolveStored q t e => exact (hooksKept_desk _ _ (by simp) : HooksKept s (execResolveStored q t e s))
  | resolveMoveTo q t z i e => exact hooksKept_resolveMoveTo _ _ _ _ _
  | resolveWaiting q t e => exact (hooksKept_desk _ _ (by simp) : HooksKept s (execResolveWaiting q t e s))
  | retire q t e => exact (hooksKept_desk _ _ (by simp [keepsHooks_retire]) : HooksKept s (execRetire q t e s))
  | getRecord q t e => exact (hooksKept_desk _ _ (by simp) : HooksKept s (execGetRecord q t e s))
  | amend q t plate folio e =>
    show HooksKept s (execAmend q t plate folio e s)
    exact hooksKept_desk _ _ (keepsHooks_deskRecord _ _ _ _ fun _ => by simp)
  | findPlate q plate start =>
    show HooksKept s (execFindPlate q plate start s)
    exact hooksKept_desk _ _ (by split <;> simp)
  | findFolio q folio start =>
    show HooksKept s (execFindFolio q folio start s)
    exact hooksKept_desk _ _ (by split <;> simp)
  | list q start filter => exact hooksKept_list _ _ _
  | setParkLimit q v =>
    show HooksKept s (execSetParkLimit q v s)
    exact hooksKept_desk _ _ (keepsHooks_ranged _ _ _ _ (fun _ => rfl) fun _ => rfl)
  | enableStall q z i => exact (hooksKept_desk _ _ (by simp) : HooksKept s (execEnableStall q z i s))
  | disableStall q z i => exact (hooksKept_desk _ _ (by simp) : HooksKept s (execDisableStall q z i s))
  | openZone q z => exact (hooksKept_desk _ _ (by simp) : HooksKept s (execOpenZone q z s))
  | closeZone q z => exact (hooksKept_desk _ _ (by simp) : HooksKept s (execCloseZone q z s))
  | setZoneFlags q z night spill =>
    show HooksKept s (execSetZoneFlags q z night spill s)
    exact hooksKept_desk _ _ (by split <;> simp)
  | setPreference q tier n zones =>
    show HooksKept s (execSetPreference q tier n zones s)
    exact hooksKept_desk _ _ (by split <;> simp)
  | setPair q z => exact (hooksKept_desk _ _ (by simp [State.setPaired]) : HooksKept s (execSetPair q z s))
  | unpair q z => exact (hooksKept_desk _ _ (by simp [State.setPaired]) : HooksKept s (execUnpair q z s))
  | setSlot q n g => exact (hooksKept_desk _ _ (by simp) : HooksKept s (execSetSlot q n g s))
  | setStallSlot q z i n => exact (hooksKept_desk _ _ (by simp) : HooksKept s (execSetStallSlot q z i n s))
  | readZone q z => exact (hooksKept_desk _ _ (by simp) : HooksKept s (execReadZone q z s))
  | readStall q z i => exact (hooksKept_desk _ _ (by simp) : HooksKept s (execReadStall q z i s))
  | readWaitList q => exact (hooksKept_desk _ _ (by simp) : HooksKept s (execReadWaitList q s))
  | setSilenceTime q v => exact (hooksKept_desk _ _ (by simp) : HooksKept s (execSetSilenceTime q v s))
  | setWithdrawal q z on => exact (hooksKept_desk _ _ (by split <;> simp) : HooksKept s (execSetWithdrawal q z on s))
  | setWindowTime q v =>
    show HooksKept s (execSetWindowTime q v s)
    exact hooksKept_desk _ _ (keepsHooks_ranged _ _ _ _ (fun _ => rfl) fun _ => rfl)
  | setCustodyLimit q v =>
    show HooksKept s (execSetCustodyLimit q v s)
    exact hooksKept_desk _ _ (keepsHooks_ranged _ _ _ _ (fun _ => rfl) fun _ => rfl)
  | beginPanelService q p => exact (hooksKept_desk _ _ (by simp) : HooksKept s (execBeginPanelService q p s))
  | endPanelService q p => exact (hooksKept_desk _ _ (by simp) : HooksKept s (execEndPanelService q p s))
  | readHook q h => exact hooksKept_readHook _ _
  | call port t tier due e => exact hooksKept_call _ _ _ _ _
  | cancelCall port t e => exact hooksKept_cancelCall _ _ _
  | setLeadTime q z v => exact (hooksKept_desk _ _ (by simp) : HooksKept s (execSetLeadTime q z v s))
  | readLeadTimes q => exact (hooksKept_desk _ _ (by simp) : HooksKept s (execReadLeadTimes q s))
  | readQueue q start => exact (hooksKept_desk _ _ (by split <;> simp) : HooksKept s (execReadQueue q start s))
  | setAckTime q v => exact (hooksKept_desk _ _ (by simp) : HooksKept s (execSetAckTime q v s))
  | readRoster q => exact (hooksKept_desk _ _ (by simp) : HooksKept s (execReadRoster q s))
  | enableBay q b => exact (hooksKept_desk _ _ (by simp [State.setBay]) : HooksKept s (execEnableBay q b s))
  | disableBay q b => exact (hooksKept_desk _ _ (by simp [State.setBay]) : HooksKept s (execDisableBay q b s))
  | setBayFlags q b night =>
    show HooksKept s (execSetBayFlags q b night s)
    exact hooksKept_desk _ _ (by split <;> simp [State.setBay])
  | setDwellTime q v => exact (hooksKept_desk _ _ (by simp) : HooksKept s (execSetDwellTime q v s))
  | clearLane q l => exact (hooksKept_desk _ _ (by simp) : HooksKept s (execClearLane q l s))
  | readKerb q => exact (hooksKept_desk _ _ (by simp) : HooksKept s (execReadKerb q s))
  | captureSite q site0 site1 => exact hooksKept_captureSite _ _ _
  | readStatus q => exact (hooksKept_desk _ _ (by simp) : HooksKept s (execReadStatus q s))
  | readAttention q => exact (hooksKept_desk _ _ (by simp) : HooksKept s (execReadAttention q s))
  | clearAttention q causes => exact (hooksKept_desk _ _ (by simp) : HooksKept s (execClearAttention q causes s))
  | setAttentionEnables q enables master =>
    show HooksKept s (execSetAttentionEnables q enables master s)
    exact hooksKept_desk _ _ (by split <;> simp)
  | defineZone q z n => exact (hooksKept_desk _ _ (by simp) : HooksKept s (execDefineZone q z n s))
  | defineFixedStall q z i attr g =>
    show HooksKept s (execDefineFixedStall q z i attr g s)
    exact hooksKept_desk _ _ (keepsHooks_layoutCommand _ (by split <;> simp))
  | definePanel q p => exact hooksKept_definePanel _ _
  | defineBays q bays => exact (hooksKept_desk _ _ (by simp) : HooksKept s (execDefineBays q bays s))
  | freezeLayout q => exact (hooksKept_desk _ _ (by simp) : HooksKept s (execFreezeLayout q s))
  | setServiceState q state => exact hooksKept_setServiceState _ _
  | clearSite q confirm => exact hooksKept_clearSite _ _
  | setClock q v => exact (hooksKept_desk _ _ (by simp) : HooksKept s (execSetClock q v s))
  | setChainMask q zones => exact (hooksKept_desk _ _ (by simp) : HooksKept s (execSetChainMask q zones s))
  | restart q confirm => exact hooksKept_restart _ _
  | deskBadFrame bytes =>
    show HooksKept s (execDeskBadFrame bytes s)
    exact hooksKept_same (by split <;> rfl) (by split <;> rfl)
  | deskUnknownCommand q code => exact hooksKept_deskUnknown _ _
  | deskIgnoredTransaction bytes => exact (hooksKept_same rfl rfl : HooksKept s (execDeskIgnoredTransaction bytes s))
  | signOn hs n => exact (hooksKept_handset _ _ _ (by simp) : HooksKept s (execSignOn hs n s))
  | signOff hs =>
    show HooksKept s (execSignOff hs s)
    exact hooksKept_handset _ _ _ (keepsHooks_fromSender _ _ _ fun _ => by split <;> simp [State.signOff])
  | takeBreak hs =>
    show HooksKept s (execTakeBreak hs s)
    exact hooksKept_handset _ _ _ (keepsHooks_fromSender _ _ _ fun _ => by split <;> simp)
  | ready hs =>
    show HooksKept s (execReady hs s)
    exact hooksKept_handset _ _ _ (keepsHooks_fromSender _ _ _ fun _ => by split <;> simp)
  | parked hs t => exact (hooksKept_ticket _ _ _ (by simp) : HooksKept s (execParked hs t s))
  | ack hs t => exact (hooksKept_ticket _ _ _ (by simp) : HooksKept s (execAck hs t s))
  | decline hs t => exact (hooksKept_ticket _ _ _ (by simp) : HooksKept s (execDecline hs t s))
  | abandon hs t => exact (hooksKept_ticket _ _ _ (by simp) : HooksKept s (execAbandon hs t s))
  | keyAgain hs t => exact (hooksKept_ticket _ _ _ (by simp) : HooksKept s (execKeyAgain hs t s))
  | staged hs t b =>
    show HooksKept s (execStaged hs t b s)
    exact hooksKept_handset _ _ _ (keepsHooks_fromSender _ _ _ fun _ => keepsHooks_handsetRecord _ _ _ _ fun _ => by simp)
  | repark hs t => exact (hooksKept_handset _ _ _ (by simp) : HooksKept s (execRepark hs t s))
  | handsetFrameDropped bytes => exact (hooksKept_same rfl rfl : HooksKept s (execHandsetFrameDropped bytes s))
  | handsetUnknownKind hs kind => exact hooksKept_handsetUnknown _ _
  | handsetFrameSent => exact (hooksKept_event_same (fun _ => rfl) fun _ => rfl : HooksKept s (execHandsetFrameSent s))
  | zoneReport z occupied check => exact hooksKept_zoneReport _ _ _
  | silenceTimerExpiry z =>
    show HooksKept s (execSilenceTimerExpiry z s)
    exact hooksKept_event_same (fun _ => rfl) fun _ => rfl
  | hookLoaded p i tag =>
    show HooksKept s (execHookLoaded p i tag s)
    exact hooksKept_event_same (fun _ => by simp) fun _ => by simp
  | hookEmptied p i latched =>
    show HooksKept s (execHookEmptied p i latched s)
    exact hooksKept_event_same (fun _ => by simp) fun _ => by simp
  | latchDone p i latch =>
    show HooksKept s (execLatchDone p i latch s)
    exact hooksKept_event_same (fun _ => by simp) fun _ => by simp
  | cabinetMessageDropped bytes => exact (hooksKept_same rfl rfl : HooksKept s (execCabinetMessageDropped bytes s))
  | latchRepeat h =>
    show HooksKept s (execLatchRepeat h s)
    exact hooksKept_event_same (fun _ => by simp) fun _ => by simp
  | windowTimerExpiry h =>
    show HooksKept s (execWindowTimerExpiry h s)
    exact hooksKept_event_same (fun _ => by simp) fun _ => by simp
  | keyWarningPoint h =>
    show HooksKept s (execKeyWarningPoint h s)
    exact hooksKept_event_same (fun _ => by simp) fun _ => by simp
  | custodyLimitReached h =>
    show HooksKept s (execCustodyLimitReached h s)
    exact hooksKept_event_same (fun _ => by simp) fun _ => by simp
  | parkLimitReached t =>
    show HooksKept s (execParkLimitReached t s)
    exact hooksKept_event_same (fun _ => by simp [State.lateInbound]) fun _ => by simp [State.lateInbound]
  | ackTimerExpiry a =>
    show HooksKept s (execAckTimerExpiry a s)
    exact hooksKept_event_same (fun _ => by simp) fun _ => by simp
  | dwellTimerExpiry b =>
    show HooksKept s (execDwellTimerExpiry b s)
    exact hooksKept_event_same (fun _ => by simp) fun _ => by simp
  | driveOffTimerExpiry b =>
    show HooksKept s (execDriveOffTimerExpiry b s)
    exact hooksKept_event fun _ h => hooksAgree_driveOff h b
  | recoveryTimerExpiry =>
    show HooksKept s (execRecoveryTimerExpiry s)
    exact hooksKept_event_same (fun _ => rfl) fun _ => rfl
  | elapsedSecond => exact hooksKept_elapsedSecond
  | laneLoopChange l level => exact hooksKept_laneLoop _ _
  | bayLoopChange b level => exact hooksKept_bayLoop _ _
  | chainLoad =>
    show HooksKept s (execChainLoad s)
    exact hooksKept_event_same (fun _ => by simp [State.loadPermits]) fun _ => by simp [State.loadPermits]
  | powerOn backup => exact (hooksKept_next fun _ => hooksAgree_applyPower backup : HooksKept s (execPowerOn backup s))
  | mainSupplyLost => exact (hooksKept_same rfl rfl : HooksKept s (execMainSupplyLost s))
  | mainSupplyReturn => exact hooksKept_mainSupplyReturn
  | resetNAsserted => exact (hooksKept_same rfl rfl : HooksKept s (execResetNAsserted s))
  | resetNReleased => exact hooksKept_resetNReleased
  | backupSupplyLost => exact (hooksKept_same rfl rfl : HooksKept s (execBackupSupplyLost s))
  | chainClkRisingEdge level =>
    show HooksKept s (execChainClkRisingEdge level s)
    exact hooksKept_event_same (fun _ => rfl) fun _ => rfl

/-- Settles O59: the step runs the front command, and every command keeps the agreement. -/
theorem everyStepKeepsTheHookBindings : Obligations.EveryStepKeepsTheHookBindings := by
  intro s t _ h hstep
  unfold step at hstep
  split at hstep
  · cases hstep; exact h
  next c rest _ => exact exec_hooksKept (s := { s with pending := rest }) c t hstep h

end Sys2Proof.Machine
end

section
/-! Bays and lanes, panel service, and the set latch of a changed position (R71, R87, R89, R107, R132, R135, R136). -/

namespace Sys2Proof.Machine

open Sys2Proof.Safety

variable {s : State}

/-! ### Bays and lanes (R132, R135, R136) -/

section

variable {b : Nat}

theorem onBay_out {own : Bay → Plan} (h : (s.bay b).inLayout = false) : s.onBay b own = refuse .badField := by
  simp [State.onBay, h]

theorem onBay_in {own : Bay → Plan} (h : (s.bay b).inLayout = true) : s.onBay b own = own (s.bay b) := by
  simp [State.onBay, h]

/-- ENABLE BAY at the bay. -/
def enableBayPlan (b : Nat) (x : Bay) : Plan :=
  if x.enabled then refuse .already else done fun q => q.setBay b fun y => { y with enabled := true }

/-- DISABLE BAY at the bay. -/
def disableBayPlan (b : Nat) (x : Bay) : Plan :=
  if !x.enabled then refuse .already else done fun q => q.setBay b fun y => { y with enabled := false }

/-- SET BAY FLAGS, its flag read. -/
def State.bayFlagsPlan (s : State) (b night : Nat) : Plan :=
  match boolOf night with
  | none => refuse .badField
  | some n => s.onBay b fun _ => done fun q => q.setBay b fun x => { x with night := n }

/-- CLEAR LANE, its lane read. -/
def State.clearLanePlan (s : State) (l : Nat) : Plan :=
  if Config.lanes ≤ l then refuse .badField
  else if (s.lane l).fifo.isEmpty then refuse .already
  else done fun q => q.modLane l fun x => { x with fifo := [] }

theorem exec_enableBay (s : State) (q b : Nat) :
    exec (.enableBay q b) s = deskCommand q 0x50 (fun s => s.onBay b (enableBayPlan b)) s := rfl

theorem exec_disableBay (s : State) (q b : Nat) :
    exec (.disableBay q b) s = deskCommand q 0x51 (fun s => s.onBay b (disableBayPlan b)) s := rfl

theorem exec_setBayFlags (s : State) (q b n : Nat) :
    exec (.setBayFlags q b n) s = deskCommand q 0x52 (fun s => s.bayFlagsPlan b n) s := rfl

theorem exec_clearLane (s : State) (q l : Nat) :
    exec (.clearLane q l) s = deskCommand q 0x54 (fun s => s.clearLanePlan l) s := rfl

/-- No command acts on a bay outside the layout. -/
theorem bayCommands_out (q : Nat) (hr : s.running = true) (hout : (s.bay b).inLayout = false) :
    DeskReports (.enableBay q b) s .badField [] ∧ DeskReports (.disableBay q b) s .badField [] ∧
      ∀ n, DeskReports (.setBayFlags q b n) s .badField [] := by
  refine ⟨deskReports_refuse rfl (exec_enableBay s q b) hr (onBay_out hout),
    deskReports_refuse rfl (exec_disableBay s q b) hr (onBay_out hout), fun n => ?_⟩
  refine deskReports_refuse rfl (exec_setBayFlags s q b n) hr ?_
  unfold State.bayFlagsPlan
  split
  · rfl
  · exact onBay_out hout

/-- The enable of a bay of the layout by its two commands. -/
theorem bayEnable_ruled (q : Nat) (hr : s.running = true) (hin : (s.bay b).inLayout = true) :
    let sets (c : Instr) (f : Bay → Bay) : Prop :=
      let p := s.begin.modBay b f
      DeskAnswers c s (p.lookIf (decide (s.usableBays < p.usableBays))) .done []
    ((s.bay b).enabled = true → DeskReports (.enableBay q b) s .already []) ∧
    ((s.bay b).enabled = false → sets (.enableBay q b) fun x => { x with enabled := true }) ∧
    ((s.bay b).enabled = false → DeskReports (.disableBay q b) s .already []) ∧
    ((s.bay b).enabled = true → sets (.disableBay q b) fun x => { x with enabled := false }) := by
  refine ⟨fun hon => ?_, fun hoff => ?_, fun hoff => ?_, fun hon => ?_⟩
  · exact deskReports_refuse rfl (exec_enableBay s q b) hr ((onBay_in hin).trans (if_pos hon))
  · exact deskAnswers_done (f := fun q => q.setBay b fun x => { x with enabled := true }) rfl (exec_enableBay s q b) hr
      ((onBay_in hin).trans (if_neg (by simp [hoff])))
  · exact deskReports_refuse rfl (exec_disableBay s q b) hr ((onBay_in hin).trans (if_pos (by simp [hoff])))
  · exact deskAnswers_done (f := fun q => q.setBay b fun x => { x with enabled := false }) rfl (exec_disableBay s q b) hr
      ((onBay_in hin).trans (if_neg (by simp [hon])))

/-- SET BAY FLAGS at a bay of the layout; a byte above 1 is no flag (log entry 34). -/
theorem bayFlags_ruled (q : Nat) (hr : s.running = true) (hin : (s.bay b).inLayout = true) :
    (∀ n, 1 < n → DeskReports (.setBayFlags q b n) s .badField []) ∧
    ∀ n : Bool, DeskAnswers (.setBayFlags q b n.toNat) s (s.begin.setBay b fun x => { x with night := n }) .done [] := by
  refine ⟨fun n hn => deskReports_refuse rfl (exec_setBayFlags s q b n) hr ?_, fun n =>
    deskAnswers_done (f := fun q => q.setBay b fun x => { x with night := n }) rfl (exec_setBayFlags s q b _) hr ?_⟩
  · simp only [State.bayFlagsPlan, boolOf_eq_none hn]
  · simp only [State.bayFlagsPlan, boolOf_toNat, onBay_in hin]

end

theorem clearLane_ruled (q l : Nat) (hr : s.running = true) :
    (1 < l → DeskReports (.clearLane q l) s .badField []) ∧
    (l ≤ 1 → (s.lane l).fifo = [] → DeskReports (.clearLane q l) s .already []) ∧
    (l ≤ 1 → (s.lane l).fifo ≠ [] →
      DeskLeaves (.clearLane q l) s (s.begin.modLane l fun x => { x with fifo := [] }) .done []) := by
  have hlane (hl : l ≤ 1) : ¬Config.lanes ≤ l := Nat.not_le.mpr (Nat.lt_succ_of_le hl)
  refine ⟨fun hl => ?_, fun hl hempty => ?_, fun hl hsome => ?_⟩
  · exact deskReports_refuse rfl (exec_clearLane s q l) hr (if_pos hl)
  · exact deskReports_refuse rfl (exec_clearLane s q l) hr (by simp [State.clearLanePlan, hlane hl, hempty])
  · exact deskLeaves_done (f := fun q => q.modLane l fun x => { x with fifo := [] }) rfl (exec_clearLane s q l) hr
      (by simp [State.clearLanePlan, hlane hl, hsome]) rfl

/-! ### Panel service by its two commands (R87, R89) -/

/-- BEGIN PANEL SERVICE, check by check. -/
def State.beginServicePlan (s : State) (p : Nat) : Plan :=
  if !(s.panel p).inLayout then refuse .badField
  else if (s.panel p).inService then refuse .already
  else if (s.panel p).hooks.any fun k => k.state == .opened then refuse .panelBusy
  else done fun q => q.setPanelService p true

/-- END PANEL SERVICE, check by check. -/
def State.endServicePlan (s : State) (p : Nat) : Plan :=
  if !(s.panel p).inLayout then refuse .badField
  else if !(s.panel p).inService then refuse .already
  else done fun q => (q.setPanelService p false).lookDue

theorem exec_beginPanelService (s : State) (q p : Nat) :
    exec (.beginPanelService q p) s = deskCommand q 0x3A (fun s => s.beginServicePlan p) s := rfl

theorem exec_endPanelService (s : State) (q p : Nat) :
    exec (.endPanelService q p) s = deskCommand q 0x3B (fun s => s.endServicePlan p) s := rfl

theorem setPanelService_due (s : State) (p : Nat) (b : Bool) : (s.setPanelService p b).due = s.due := by
  refine foldl_leaves _ State.due _ (fun q i => ?_) _
  repeat' split
  all_goals rfl

section

variable {p : Nat}

theorem beginService_ruled (q : Nat) (hr : s.running = true) (hin : (s.panel p).inLayout = true) :
    ((s.panel p).inService = true → DeskReports (.beginPanelService q p) s .already []) ∧
    ((s.panel p).inService = false →
      ((∃ k ∈ (s.panel p).hooks, k.state = .opened) → DeskReports (.beginPanelService q p) s .panelBusy []) ∧
      ((∀ k ∈ (s.panel p).hooks, k.state ≠ .opened) →
        DeskLeaves (.beginPanelService q p) s (s.begin.setPanelService p true) .done [])) := by
  refine ⟨fun hon => ?_, fun hoff => ⟨fun hopen => ?_, fun hclosed => ?_⟩⟩
  · exact deskReports_refuse rfl (exec_beginPanelService s q p) hr (by simp [State.beginServicePlan, hin, hon])
  · have hany : ((s.panel p).hooks.any fun k => k.state == .opened) = true := by simpa using hopen
    exact deskReports_refuse rfl (exec_beginPanelService s q p) hr (by simp [State.beginServicePlan, hin, hoff, hany])
  · have hany : ((s.panel p).hooks.any fun k => k.state == .opened) = false := by simpa using hclosed
    exact deskLeaves_done (f := fun q => q.setPanelService p true) rfl (exec_beginPanelService s q p) hr
      (by simp [State.beginServicePlan, hin, hoff, hany]) (setPanelService_due s.begin p true)

/-- Leaving service is a readiness event (R107). -/
theorem endService_ruled (q : Nat) (hr : s.running = true) (hin : (s.panel p).inLayout = true) :
    ((s.panel p).inService = false → DeskReports (.endPanelService q p) s .already []) ∧
    ((s.panel p).inService = true →
      DeskAnswers (.endPanelService q p) s ((s.begin.setPanelService p false).lookDue) .done []) := by
  refine ⟨fun hoff => ?_, fun hon => ?_⟩
  · exact deskReports_refuse rfl (exec_endPanelService s q p) hr (by simp [State.endServicePlan, hin, hoff])
  · exact deskAnswers_done (f := fun q => (q.setPanelService p false).lookDue) rfl (exec_endPanelService s q p) hr
      (by simp [State.endServicePlan, hin, hon])

theorem panelCommands_out (q : Nat) (hr : s.running = true) (hout : (s.panel p).inLayout = false) :
    DeskReports (.beginPanelService q p) s .badField [] ∧ DeskReports (.endPanelService q p) s .badField [] :=
  ⟨deskReports_refuse rfl (exec_beginPanelService s q p) hr (by simp [State.beginServicePlan, hout]),
    deskReports_refuse rfl (exec_endPanelService s q p) hr (by simp [State.endServicePlan, hout])⟩

end

/-! ### The required position (R71) -/

/-- Closed over a key that hangs and over a window that closes, out of service. -/
theorem required_closed_iff (k : Hook) (service : Bool) :
    k.required service = .closed ↔ service = false ∧
      (k.state = .held ∨ (k.state = .opened ∧ (k.phase = .closing ∨ k.phase = .ending))) := by
  unfold Hook.required
  cases service with
  | true => simp
  | false => cases hst : k.state <;> simp [or_iff_not_imp_left]

theorem required_opened_of_not_closed (k : Hook) (service : Bool) (h : k.required service ≠ .closed) :
    k.required service = .opened := by
  cases hk : k.required service with
  | opened => rfl
  | closed => exact absurd hk h

/-! ### The hooks of a panel that enters or leaves service (R87, R89) -/

theorem panel_modHook (s : State) (h n : Nat) (f : Hook → Hook) :
    (s.modHook h f).panel n =
      if n = panelOf h then { s.panel n with hooks := (s.panel n).hooks.modify (h % Config.hooksPerPanel) f }
      else s.panel n := by
  split
  next hn =>
    subst hn
    by_cases hlt : panelOf h < s.kc.panels.length
    · exact panel_modPanel_self s _ _ hlt
    · have hnone : s.kc.panels[panelOf h]? = none := List.getElem?_eq_none (Nat.le_of_not_lt hlt)
      simp [State.panel, State.modHook, State.modPanel, List.getD_eq_getElem?_getD, hnone, Panel.absent]
  next hn => exact panel_modPanel_other s _ _ _ (Ne.symm hn)

/-- The place of a hook on a panel of 256 (R69). -/
theorem panelOf_place {p i : Nat} (hi : i < Config.hooksPerPanel) : panelOf (Config.hooksPerPanel * p + i) = p := by
  rw [panelOf, Nat.mul_add_div (by decide), Nat.div_eq_of_lt hi, Nat.add_zero]

theorem mod_place {p i : Nat} (hi : i < Config.hooksPerPanel) : (Config.hooksPerPanel * p + i) % Config.hooksPerPanel = i := by
  rw [Nat.mul_add_mod, Nat.mod_eq_of_lt hi]

theorem place_of_panelOf {h p : Nat} (hp : panelOf h = p) :
    h = Config.hooksPerPanel * p + h % Config.hooksPerPanel := by
  rw [← hp]; exact (Nat.div_add_mod h _).symm

/-- The hook's position is commanded: the command pends, and its 2 s repeat starts. -/
def Hook.commanded (l : Latch) (k : Hook) : Hook := { k with latch := some l, repeatTimer := some ⟨0, 2⟩ }

/-- The entry requires another position when its panel's service goes from `was` to `b`. -/
def Hook.moves (was b : Bool) (k : Hook) : Prop := k.required b ≠ k.required was

/-- Set latch at one place of the panel `x`, where the position that the entry there requires changes. -/
def State.relatch (p : Nat) (x : Panel) (b : Bool) (t : State) (i : Nat) : State :=
  match x.hooks[i]? with
  | none => t
  | some k =>
    if k.required b = k.required x.inService then t
    else t.sendLatch (Config.hooksPerPanel * p + i) (k.required b)

theorem setPanelService_eq (s : State) (p : Nat) (b : Bool) :
    s.setPanelService p b = (List.range (s.panel p).hooks.length).foldl (State.relatch p (s.panel p) b)
      (s.modPanel p fun x => { x with inService := b }) := rfl

section

variable {p i : Nat} {x : Panel} {b : Bool} {k : Hook} (t : State)

/-- A place is relatched, or nothing is done there. -/
theorem relatch_cases (p : Nat) (x : Panel) (b : Bool) (t : State) (i : Nat) :
    (∃ k, x.hooks[i]? = some k ∧ k.moves x.inService b ∧
      t.relatch p x b i = t.sendLatch (Config.hooksPerPanel * p + i) (k.required b)) ∨
    ((∀ k, x.hooks[i]? = some k → ¬k.moves x.inService b) ∧ t.relatch p x b i = t) := by
  unfold State.relatch
  split
  next hnone => exact .inr ⟨fun k hk => absurd hk (by simp [hnone]), rfl⟩
  next k hk =>
    split
    next hsame =>
      refine .inr ⟨fun k' hk' => ?_, rfl⟩
      obtain rfl := Option.some.inj (hk.symm.trans hk')
      exact not_not_intro hsame
    next hmoves => exact .inl ⟨k, hk, hmoves, rfl⟩

theorem relatch_panel (hlen : x.hooks.length ≤ 256) (i n : Nat) :
    ((t.relatch p x b i).panel n).inService = (t.panel n).inService ∧
      ((t.relatch p x b i).panel n).inLayout = (t.panel n).inLayout ∧
      (n ≠ p → (t.relatch p x b i).panel n = t.panel n) := by
  rcases relatch_cases p x b t i with ⟨k, hk, -, hq⟩ | ⟨-, hq⟩
  · obtain ⟨hi, -⟩ := List.getElem?_eq_some_iff.mp hk
    have hpanel := panel_modHook t (Config.hooksPerPanel * p + i) n (Hook.commanded (k.required b))
    rw [panelOf_place (Nat.lt_of_lt_of_le hi hlen)] at hpanel
    replace hpanel : (t.relatch p x b i).panel n = _ := (congrArg (fun q => State.panel q n) hq).trans hpanel
    rw [hpanel]
    split
    next hn => exact ⟨rfl, rfl, fun h => absurd hn h⟩
    · exact ⟨rfl, rfl, fun _ => rfl⟩
  · rw [hq]; exact ⟨rfl, rfl, fun _ => rfl⟩

theorem relatch_hook?_other {h : Nat} (hh : h ≠ Config.hooksPerPanel * p + i) :
    (t.relatch p x b i).hook? h = t.hook? h := by
  rcases relatch_cases p x b t i with ⟨k, -, -, hq⟩ | ⟨-, hq⟩
  · simp [hq, hh]
  · rw [hq]

theorem relatch_hook?_self (hk : x.hooks[i]? = some k) (hmoves : k.moves x.inService b) :
    (t.relatch p x b i).hook? (Config.hooksPerPanel * p + i) =
      (t.hook? (Config.hooksPerPanel * p + i)).map (Hook.commanded (k.required b)) := by
  rcases relatch_cases p x b t i with ⟨k', hk', -, hq⟩ | ⟨hstays, -⟩
  · obtain rfl := Option.some.inj (hk.symm.trans hk')
    rw [hq, hook?_sendLatch, if_pos rfl]
    rfl
  · exact absurd hmoves (hstays k hk)

section

variable {h : Nat} (hp : panelOf h = p) (hk : x.hooks[h % Config.hooksPerPanel]? = some k)

include hp hk

theorem relatched_stays (hstays : ¬k.moves x.inService b) (l : List Nat) :
    (l.foldl (State.relatch p x b) t).hook? h = t.hook? h := by
  refine foldl_leaves _ (fun q => q.hook? h) _ (fun q i => ?_) l
  rcases relatch_cases p x b q i with ⟨k', hk', hmoves, -⟩ | ⟨-, hq⟩
  · refine relatch_hook?_other q fun hh => ?_
    have hi : i = h % Config.hooksPerPanel := Nat.add_left_cancel (hh.symm.trans (place_of_panelOf hp))
    obtain rfl := Option.some.inj ((hi ▸ hk').symm.trans hk)
    exact hstays hmoves
  · rw [hq]

/-- A second command to the same position leaves the hook as the first left it. -/
theorem relatched_commanded (hmoves : k.moves x.inService b) (l : List Nat) {k' : Hook} (hk' : t.hook? h = some k')
    (hmem : h % Config.hooksPerPanel ∈ l ∨ k'.commanded (k.required b) = k') :
    (l.foldl (State.relatch p x b) t).hook? h = some (k'.commanded (k.required b)) := by
  have hh := place_of_panelOf hp
  induction l generalizing t k' with
  | nil => rw [List.foldl_nil, hk', hmem.resolve_left List.not_mem_nil]
  | cons i l ih =>
    rw [List.foldl_cons]
    by_cases hi : h % Config.hooksPerPanel = i
    · have hself := relatch_hook?_self (p := p) t hk hmoves
      rw [← hh, hk', hi] at hself
      exact ih _ (k' := k'.commanded (k.required b)) hself (.inr rfl)
    · have hother : (t.relatch p x b i).hook? h = some k' := by
        rw [relatch_hook?_other t (by omega), hk']
      exact ih _ hother (hmem.imp_left fun h => (List.mem_cons.mp h).resolve_left hi)

end

theorem mem_sent_relatched (l : List Nat) (m : SetLatch) :
    m ∈ (l.foldl (State.relatch p x b) t).kc.sent ↔ m ∈ t.kc.sent ∨
      ∃ i ∈ l, ∃ k, x.hooks[i]? = some k ∧ k.moves x.inService b ∧
        m = ⟨Config.hooksPerPanel * p + i, k.required b⟩ := by
  induction l generalizing t with
  | nil => simp
  | cons i l ih =>
    rw [List.foldl_cons, ih, List.exists_mem_cons_iff, ← or_assoc]
    refine or_congr_left ?_
    rcases relatch_cases p x b t i with ⟨k, hk, hmoves, hq⟩ | ⟨hstays, hq⟩
    · simp [hq, hk, hmoves]
    · rw [hq]
      exact ⟨.inl, fun h => h.resolve_right fun ⟨k, hk, hmoves, _⟩ => hstays k hk hmoves⟩

end

section

variable {p : Nat} {b : Bool}

/-- A panel whose service is written has the hooks it had. -/
theorem hook?_setService (s : State) (p : Nat) (b : Bool) (h : Nat) :
    (s.modPanel p fun x => { x with inService := b }).hook? h = s.hook? h := by
  by_cases hp : p = panelOf h
  · subst hp
    by_cases hlt : panelOf h < s.kc.panels.length
    · rw [State.hook?, panel_modPanel_self s _ _ hlt]; rfl
    · rw [State.modPanel, List.modify_eq_self (Nat.le_of_not_lt hlt)]
  · rw [State.hook?, panel_modPanel_other s _ _ _ hp]; rfl

theorem setPanelService_panel (hp : p < s.kc.panels.length) (hlen : (s.panel p).hooks.length ≤ 256) :
    ((s.setPanelService p b).panel p).inService = b ∧
      ((s.setPanelService p b).panel p).inLayout = (s.panel p).inLayout ∧
      ∀ n, n ≠ p → (s.setPanelService p b).panel n = s.panel n := by
  have hrelatch := relatch_panel (p := p) (b := b) (hlen := hlen)
  have hself := panel_modPanel_self s p (fun x => { x with inService := b }) hp
  rw [setPanelService_eq]
  refine ⟨?_, ?_, fun n hn => ?_⟩
  · exact (foldl_leaves _ (fun q => (q.panel p).inService) _ (fun q i => (hrelatch q i p).1) _).trans
      (by rw [hself])
  · exact (foldl_leaves _ (fun q => (q.panel p).inLayout) _ (fun q i => (hrelatch q i p).2.1) _).trans
      (by rw [hself])
  · exact (foldl_leaves _ (fun q => q.panel n) _ (fun q i => (hrelatch q i n).2.2 hn) _).trans
      (panel_modPanel_other s p n _ hn.symm)

theorem setPanelService_hook? {h : Nat} {k : Hook} (hp : h / 256 = p) (hk : s.hook? h = some k) :
    (¬k.moves (s.panel p).inService b → (s.setPanelService p b).hook? h = some k) ∧
      (k.moves (s.panel p).inService b → (s.setPanelService p b).hook? h = some (k.commanded (k.required b))) := by
  have hplace : (s.panel p).hooks[h % Config.hooksPerPanel]? = some k := by rw [← hp]; exact hk
  have hstart := (hook?_setService s p b h).trans hk
  obtain ⟨hlt, -⟩ := List.getElem?_eq_some_iff.mp hplace
  rw [setPanelService_eq]
  exact ⟨fun hstays => (relatched_stays _ hp hplace hstays _).trans hstart,
    fun hmoves => relatched_commanded _ hp hplace hmoves _ hstart (.inl (List.mem_range.mpr hlt))⟩

theorem setPanelService_sent (hlen : (s.panel p).hooks.length ≤ 256) (m : SetLatch) :
    m ∈ (s.setPanelService p b).kc.sent ↔ m ∈ s.kc.sent ∨
      ∃ k, m.hook / 256 = p ∧ s.hook? m.hook = some k ∧ k.moves (s.panel p).inService b ∧ m.latch = k.required b := by
  rw [setPanelService_eq, mem_sent_relatched]
  refine or_congr Iff.rfl ⟨?_, ?_⟩
  · rintro ⟨i, -, k, hk, hmoves, rfl⟩
    obtain ⟨hi, -⟩ := List.getElem?_eq_some_iff.mp hk
    have hplace : i < Config.hooksPerPanel := Nat.lt_of_lt_of_le hi hlen
    refine ⟨k, panelOf_place hplace, ?_, hmoves, rfl⟩
    rw [State.hook?, panelOf_place hplace, mod_place hplace, hk]
  · rintro ⟨k, hp, hk, hmoves, hlatch⟩
    have hplace : (s.panel p).hooks[m.hook % Config.hooksPerPanel]? = some k := by rw [← hp]; exact hk
    obtain ⟨hlt, -⟩ := List.getElem?_eq_some_iff.mp hplace
    refine ⟨_, List.mem_range.mpr hlt, k, hplace, hmoves, ?_⟩
    rw [← place_of_panelOf hp, ← hlatch]

end

/-- Settles O25: the commands by their plans, the required position, one changed hook, and the hooks of a panel. -/
theorem baysLanesAndPanelsFollowTheirCommands : Obligations.BaysLanesAndPanelsFollowTheirCommands := by
  refine ⟨fun s q b hr => ?_, fun s q p hr => ⟨panelCommands_out q hr, fun hin => ?_⟩,
    fun k service => ⟨required_closed_iff k service, required_opened_of_not_closed k service⟩,
    fun s h k f hk => ⟨hook?_updHook_quiet s h f k hk, hook?_updHook_moved s h f k hk,
      fun g hg => hook?_updHook_other s h g f hg⟩,
    fun s p b hp hlen => ?_⟩
  · refine ⟨bayCommands_out q hr, fun hin => ?_, fun l => clearLane_ruled q l hr⟩
    obtain ⟨halready, henable, hnone, hdisable⟩ := bayEnable_ruled q hr hin
    obtain ⟨hbad, hflags⟩ := bayFlags_ruled q hr hin
    exact ⟨halready, henable, hnone, hdisable, hbad, hflags⟩
  · obtain ⟨hon, hoff⟩ := beginService_ruled q hr hin
    obtain ⟨hended, hends⟩ := endService_ruled q hr hin
    exact ⟨hon, hoff, hended, hends⟩
  · obtain ⟨hservice, hlayout, hothers⟩ := setPanelService_panel (b := b) hp hlen
    exact ⟨hservice, hlayout, hothers, fun h k hh hk => setPanelService_hook? hh hk, setPanelService_sent hlen⟩

end Sys2Proof.Machine
end

section
/-! The second of the crystal (R107, R179, R180) and the changes of the loops (R130, R134). -/

namespace Sys2Proof.Machine

open Sys2Proof.Safety

section

variable {occurs : State → Bool} {f : State → State} {s : State}

theorem event_of_occurs (hrun : s.running = true) (hoccurs : occurs s = true) : event occurs f s = .next (f s.begin).finish := by
  simp [event, hrun, hoccurs]

theorem event_of_not_occurs (hoccurs : occurs s = false) : event occurs f s = .next s := by
  simp [event, hoccurs]

end

section

variable (s : State) (n : Nat) (level : Bool)

theorem exec_elapsedSecond (hrun : s.running = true) : EventLeaves .elapsedSecond s s.begin.tickSecond := by
  show execElapsedSecond s = _
  simp [execElapsedSecond, hrun]

theorem exec_laneLoopChange : exec (.laneLoopChange n level) s =
    event (fun s => (s.lane n).loop != level) (fun s => s.laneLoop n level)
      { s with pw := { s.pw with lanes := s.pw.lanes.set n level } } := rfl

theorem exec_bayLoopChange : exec (.bayLoopChange n level) s =
    event (fun s => (s.bay n).loop != level) (fun s => s.modBay n (Bay.loopChange level))
      { s with pw := { s.pw with bays := s.pw.bays.set n level } } := rfl

end

/-- The change of a lane as R130 words it. -/
theorem laneLoop_eq (s : State) (n : Nat) (level : Bool) :
    s.laneLoop n level = s.modLane n fun x =>
      { loop := level
        fifo := if level = true ∧ x.loop = false ∧ x.fifo.length < 4 then x.fifo ++ [s.sa.clock] else x.fifo } := by
  have hrises (x : Lane) : (level && !x.loop && decide (x.fifo.length < Config.laneCaptures)) = true ↔
      level = true ∧ x.loop = false ∧ x.fifo.length < 4 := by
    rw [Bool.and_eq_true, Bool.and_eq_true, Bool.not_eq_true', decide_eq_true_iff, and_assoc]; rfl
  simp only [State.laneLoop, hrises]

/-- The change of a bay as R134 words it. -/
theorem loopChange_eq (level : Bool) (x : Bay) :
    Bay.loopChange level x =
      { x with
        loop := level
        driveOff := if x.holder = none then x.driveOff else if level then none else
          match x.driveOff with
          | none => some ⟨0, 20⟩
          | some d => some d } := by
  unfold Bay.loopChange
  cases x.holder with
  | none => simp
  | some t => simp only [Option.isSome_some, if_true, reduceCtorEq, if_false]; rfl

section

variable {p : State} {n : Nat} {level : Bool}

theorem laneLoop_taken (hrun : p.running = true) (hchange : (p.lane n).loop ≠ level) :
    event (fun s => (s.lane n).loop != level) (fun s => s.laneLoop n level) p = .next (p.begin.modLane n fun x =>
      { loop := level
        fifo := if level = true ∧ x.loop = false ∧ x.fifo.length < 4 then x.fifo ++ [p.sa.clock] else x.fifo }).finish := by
  have hoccurs : ((p.lane n).loop != level) = true := bne_iff_ne.mpr hchange
  rw [event_of_occurs hrun hoccurs, laneLoop_eq]
  rfl

theorem bayLoop_taken (hrun : p.running = true) (hchange : (p.bay n).loop ≠ level) :
    event (fun s => (s.bay n).loop != level) (fun s => s.modBay n (Bay.loopChange level)) p =
      .next (p.begin.modBay n fun x =>
        { x with
          loop := level
          driveOff := if x.holder = none then x.driveOff else if level then none else
            match x.driveOff with
            | none => some ⟨0, 20⟩
            | some d => some d }).finish := by
  have hoccurs : ((p.bay n).loop != level) = true := bne_iff_ne.mpr hchange
  rw [event_of_occurs hrun hoccurs, funext (loopChange_eq level)]

end

/-- Settles O46: a second of the crystal, and a change of a loop's level, each unfolded to its event. -/
theorem secondsAndLoopsAreTaken : Obligations.SecondsAndLoopsAreTaken := by
  intro s hrun
  refine ⟨⟨exec_elapsedSecond s hrun, rfl, rfl, rfl, rfl, rfl, rfl, rfl, rfl, rfl, rfl, rfl, rfl, rfl⟩,
    fun l level => ⟨fun hsame => ?_, fun hchange => ?_⟩, fun b level => ⟨fun hsame => ?_, fun hchange => ?_⟩⟩
  · exact (exec_laneLoopChange s l level).trans (event_of_not_occurs (bne_eq_false_iff_eq.mpr hsame))
  · exact (exec_laneLoopChange s l level).trans (laneLoop_taken hrun hchange)
  · exact (exec_bayLoopChange s b level).trans (event_of_not_occurs (bne_eq_false_iff_eq.mpr hsame))
  · exact (exec_bayLoopChange s b level).trans (bayLoop_taken hrun hchange)

end Sys2Proof.Machine
end

section
/-! Readiness and eligibility, item by item (R103 to R106, R117). -/

namespace Sys2Proof.Machine

open Sys2Proof.Safety

section

variable {s : State} {r : Record} {e : Entry} 

/-! ### The items -/

theorem rampOpen_iff : s.rampOpen r = true ↔ ∀ st, r.stall = some st →
    s.lk.mask.getLsbD (s.governing st.zone) = true → s.lk.permits.getLsbD (s.governing st.zone) = true := by
  unfold State.rampOpen
  cases r.stall with
  | none => simp
  | some st => simpa using permitHeld_iff s st.zone

/-- The lead is taken off a due time without going below zero: that is the sum's comparison (R104). -/
theorem entryDue_iff : s.entryDue r e = true ↔ ∀ d st, e.due = some d → r.stall = some st →
    d.toNat ≤ s.sa.clock.toNat + s.jq.leads.getD (s.governing st.zone) 0 := by
  unfold State.entryDue State.leadOf
  cases e.due with
  | none => simp
  | some d =>
    cases r.stall with
    | none => simp
    | some st => simp

theorem hookInService_eq_false_iff : s.hookInService r.hook = false ↔ (s.panel (r.hook / 256)).inService = false := Iff.rfl

/-- The kerb budget counts the OFFERED and TAKEN fetches and the held bays against the usable bays (R105, R133, R135). -/
theorem kerb_room_iff : s.kerbCount < s.usableBays ↔
    (s.jq.entries.filter fun g => g.kind == .fetch && g.status != .queued).length +
      (s.km.bays.filter fun b => b.holder.isSome).length <
        (s.km.bays.filter fun b => b.inLayout && b.enabled && (s.sa.state != .night || b.night)).length := by
  unfold State.kerbCount State.fetchesOut State.stagedCount State.usableBays
  rw [List.countP_eq_length_filter, List.countP_eq_length_filter, List.countP_eq_length_filter]
  rfl

theorem eligible_iff (a : Nat) : s.eligible a = true ↔ (s.attendant a).state = .idle ∧ s.keysOut a + s.openFor a < 3 := by
  rw [State.eligible, Bool.and_eq_true, beq_iff_eq, decide_eq_true_iff]; rfl

/-! ### The first item unmet -/

theorem unmet_fetch (hr : s.record? e.ticket = some r) (hkind : e.kind = .fetch) : s.unmet e = s.unmetFetch r e := by
  simp only [State.unmet, hr, hkind]

theorem unmet_move (hr : s.record? e.ticket = some r) (hkind : e.kind = .move) : s.unmet e = s.unmetMove r := by
  simp only [State.unmet, hr, hkind]

theorem ready_iff : s.ready e = true ↔ e.status = .queued ∧ s.unmet e = none := by
  rw [State.ready, Bool.and_eq_true, beq_iff_eq, Option.isNone_iff_eq_none]

/-- The reason of a FETCH entry: the items of R103 are asked in their order. -/
theorem unmetFetch_iff :
    (s.unmetFetch r e = none ↔ r.state = .called ∧ s.entryDue r e = true ∧ s.keyIsHome r = true ∧ r.flags.keyAway = false ∧
      s.rampOpen r = true ∧ s.hookInService r.hook = false ∧ s.kerbCount < s.usableBays) ∧
    (s.unmetFetch r e = some .notCalled ↔ r.state ≠ .called) ∧
    (s.unmetFetch r e = some .notDue ↔ r.state = .called ∧ ¬s.entryDue r e = true) ∧
    (s.unmetFetch r e = some .keyNotHome ↔ r.state = .called ∧ s.entryDue r e = true ∧ ¬s.keyIsHome r = true) ∧
    (s.unmetFetch r e = some .keyAway ↔
      r.state = .called ∧ s.entryDue r e = true ∧ s.keyIsHome r = true ∧ r.flags.keyAway = true) ∧
    (s.unmetFetch r e = some .ramp ↔ r.state = .called ∧ s.entryDue r e = true ∧ s.keyIsHome r = true ∧
      r.flags.keyAway = false ∧ ¬s.rampOpen r = true) ∧
    (s.unmetFetch r e = some .panel ↔ r.state = .called ∧ s.entryDue r e = true ∧ s.keyIsHome r = true ∧
      r.flags.keyAway = false ∧ s.rampOpen r = true ∧ ¬s.hookInService r.hook = false) ∧
    (s.unmetFetch r e = some .kerb ↔ r.state = .called ∧ s.entryDue r e = true ∧ s.keyIsHome r = true ∧
      r.flags.keyAway = false ∧ s.rampOpen r = true ∧ s.hookInService r.hook = false ∧ ¬s.kerbCount < s.usableBays) := by
  unfold State.unmetFetch
  split_ifs with hcalled hdue hheld haway hramp hpanel hroom
  all_goals simp_all

/-- The reason of a MOVE entry: the items of R106 are asked in their order. -/
theorem unmetMove_iff :
    (s.unmetMove r = none ↔
      r.state = .granted ∧ s.keyIsHome r = true ∧ s.rampOpen r = true ∧ s.hookInService r.hook = false) ∧
    (s.unmetMove r = some .notGranted ↔ r.state ≠ .granted) ∧
    (s.unmetMove r = some .keyNotHome ↔ r.state = .granted ∧ ¬s.keyIsHome r = true) ∧
    (s.unmetMove r = some .ramp ↔ r.state = .granted ∧ s.keyIsHome r = true ∧ ¬s.rampOpen r = true) ∧
    (s.unmetMove r = some .panel ↔
      r.state = .granted ∧ s.keyIsHome r = true ∧ s.rampOpen r = true ∧ ¬s.hookInService r.hook = false) := by
  unfold State.unmetMove
  split_ifs with hgranted hheld hramp hpanel
  all_goals simp_all

end

/-- Settles O49, item by item: each item of R103 and R106 in the words of the statement, and the order they are asked in. -/
theorem readinessAndEligibilityAreJudgedItemByItem : Obligations.ReadinessAndEligibilityAreJudgedItemByItem := by
  intro s e r hr
  refine ⟨fun hkind => ?_, fun hkind => ?_, eligible_iff⟩
  · rw [ready_iff, unmet_fetch hr hkind, ← keyIsHome_iff, ← rampOpen_iff, ← entryDue_iff, ← kerb_room_iff,
      ← hookInService_eq_false_iff]
    exact ⟨and_congr_right fun _ => unmetFetch_iff.1, unmetFetch_iff.2⟩
  · rw [ready_iff, unmet_move hr hkind, ← keyIsHome_iff, ← rampOpen_iff, ← hookInService_eq_false_iff]
    exact ⟨and_congr_right fun _ => unmetMove_iff.1, unmetMove_iff.2⟩

end Sys2Proof.Machine
end

section
/-! The queue order (R94) under the three writings of the queue: an entry joins, entries leave, entries are marked. -/

namespace Sys2Proof.Machine

/-- Of three entries the first comes before the third where the second stands between (R94). -/
theorem before_trans {e g x : Entry} (h : e.before g = true) (h' : g.before x = true) : e.before x = true := by
  simp only [Entry.before, Bool.or_eq_true, Bool.and_eq_true, decide_eq_true_eq, beq_iff_eq, ← BitVec.toNat_inj] at h h' ⊢
  omega

/-- An ordered queue stays ordered as an entry joins. -/
theorem pairwise_insertEntry (e : Entry) {l : List Entry} (h : l.Pairwise fun a b => b.before a = false) :
    (insertEntry e l).Pairwise fun a b => b.before a = false := by
  induction l with
  | nil => exact List.pairwise_singleton _ e
  | cons g gs ih =>
    obtain ⟨hg, hgs⟩ := List.pairwise_cons.mp h
    unfold insertEntry
    split
    next hbefore =>
      refine List.pairwise_cons.mpr ⟨fun x hx => ?_, h⟩
      rcases List.mem_cons.mp hx with rfl | hx
      · exact before_asymm e x hbefore
      · by_contra hxe
        exact absurd (before_trans (by simpa using hxe) hbefore) (by simp [hg x hx])
    next hnot =>
      refine List.pairwise_cons.mpr ⟨fun x hx => ?_, ih hgs⟩
      rcases (mem_insertEntry e x gs).mp hx with rfl | hx
      · simpa using hnot
      · exact hg x hx

/-- Entries are ordered by tier, time and slot alone. -/
theorem before_congr {e e' g g' : Entry} (he : e'.tier = e.tier ∧ e'.time = e.time ∧ e'.slot = e.slot)
    (hg : g'.tier = g.tier ∧ g'.time = g.time ∧ g'.slot = g.slot) : e'.before g' = e.before g := by
  obtain ⟨h1, h2, h3⟩ := he
  obtain ⟨h4, h5, h6⟩ := hg
  simp only [Entry.before, h1, h2, h3, h4, h5, h6]

end Sys2Proof.Machine
end

section
/-! CALL, check by check (R98, R99, R127), and the upgrade that it may be (R99). -/

namespace Sys2Proof.Machine

open Sys2Proof.Safety

/-! ### The checks in order -/

/-- The tier that CALL gives, from its byte. -/
def callTier (tierByte : Nat) : Option Nat := if tierByte = 255 then none else some tierByte

theorem optTierOf_valid {n : Nat} (h : n ≤ 3 ∨ n = 255) : optTierOf n = some (callTier n) := by
  unfold optTierOf tierOf callTier
  rcases h with h | rfl
  · have hgiven : n ≠ 255 := by omega
    rw [if_neg hgiven, if_neg hgiven, if_pos h]; rfl
  · rfl

theorem callTier_getD (n d : Nat) : (callTier n).getD d = if n = 255 then d else n := by
  unfold callTier; split <;> rfl

/-- The call field that CALL sets. -/
def calledBy (s : State) (r : Record) (tierByte : Nat) (due : Option Time) (source : Source) : CallField :=
  { tier := if tierByte = 255 then r.tier else tierByte, due := due, time := s.sa.clock, source := source }

section

variable {s : State} {t tierByte : Nat} {due : Option Time} {r : Record} {source : Source}

/-- The plan of CALL, by the record's state and its entry: every clause, for any way of answering that follows the plan. -/
theorem callPlan_ruled (ht : r.ticket = t) {refused : Answer → Prop} {taken : (State → State) → Prop}
    (hrefused : ∀ a, s.callPlan (callTier tierByte) due source r = refuse a → refused a)
    (htaken : ∀ f, s.callPlan (callTier tierByte) due source r = done f → taken f) :
    (r.state = .fetching ∨ r.state = .staged ∨ r.state = .suspended ∨
        (r.state = .inbound ∧ s.hasEntry t .move = true) → refused .wrongState) ∧
    (r.state ≠ .fetching → r.state ≠ .staged → r.state ≠ .suspended →
        ¬(r.state = .inbound ∧ s.hasEntry t .move = true) →
      (∀ x, s.entry? t = some x → x.kind = .fetch →
        (callTier tierByte = none ∨ x.tier ≤ tierByte → refused .already) ∧
        (callTier tierByte ≠ none → tierByte < x.tier → taken fun q => q.upgradeCall t tierByte)) ∧
      (∀ x, s.entry? t = some x → x.kind = .move → taken fun q => q.newCall r (calledBy s r tierByte due source)) ∧
      (s.entry? t = none →
        (64 ≤ s.jq.entries.length → refused .queueFull) ∧
        (s.jq.entries.length < 64 → taken fun q => q.newCall r (calledBy s r tierByte due source)))) := by
  subst ht
  simp only [State.callPlan, callTier_getD] at hrefused htaken
  refine ⟨fun hwrong => hrefused _ (if_pos hwrong), fun hfetching hstaged hsus hmove => ?_⟩
  have hright : ¬(r.state = .fetching ∨ r.state = .staged ∨ r.state = .suspended ∨
      (r.state = .inbound ∧ s.hasEntry r.ticket .move = true)) := by tauto
  rw [if_neg hright] at hrefused htaken
  refine ⟨fun x hx hkind => ⟨fun hnot => hrefused _ ?_, fun hgiven hlower => htaken _ ?_⟩, fun x hx hkind => htaken _ ?_,
    fun hnone => ⟨fun hfull => hrefused _ ?_, fun hroom => htaken _ ?_⟩⟩
  · simp only [hx, hkind, reduceCtorEq, if_false]
    cases htier : callTier tierByte with
    | none => rfl
    | some n =>
      obtain rfl : tierByte = n := by unfold callTier at htier; split at htier <;> simp_all
      have hle : ¬tierByte < x.tier := by simp [htier] at hnot; omega
      simp [hle]
  · have htier : callTier tierByte = some tierByte := by unfold callTier at hgiven ⊢; split <;> simp_all
    simp [hx, hkind, htier, hlower]
  · simp [hx, hkind, calledBy]
  · have hfull : Config.queuePlaces ≤ s.jq.entries.length := hfull
    simp [hnone, hfull]
  · have hroom : ¬Config.queuePlaces ≤ s.jq.entries.length := Nat.not_le.mpr hroom
    simp [hnone, hroom, calledBy]

end

theorem exec_call_desk (s : State) (q t tierByte e : Nat) (due : OptWord) :
    exec (.call (.desk q) t tierByte due e) s = deskCommand q 0x40
      (fun s => s.deskRecord t e ((optTierOf tierByte).isSome && (dueOf due).isSome)
        (s.callPlan ((optTierOf tierByte).getD none) ((dueOf due).getD none) .desk)) s := rfl

theorem exec_call_handset (s : State) (h : Handset) (t tierByte e : Nat) (due : OptWord) :
    exec (.call (.handset h) t tierByte due e) s = handsetMessage h 0x07 (some t)
      (fun s => s.fromSender h [] fun a => s.handsetRecord t ((optTierOf tierByte).isSome && (dueOf due).isSome) []
        fun r => s.actingOnly a r (s.callPlan ((optTierOf tierByte).getD none) ((dueOf due).getD none) .handset r)) s := rfl

/-! ### The upgrade -/

section

variable {s : State} {t : Nat} {x : Entry}

theorem upgradeEntry_some (hx : s.entry? t = some x) (tier : Nat) : s.upgradeEntry t tier =
    (s.setEntries (insertEntry { x with tier := tier } (s.jq.entries.filter fun g => g.ticket != t))).lookDue := by
  simp only [State.upgradeEntry, hx]

/-- The entries without those of one ticket. -/
theorem find?_cut (l : List Entry) (t u : Nat) :
    (l.filter fun g => g.ticket != t).find? (fun g => g.ticket == u) =
      if u = t then none else l.find? fun g => g.ticket == u := by
  rw [List.find?_filter]
  split
  next hut =>
    refine List.find?_eq_none.mpr fun g _ hg => ?_
    simp_all
  next hut =>
    congr 1
    funext g
    by_cases hg : g.ticket = u
    · simp [hg, hut]
    · simp [hg]

theorem entry?_upgradeEntry (hx : s.entry? t = some x) (tier u : Nat) :
    (s.upgradeEntry t tier).entry? u = if u = t then some { x with tier := tier } else s.entry? u := by
  obtain rfl : x.ticket = t := entry?_ticket s hx
  rw [upgradeEntry_some hx]
  show (insertEntry { x with tier := tier } (s.jq.entries.filter fun g => g.ticket != x.ticket)).find? _ = _
  split
  next hu =>
    subst hu
    exact find?_insertEntry_self { x with tier := tier } _ ((find?_cut _ _ _).trans (if_pos rfl))
  next hu =>
    exact (find?_insertEntry_other { x with tier := tier } _ _ hu).trans ((find?_cut _ _ _).trans (if_neg hu))

theorem ordered_upgradeEntry (tier : Nat) (h : QueueOrdered s) : QueueOrdered (s.upgradeEntry t tier) := by
  unfold State.upgradeEntry
  split
  · exact h
  · exact pairwise_insertEntry _ (h.filter _)

/-- The tier that an upgrade writes in the call field (R99). -/
def Record.upgraded (tier : Nat) (r : Record) : Record := { r with call := r.call.map fun c => { c with tier := tier } }

theorem record?_upgradeCall (tier u : Nat) :
    (s.upgradeCall t tier).record? u = if u = t then (s.record? t).map (Record.upgraded tier) else s.record? u := by
  have hrecord (u : Nat) : (s.upgradeEntry t tier).record? u = s.record? u := by simp [State.record?]
  show ((s.upgradeEntry t tier).modRecord t (Record.upgraded tier)).record? u = _
  split
  next hu => rw [hu, record?_modRecord_self _ t (Record.upgraded tier) fun _ => rfl, hrecord]
  next hu => rw [record?_modRecord_other _ t u (Record.upgraded tier) (fun _ => rfl) hu, hrecord]

theorem look_upgradeEntry (hx : s.entry? t = some x) (tier : Nat) : (s.upgradeEntry t tier).due.look = true := by
  rw [upgradeEntry_some hx]; rfl

end

/-- Settles O22: the plan of CALL clause by clause on both ports, and the upgrade at the queue and at the record. -/
theorem callsAreRefusedInOrderOrTaken : Obligations.CallsAreRefusedInOrderOrTaken := by
  refine ⟨fun s t tierByte e due dueTime r htier hdue => ?_, fun s t tier x r hx hr => ?_⟩
  · have hvalid := optTierOf_valid htier
    have hok : ((optTierOf tierByte).isSome && (dueOf due).isSome) = true := by rw [hvalid, hdue]; rfl
    have hget : (optTierOf tierByte).getD none = callTier tierByte := by rw [hvalid]; rfl
    have hdueGet : (dueOf due).getD none = dueTime := by rw [hdue]; rfl
    refine ⟨fun q h => ?_, fun h a hn => ?_⟩
    · have he := exec_call_desk s q t tierByte e due
      rw [hok, hget, hdueGet] at he
      exact callPlan_ruled (record?_ticket s t r h.2.2.2.1) (fun a hp => deskReports_named h rfl rfl he hp)
        fun f hp => deskAnswers_named h rfl rfl he hp
    · intro c
      have he := exec_call_handset s h t tierByte e due
      rw [hok, hget, hdueGet] at he
      have answers (p : Plan) (hp : s.actingOnly a r (s.callPlan (callTier tierByte) dueTime .handset r) = p) :
          HandsetAnswers c s p.answer (some t) p.fields p.effect :=
        handsetAnswers_named (own := fun s a r => s.actingOnly a r (s.callPlan (callTier tierByte) dueTime .handset r)) hn rfl
          rfl he hp
      refine ⟨fun hact => answers _ (actingOnly_of_not_mayAct hact _), fun hact => ?_⟩
      rw [actingOnly_of_mayAct hact] at answers
      exact callPlan_ruled (record?_ticket s t r hn.2.2.2) (fun x hp => answers (refuse x) hp) fun f hp => answers (done f) hp
  · have hframe := State.upgradeEntry_frame s t tier
    obtain ⟨-, hsm, -, hkc, hdr, hkm, hlk, hsa, -, -⟩ := hframe
    have hentry (u : Nat) : (s.upgradeCall t tier).entry? u = if u = t then some { x with tier := tier } else s.entry? u :=
      entry?_upgradeEntry hx tier u
    intro q
    refine ⟨?_, ordered_upgradeEntry tier, ?_, fun u hu => ⟨?_, ?_⟩, ?_, ?_, ?_, ?_, ?_, ?_, look_upgradeEntry hx tier⟩
    · rw [hentry, if_pos rfl]
    · rw [record?_upgradeCall, if_pos rfl, hr]; rfl
    · rw [hentry, if_neg hu]
    · rw [record?_upgradeCall, if_neg hu]
    all_goals assumption

end Sys2Proof.Machine
end

section
/-! The work in hand: what the order of the job queue (R94) and its agreement with records and attendants (R92, R93, R112) are
read from, where a record can stand between the queue and the roster, and when a change at one record keeps the agreement. -/

namespace Sys2Proof.Machine

open Sys2Proof.Safety

/-! ### The yard of a state -/

/-- What the queue and the roster are held against in a record: its slot, its state, whether it has a call, its attendant. -/
structure Post where
  slot : Nat
  state : RecordState
  called : Bool
  attendant : Option Nat

def Record.post (r : Record) : Post :=
  { slot := r.slot, state := r.state, called := r.call.isSome, attendant := r.attendant }

/-- The state of an attendant on the roster. -/
def State.duty (s : State) (a : Nat) : Option AttendantState := s.dr.attendants[a]?.map Attendant.state

/-- The wait list, what each ticket looks up, the job queue, and what each attendant is at. -/
@[ext] structure Yard where
  wait : List Nat
  post : Nat → Option Post
  queue : List Entry
  duty : Nat → Option AttendantState

def State.yard (s : State) : Yard :=
  { wait := s.sm.waitList, post := fun t => (s.record? t).map Record.post, queue := s.jq.entries, duty := s.duty }

theorem duty_eq_some {s : State} {a : Nat} {st : AttendantState} (hst : st ≠ .off) :
    s.duty a = some st ↔ (s.attendant a).state = st := by
  unfold State.duty State.attendant
  rw [List.getD_eq_getElem?_getD]
  cases s.dr.attendants[a]? with
  | none => simpa [Attendant.off] using Ne.symm hst
  | some x => simp

namespace Yard

/-- The entry of a ticket. -/
def job (f : Yard) (t : Nat) : Option Entry := f.queue.find? fun e => e.ticket == t

end Yard

theorem job_yard (s : State) (t : Nat) : s.yard.job t = s.entry? t := rfl

theorem post_yard {s : State} {t : Nat} {r : Record} (hr : s.record? t = some r) : s.yard.post t = some r.post := by
  show (s.record? t).map Record.post = _
  rw [hr]; rfl

/-! ### Where a record stands -/

/-- The state of a record whose job waits for an attendant (R12, R11). -/
def JobKind.wanted : JobKind → RecordState
  | .fetch => .called
  | .move => .granted

/-- A record and its entry, with the attendant at work on it: the rows that R12, R14, R92, R93, R99, R100, R112, R121 and R122
leave. -/
inductive Stands (duty : Nat → Option AttendantState) : Option Post → Option Entry → Prop
  | absent : Stands duty none none
  | settled {p : Post} (hstate : p.state = .waiting ∨ p.state = .stored ∨ p.state = .staged) (hcall : p.called = false)
      (hnone : p.attendant = none) : Stands duty (some p) none
  | aside {p : Post} (hstate : p.state = .suspended) (hcall : p.called = false) : Stands duty (some p) none
  | parking {p : Post} (hstate : p.state = .inbound) (hcall : p.called = false)
      (hparker : ∀ a, p.attendant = some a → duty a = some .parking) : Stands duty (some p) none
  | early {p : Post} {e : Entry} (hslot : p.slot = e.slot) (hstate : p.state = .inbound) (hcall : p.called = true)
      (hparker : ∀ a, p.attendant = some a → duty a = some .parking) (hkind : e.kind = .fetch) (hqueued : e.status = .queued)
      (hnone : e.attendant = none) : Stands duty (some p) (some e)
  | queued {p : Post} {e : Entry} (hslot : p.slot = e.slot) (hstate : p.state = e.kind.wanted)
      (hcall : p.called = (e.kind == .fetch)) (hnobody : p.attendant = none) (hqueued : e.status = .queued)
      (hnone : e.attendant = none) : Stands duty (some p) (some e)
  | offered {p : Post} {e : Entry} {a : Nat} (hslot : p.slot = e.slot) (hstate : p.state = e.kind.wanted)
      (hcall : p.called = (e.kind == .fetch)) (hnobody : p.attendant = none) (hoffered : e.status = .offered)
      (hsome : e.attendant = some a) (hduty : duty a = some .offered) : Stands duty (some p) (some e)
  | underway {p : Post} {e : Entry} {a : Nat} (hslot : p.slot = e.slot) (hstate : p.state = e.kind.underway)
      (hcall : p.called = (e.kind == .fetch)) (hnamed : p.attendant = none ∨ p.attendant = some a) (htaken : e.status = .taken)
      (hsome : e.attendant = some a) (hduty : duty a = some e.kind.working) : Stands duty (some p) (some e)

/-- The attendant a record names while it is not set aside. -/
def Post.named (p : Post) : Option Nat := if p.state = .suspended then none else p.attendant

/-- The attendant that an entry or a record names. -/
def workerOf (p : Option Post) (j : Option Entry) : Option Nat := j.bind Entry.attendant <|> p.bind Post.named

/-- An attendant with work. -/
def Busy (d : Option AttendantState) : Prop :=
  d = some .parking ∨ d = some .offered ∨ d = some .fetching ∨ d = some .moving

theorem JobKind.working_busy (k : JobKind) : Busy (some k.working) := by
  cases k <;> simp [Busy, JobKind.working]

theorem JobKind.wanted_ne (k : JobKind) : k.wanted ≠ .suspended ∧ k.wanted ≠ .waiting := by
  cases k <;> exact ⟨by decide, by decide⟩

section

variable {duty duty' : Nat → Option AttendantState} {p : Option Post} {j : Option Entry} {a : Nat}

/-- Whoever works on a record is at it. -/
theorem Stands.busy (h : Stands duty p j) (ha : workerOf p j = some a) : Busy (duty a) := by
  cases h with
  | absent => simp [workerOf] at ha
  | settled hstate hcall hnone => simp [workerOf, Post.named, hnone] at ha
  | aside hstate hcall => simp [workerOf, Post.named, hstate] at ha
  | parking hstate hcall hparker =>
    exact .inl (hparker a (by simpa [workerOf, Post.named, hstate] using ha))
  | early hslot hstate hcall hparker hkind hqueued hnone =>
    exact .inl (hparker a (by simpa [workerOf, Post.named, hstate, hnone] using ha))
  | queued hslot hstate hcall hnobody hqueued hnone => simp [workerOf, Post.named, hnone, hnobody] at ha
  | offered hslot hstate hcall hnobody hoffered hsome hduty =>
    obtain rfl : _ = a := by simpa [workerOf, hsome] using ha
    exact .inr (.inl hduty)
  | underway hslot hstate hcall hnamed htaken hsome hduty =>
    obtain rfl : _ = a := by simpa [workerOf, hsome] using ha
    rw [hduty]; exact JobKind.working_busy _

/-- A record stands as it did where its worker is at what it was at. -/
theorem Stands.congr (h : Stands duty p j) (hduty : ∀ a, workerOf p j = some a → duty' a = duty a) : Stands duty' p j := by
  cases h with
  | absent => exact .absent
  | settled hstate hcall hnone => exact .settled hstate hcall hnone
  | aside hstate hcall => exact .aside hstate hcall
  | parking hstate hcall hparker =>
    refine .parking hstate hcall fun a ha => ?_
    rw [hduty a (by simp [workerOf, Post.named, hstate, ha]), hparker a ha]
  | early hslot hstate hcall hparker hkind hqueued hnone =>
    refine .early hslot hstate hcall (fun a ha => ?_) hkind hqueued hnone
    rw [hduty a (by simp [workerOf, Post.named, hstate, hnone, ha]), hparker a ha]
  | queued hslot hstate hcall hnobody hqueued hnone => exact .queued hslot hstate hcall hnobody hqueued hnone
  | offered hslot hstate hcall hnobody hoffered hsome hat =>
    exact .offered hslot hstate hcall hnobody hoffered hsome (by rw [hduty _ (by simp [workerOf, hsome]), hat])
  | underway hslot hstate hcall hnamed htaken hsome hat =>
    exact .underway hslot hstate hcall hnamed htaken hsome (by rw [hduty _ (by simp [workerOf, hsome]), hat])

/-- A record that is not set aside is worked on by the attendant it names. -/
theorem Stands.worker_of_named {p : Post} (h : Stands duty (some p) j) (hsus : p.state ≠ .suspended)
    (ha : p.attendant = some a) : workerOf (some p) j = some a := by
  have hnamed : p.named = some a := (if_neg hsus).trans ha
  cases h with
  | settled hstate hcall hnone => simp [hnone] at ha
  | aside hstate hcall => exact absurd hstate hsus
  | parking hstate hcall hparker => simpa [workerOf] using hnamed
  | early hslot hstate hcall hparker hkind hqueued hnone => simpa [workerOf, hnone] using hnamed
  | queued hslot hstate hcall hnobody hqueued hnone => simp [hnobody] at ha
  | offered hslot hstate hcall hnobody hoffered hsome hduty => simp [hnobody] at ha
  | underway hslot hstate hcall hnone_or htaken hsome hduty =>
    rcases hnone_or with hnone | hsame
    · simp [hnone] at ha
    · simp [workerOf, hsome, ← hsame, ha]

end

namespace Yard

/-! ### Order and agreement -/

/-- The attendant at work on a ticket. -/
def worker (f : Yard) (t : Nat) : Option Nat := workerOf (f.post t) (f.job t)

/-- No entry stands behind one that it is ordered before (R94). -/
def Ordered (f : Yard) : Prop := f.queue.Pairwise fun e g => g.before e = false

/-- A queue that fits: 64 entries at most, one for a ticket (R92). -/
def Fits (l : List Entry) : Prop := l.length ≤ 64 ∧ (l.map Entry.ticket).Nodup

/-- The wait list holds WAITING records, each once; the queue fits; every record stands in one of the rows of `Stands`; no
attendant works on two tickets. -/
structure Sound (f : Yard) : Prop where
  nodup : f.wait.Nodup
  waiting : ∀ t ∈ f.wait, ∃ p, f.post t = some p ∧ p.state = .waiting
  fits : Fits f.queue
  stands : ∀ t, Stands f.duty (f.post t) (f.job t)
  alone : ∀ t u a, f.worker t = some a → f.worker u = some a → t = u

/-- From `f` to `g` the order is kept, and under the condition `c` the agreement. -/
def Keeps (c : Prop) (f g : Yard) : Prop := (f.Ordered → g.Ordered) ∧ (c → f.Sound → g.Sound)

variable {c : Prop} {f g : Yard} {t : Nat}

theorem Keeps.refl : Keeps c f f := ⟨id, fun _ => id⟩

theorem Keeps.of_eq (h : g = f) : Keeps c f g := h ▸ .refl

theorem Keeps.trans {e : Yard} (h : Keeps c f g) (h' : Keeps c g e) : Keeps c f e :=
  ⟨fun hf => h'.1 (h.1 hf), fun hc hf => h'.2 hc (h.2 hc hf)⟩

/-- An attendant free for a change at the ticket: it works on no other ticket. -/
def AtHand (f : Yard) (t a : Nat) : Prop := ∀ u, u ≠ t → f.worker u ≠ some a

theorem Sound.atHand_worker (h : f.Sound) {a : Nat} (ha : f.worker t = some a) : f.AtHand t a :=
  fun u hu hw => hu (h.alone u t a hw ha)

theorem Sound.not_worker (h : f.Sound) {a u : Nat} (hidle : ¬Busy (f.duty a)) : f.worker u ≠ some a :=
  fun hw => hidle ((h.stands u).busy hw)

theorem Sound.atHand_idle (h : f.Sound) {a : Nat} (hidle : ¬Busy (f.duty a)) : f.AtHand t a :=
  fun _ _ => h.not_worker hidle

/-- What a change at the ticket does to the wait list. -/
inductive WaitMove (f g : Yard) (t : Nat) : Prop
  | stays (hsame : g.wait = f.wait) (hnot : ∀ p, f.post t = some p → p.state ≠ .waiting)
  | leaves (hleft : g.wait = f.wait.filter (· != t))
  | joins (hjoined : g.wait = f.wait ++ [t]) (hnot : ∀ p, f.post t = some p → p.state ≠ .waiting) {p : Post}
      (hp : g.post t = some p) (hin : p.state = .waiting)

/-- What becomes of the queue at a change at the ticket: its entry leaves, is marked without moving, or joins. -/
inductive Rewrites (t : Nat) (l : List Entry) : List Entry → Prop
  | same : Rewrites t l l
  | cut {l' : List Entry} (h : Rewrites t l l') : Rewrites t l (l'.filter fun e => e.ticket != t)
  | mark {l' : List Entry} (h : Rewrites t l l') (m : Entry → Entry) (hticket : ∀ e, (m e).ticket = e.ticket)
      (hplace : ∀ e, (m e).tier = e.tier ∧ (m e).time = e.time ∧ (m e).slot = e.slot) :
      Rewrites t l (l'.map fun e => if e.ticket = t then m e else e)
  | put {l' : List Entry} (h : Rewrites t l l') (e : Entry) (ht : e.ticket = t) : Rewrites t l (insertEntry e l')

/-- A ticket's entry after entries of a ticket are marked. -/
theorem find?_mark (l : List Entry) (t u : Nat) (m : Entry → Entry) (hticket : ∀ e, (m e).ticket = e.ticket) :
    (l.map fun e => if e.ticket = t then m e else e).find? (fun e => e.ticket == u) =
      (l.find? fun e => e.ticket == u).map fun e => if u = t then m e else e := by
  have hsame : ((fun e : Entry => e.ticket == u) ∘ fun e => if e.ticket = t then m e else e) = fun e => e.ticket == u :=
    funext fun e => by dsimp only [Function.comp]; split <;> simp [hticket]
  rw [List.find?_map, hsame]
  cases he : l.find? fun e => e.ticket == u with
  | none => rfl
  | some e =>
    obtain rfl : e.ticket = u := by simpa using List.find?_some he
    rfl

/-- The queue stays in queue order. -/
theorem Rewrites.ordered {t : Nat} {l l' : List Entry} (h : Rewrites t l l') (hl : l.Pairwise fun e g => g.before e = false) :
    l'.Pairwise fun e g => g.before e = false := by
  induction h with
  | same => exact hl
  | cut h ih => exact ih.filter _
  | mark h m hticket hplace ih =>
    have hsame (e : Entry) : (if e.ticket = t then m e else e).tier = e.tier ∧ (if e.ticket = t then m e else e).time = e.time ∧
        (if e.ticket = t then m e else e).slot = e.slot := by
      split
      · exact hplace e
      · exact ⟨rfl, rfl, rfl⟩
    exact List.pairwise_map.mpr (ih.imp fun hab => (before_congr (hsame _) (hsame _)).trans hab)
  | put h e ht ih => exact pairwise_insertEntry e ih

/-- The entries of other tickets stay. -/
theorem Rewrites.elsewhere {t u : Nat} {l l' : List Entry} (h : Rewrites t l l') (hu : u ≠ t) :
    l'.find? (fun e => e.ticket == u) = l.find? fun e => e.ticket == u := by
  induction h with
  | same => rfl
  | cut h ih => rw [find?_cut, if_neg hu, ih]
  | mark h m hticket hplace ih => rw [find?_mark _ _ _ _ hticket, ih]; simp [hu]
  | put h e ht ih => rw [find?_insertEntry_other _ _ _ (ht ▸ hu), ih]

/-- What a change at the ticket keeps outside the queue, where everything agreed: it writes no other record, and no attendant but
those free for it; the record then stands in a row, with a worker that was free for it. -/
structure Turn (f g : Yard) (t : Nat) : Prop where
  post : ∀ u, u ≠ t → g.post u = f.post u
  duty : ∀ a, g.duty a = f.duty a ∨ f.AtHand t a
  wait : WaitMove f g t
  fits : Fits g.queue
  stands : Stands g.duty (g.post t) (g.job t)
  worker : ∀ a, g.worker t = some a → f.AtHand t a

/-- A change at one ticket keeps the agreement. -/
theorem Sound.turn (h : f.Sound) (hqueue : Rewrites t f.queue g.queue) (hturn : Turn f g t) : g.Sound := by
  have hjob {u : Nat} (hu : u ≠ t) : g.job u = f.job u := hqueue.elsewhere hu
  have hsame {u : Nat} (hu : u ≠ t) : g.worker u = f.worker u := by
    unfold worker; rw [hturn.post u hu, hjob hu]
  have hother {u : Nat} (hu : u ∈ f.wait) (hut : u ≠ t) : ∃ p, g.post u = some p ∧ p.state = .waiting := by
    rw [hturn.post u hut]; exact h.waiting u hu
  have hout (hnot : ∀ p, f.post t = some p → p.state ≠ .waiting) : t ∉ f.wait := fun ht => by
    obtain ⟨p, hp, hst⟩ := h.waiting t ht
    exact hnot p hp hst
  have hwait : g.wait.Nodup ∧ ∀ u ∈ g.wait, ∃ p, g.post u = some p ∧ p.state = .waiting := by
    cases hturn.wait with
    | stays hsame hnot =>
      rw [hsame]
      exact ⟨h.nodup, fun u hu => hother hu fun hut => hout hnot (hut ▸ hu)⟩
    | leaves hleft =>
      rw [hleft]
      refine ⟨h.nodup.filter _, fun u hu => ?_⟩
      obtain ⟨hu, hut⟩ := List.mem_filter.mp hu
      exact hother hu (by simpa using hut)
    | joins hjoined hnot hp hin =>
      rw [hjoined]
      refine ⟨List.nodup_append.mpr ⟨h.nodup, List.nodup_singleton t, fun u hu v hv huv => ?_⟩, fun u hu => ?_⟩
      · rw [List.mem_singleton.mp hv] at huv
        exact hout hnot (huv ▸ hu)
      · rcases List.mem_append.mp hu with hu | hu
        · exact hother hu fun hut => hout hnot (hut ▸ hu)
        · rw [List.mem_singleton.mp hu]; exact ⟨_, hp, hin⟩
  refine ⟨hwait.1, hwait.2, hturn.fits, fun u => ?_, fun u v a hu hv => ?_⟩
  · by_cases hut : u = t
    · rw [hut]; exact hturn.stands
    · rw [hturn.post u hut, hjob hut]
      exact (h.stands u).congr fun a ha => (hturn.duty a).resolve_right fun hhand => hhand u hut ha
  · by_cases hut : u = t <;> by_cases hvt : v = t
    · rw [hut, hvt]
    · subst hut
      rw [hsame hvt] at hv
      exact absurd hv (hturn.worker a hu v hvt)
    · subst hvt
      rw [hsame hut] at hu
      exact absurd hu (hturn.worker a hv u hut)
    · rw [hsame hut] at hu
      rw [hsame hvt] at hv
      exact h.alone u v a hu hv

theorem Keeps.turn (hqueue : Rewrites t f.queue g.queue) (hturn : c → f.Sound → Turn f g t) : Keeps c f g :=
  ⟨hqueue.ordered, fun hc h => h.turn hqueue (hturn hc h)⟩

end Yard

end Sys2Proof.Machine
end

section
/-! The agreement of the queue as the invariants state it (R92, R93, R112), read from the yard and back. -/

namespace Sys2Proof.Machine

open Sys2Proof.Safety

/-! ### From the invariants to the rows -/

section

variable {s : State} {t : Nat} {r : Record} {e : Entry}

theorem hasEntry_iff {k : JobKind} : s.hasEntry t k = true ↔ ∃ e, s.entry? t = some e ∧ e.kind = k := by
  simp [State.hasEntry, Option.any_eq_true]

theorem Post.called_iff : r.post.called = true ↔ r.call ≠ none := by
  simp [Record.post, Option.isSome_iff_ne_none]

theorem Post.not_called_iff : r.post.called = false ↔ r.call = none := by
  simp [Record.post]

/-- A record without an entry. -/
theorem stands_of_alone (hr : recordSuits s r) (he : s.entry? r.ticket = none) : Stands s.duty (some r.post) none := by
  obtain ⟨hfetch, hmove, hcall, hatt⟩ := hr
  have hnone (k : JobKind) : s.hasEntry r.ticket k = false := by simp [State.hasEntry, he]
  have huncalled : r.post.called = false := Post.not_called_iff.mpr <| by
    by_contra hc
    have hwanted : r.state = .called ∨ r.state = .fetching ∨ (r.state = .inbound ∧ r.call ≠ none) :=
      (hcall hc).imp id (Or.imp id fun hin => ⟨hin, hc⟩)
    exact absurd (hfetch hwanted) (by simp [hnone])
  have hparker (a : Nat) (ha : r.attendant = some a) (hsus : r.state ≠ .suspended) :
      r.state = .inbound ∧ (s.attendant a).state = .parking := by
    rcases hatt a ha hsus with ⟨e, hsome, -⟩ | ⟨hin, -, hpark⟩
    · rw [he] at hsome; cases hsome
    · exact ⟨hin, hpark⟩
  have hnobody (hin : r.state ≠ .inbound) (hsus : r.state ≠ .suspended) : r.post.attendant = none :=
    Option.eq_none_iff_forall_ne_some.mpr fun a ha => hin (hparker a ha hsus).1
  cases hst : r.state with
  | inbound =>
    refine .parking hst huncalled fun a ha => (duty_eq_some (by decide)).mpr (hparker a ha (by simp [hst])).2
  | suspended => exact .aside hst huncalled
  | waiting => exact .settled (.inl hst) huncalled (hnobody (by simp [hst]) (by simp [hst]))
  | stored => exact .settled (.inr (.inl hst)) huncalled (hnobody (by simp [hst]) (by simp [hst]))
  | staged => exact .settled (.inr (.inr hst)) huncalled (hnobody (by simp [hst]) (by simp [hst]))
  | called => exact absurd (hfetch (.inl hst)) (by simp [hnone])
  | fetching => exact absurd (hfetch (.inr (.inl hst))) (by simp [hnone])
  | granted => exact absurd (hmove hst) (by simp [hnone])

/-- A record with its entry. -/
theorem stands_of_entry (hr : recordSuits s r) (he : s.entry? r.ticket = some e) (hsuits : entrySuits e r)
    (hstatus : e.status = .queued ↔ e.attendant = none)
    (hwork : ∀ a, e.attendant = some a → (s.attendant a).state = workOf e) : Stands s.duty (some r.post) (some e) := by
  obtain ⟨hfetch, hmove, hcall, hatt⟩ := hr
  obtain ⟨hslot, hrow⟩ := hsuits
  have hat {a : Nat} {st : AttendantState} (ha : e.attendant = some a) (hst : workOf e = st) (hoff : st ≠ .off) :
      s.duty a = some st := (duty_eq_some hoff).mpr ((hwork a ha).trans hst)
  have hnobody (htaken : e.status ≠ .taken) (hin : r.state ≠ .inbound) (hsus : r.state ≠ .suspended) :
      r.post.attendant = none := by
    refine Option.eq_none_iff_forall_ne_some.mpr fun a ha => ?_
    rcases hatt a ha hsus with ⟨e', he', ht, -⟩ | ⟨hinb, -⟩
    · exact htaken (by rw [← ht, Option.some.inj (he.symm.trans he')])
    · exact hin hinb
  have hnamed (htaken : e.status = .taken) (hmoving : r.state = .inbound → e.kind = .move) (hsus : r.state ≠ .suspended) {a : Nat}
      (ha : e.attendant = some a) : r.post.attendant = none ∨ r.post.attendant = some a := by
    cases hb : r.attendant with
    | none => exact .inl hb
    | some b =>
      rcases hatt b hb hsus with ⟨e', he', -, hsome⟩ | ⟨hin, hno, -⟩
      · obtain rfl : e = e' := Option.some.inj (he.symm.trans he')
        exact .inr (by rw [show r.post.attendant = r.attendant from rfl, hb, ← ha, hsome])
      · exact absurd (hasEntry_iff.mpr ⟨e, he, hmoving hin⟩) (by simp [hno])
  have huncalled (hkind : e.kind = .move) (hst : r.state = .granted ∨ r.state = .inbound) : r.post.called = false :=
    Post.not_called_iff.mpr <| by
      by_contra hc
      have hin : r.state = .inbound := by
        rcases hst with hst | hst
        · have := hcall hc; simp [hst] at this
        · exact hst
      obtain ⟨e', he', hk⟩ := hasEntry_iff.mp (hfetch (.inr (.inr ⟨hin, hc⟩)))
      rw [← Option.some.inj (he.symm.trans he'), hkind] at hk
      cases hk
  cases hkind : e.kind with
  | fetch =>
    cases hst : e.status with
    | queued =>
      simp only [hkind, hst] at hrow
      obtain ⟨hcalled | hin, hc⟩ := hrow
      · refine .queued hslot (by simp [hkind, JobKind.wanted, Record.post, hcalled]) ?_
          (hnobody (by simp [hst]) (by simp [hcalled]) (by simp [hcalled])) hst (hstatus.mp hst)
        rw [hkind, Post.called_iff.mpr hc]; rfl
      · refine .early hslot hin (Post.called_iff.mpr hc) (fun a ha => ?_) hkind hst (hstatus.mp hst)
        rcases hatt a ha (by simp [hin]) with ⟨e', he', ht, -⟩ | ⟨-, -, hpark⟩
        · rw [← Option.some.inj (he.symm.trans he'), hst] at ht; cases ht
        · exact (duty_eq_some (by decide)).mpr hpark
    | offered =>
      simp only [hkind, hst] at hrow
      obtain ⟨hcalled, hc⟩ := hrow
      obtain ⟨a, ha⟩ := Option.ne_none_iff_exists'.mp (mt hstatus.mpr (by simp [hst]))
      refine .offered hslot (by simp [hkind, JobKind.wanted, Record.post, hcalled]) ?_
        (hnobody (by simp [hst]) (by simp [hcalled]) (by simp [hcalled])) hst ha (hat ha (by simp [workOf, hst]) (by decide))
      rw [hkind, Post.called_iff.mpr hc]; rfl
    | taken =>
      simp only [hkind, hst] at hrow
      obtain ⟨hfetching, hc⟩ := hrow
      obtain ⟨a, ha⟩ := Option.ne_none_iff_exists'.mp (mt hstatus.mpr (by simp [hst]))
      refine .underway hslot (by simp [hkind, JobKind.underway, Record.post, hfetching]) ?_
        (hnamed hst (by simp [hfetching]) (by simp [hfetching]) ha) hst ha
        (hat ha (by simp [workOf, hst, hkind, JobKind.working]) (by simp [hkind, JobKind.working]))
      rw [hkind, Post.called_iff.mpr hc]; rfl
  | move =>
    cases hst : e.status with
    | queued =>
      have hgranted : r.state = .granted := by simpa only [hkind, hst] using hrow
      refine .queued hslot (by simp [hkind, JobKind.wanted, Record.post, hgranted]) ?_
        (hnobody (by simp [hst]) (by simp [hgranted]) (by simp [hgranted])) hst (hstatus.mp hst)
      rw [hkind, huncalled hkind (.inl hgranted)]; rfl
    | offered =>
      have hgranted : r.state = .granted := by simpa only [hkind, hst] using hrow
      obtain ⟨a, ha⟩ := Option.ne_none_iff_exists'.mp (mt hstatus.mpr (by simp [hst]))
      refine .offered hslot (by simp [hkind, JobKind.wanted, Record.post, hgranted]) ?_
        (hnobody (by simp [hst]) (by simp [hgranted]) (by simp [hgranted])) hst ha
        (hat ha (by simp [workOf, hst]) (by decide))
      rw [hkind, huncalled hkind (.inl hgranted)]; rfl
    | taken =>
      have hin : r.state = .inbound := by simpa only [hkind, hst] using hrow
      obtain ⟨a, ha⟩ := Option.ne_none_iff_exists'.mp (mt hstatus.mpr (by simp [hst]))
      refine .underway hslot (by simp [hkind, JobKind.underway, Record.post, hin]) ?_
        (hnamed hst (fun _ => hkind) (by simp [hin]) ha) hst ha
        (hat ha (by simp [workOf, hst, hkind, JobKind.working]) (by simp [hkind, JobKind.working]))
      rw [hkind, huncalled hkind (.inr hin)]; rfl

end

/-- The worker of a live record is named by its entry or, while it is not set aside, by itself. -/
theorem worker_named {s : State} {t a : Nat} (h : s.yard.worker t = some a) :
    (∃ e, s.entry? t = some e ∧ e.attendant = some a) ∨
      ∃ r, s.record? t = some r ∧ r.state ≠ .suspended ∧ r.attendant = some a := by
  unfold Yard.worker workerOf at h
  rw [job_yard, Option.orElse_eq_some] at h
  rcases h with h | ⟨-, h⟩
  · exact .inl (Option.bind_eq_some_iff.mp h)
  · obtain ⟨p, hp, hnamed⟩ := Option.bind_eq_some_iff.mp h
    obtain ⟨r, hr, rfl⟩ := Option.map_eq_some_iff.mp hp
    unfold Post.named at hnamed
    split at hnamed
    · cases hnamed
    next hsus => exact .inr ⟨r, hr, hsus, hnamed⟩

theorem entry?_of_mem {s : State} {e : Entry} (hd : (s.jq.entries.map Entry.ticket).Nodup) (he : e ∈ s.jq.entries) :
    s.entry? e.ticket = some e := by
  unfold State.entry?
  generalize s.jq.entries = l at hd he
  induction l with
  | nil => cases he
  | cons g gs ih =>
    obtain ⟨hg, hgs⟩ := List.nodup_cons.mp hd
    rcases List.mem_cons.mp he with rfl | hmem
    · simp
    · have hne : g.ticket ≠ e.ticket := fun heq => hg (heq ▸ List.mem_map_of_mem hmem)
      simpa [hne] using ih hgs hmem

theorem entry?_mem {s : State} {t : Nat} {e : Entry} (he : s.entry? t = some e) : e ∈ s.jq.entries :=
  List.mem_of_find?_eq_some he

/-- Two elements of a list that is pairwise in a symmetric relation stand in it. -/
theorem pairwise_rel {α : Type} {R : α → α → Prop} (hsym : ∀ x y, R x y → R y x) {l : List α} (hl : l.Pairwise R) {x y : α}
    (hx : x ∈ l) (hy : y ∈ l) (hne : x ≠ y) : R x y :=
  have : Std.Symm R := ⟨hsym⟩
  hl.forall hx hy hne

/-- Where two rows of a list with the property are one, no two rows of it share it. -/
theorem pairwise_of_unique {α : Type} {R : α → α → Prop} {l : List α} (hd : l.Pairwise R) {P : α → α → Prop}
    (h : ∀ x ∈ l, ∀ y ∈ l, R x y → P x y) : l.Pairwise P :=
  hd.imp_of_mem fun hx hy => h _ hx _ hy

theorem yard_sound_of_agree {s : State} (hwait : WaitListExact s) (h : JobsAgree s) : s.yard.Sound := by
  obtain ⟨hroom, hdistinct, hentries, hrecords, hapart, halone⟩ := h
  have htickets : (s.jq.entries.map Entry.ticket).Nodup := List.pairwise_map.mpr hdistinct
  have hstands (t : Nat) : Stands s.duty (s.yard.post t) (s.yard.job t) := by
    rw [job_yard]
    cases hr : s.record? t with
    | none =>
      cases he : s.entry? t with
      | none => rw [show s.yard.post t = none by simp [State.yard, hr]]; exact .absent
      | some e =>
        obtain ⟨⟨r, hr', -⟩, -⟩ := hentries e (entry?_mem he)
        rw [entry?_ticket s he, hr] at hr'; cases hr'
    | some r =>
      obtain rfl : r.ticket = t := record?_ticket s t r hr
      have hsuits := hrecords r (List.mem_of_find?_eq_some hr)
      rw [post_yard hr]
      cases he : s.entry? r.ticket with
      | none => exact stands_of_alone hsuits he
      | some e =>
        obtain ⟨⟨r', hr', hrow⟩, hstatus, hwork⟩ := hentries e (entry?_mem he)
        rw [entry?_ticket s he, hr] at hr'
        exact stands_of_entry hsuits he (Option.some.inj hr' ▸ hrow) hstatus hwork
  -- a record and an entry of two tickets that name one attendant
  have hcross {t u a : Nat} {r : Record} {e : Entry} (hr : s.record? t = some r) (hsus : r.state ≠ .suspended)
      (ha : r.attendant = some a) (he : s.entry? u = some e) (hea : e.attendant = some a) : t = u := by
    obtain rfl : r.ticket = t := record?_ticket s t r hr
    rcases (hrecords r (List.mem_of_find?_eq_some hr)).2.2.2 a ha hsus with ⟨g, hg, -, hga⟩ | ⟨-, -, hpark⟩
    · by_contra hne
      have hgt := entry?_ticket s hg
      have het := entry?_ticket s he
      have hge : g ≠ e := fun h => hne (by rw [← hgt, ← het, h])
      exact pairwise_rel (fun _ _ hxy b hb hxb => hxy b hxb hb) hapart (entry?_mem hg) (entry?_mem he) hge a hga hea
    · have hwork := (hentries e (entry?_mem he)).2.2 a hea
      rw [hpark] at hwork
      unfold workOf at hwork
      split at hwork <;> cases hwork
  refine ⟨hwait.1, fun t ht => ?_, ⟨hroom, htickets⟩, hstands, fun t u a ht hu => ?_⟩
  · obtain ⟨r, hr, hst⟩ := (hwait.2.1 t).mp ht
    exact ⟨r.post, post_yard hr, hst⟩
  · rcases worker_named ht with ⟨e, he, hea⟩ | ⟨r, hr, hsus, ha⟩ <;>
      rcases worker_named hu with ⟨g, hg, hga⟩ | ⟨q, hq, hsus', ha'⟩
    · by_contra hne
      have heg : e ≠ g := fun h => hne (by rw [← entry?_ticket s he, ← entry?_ticket s hg, h])
      exact pairwise_rel (fun _ _ hxy b hb hxb => hxy b hxb hb) hapart (entry?_mem he) (entry?_mem hg) heg a hea hga
    · exact (hcross hq hsus' ha' he hea).symm
    · exact hcross hr hsus ha hg hga
    · by_contra hne
      have hrq : r ≠ q := fun h => hne (by rw [← record?_ticket s t r hr, ← record?_ticket s u q hq, h])
      exact pairwise_rel (fun _ _ hxy hs hs' b hb hxb => hxy hs' hs b hxb hb) halone (List.mem_of_find?_eq_some hr)
        (List.mem_of_find?_eq_some hq) hrq hsus hsus' a ha ha'

/-! ### From the rows to the invariants -/

section

variable {s : State} {r : Record} {e : Entry}

theorem entrySuits_of_stands (h : Stands s.duty (some r.post) (some e)) :
    entrySuits e r ∧ (e.status = .queued ↔ e.attendant = none) ∧
      ∀ a, e.attendant = some a → (s.attendant a).state = workOf e := by
  cases h with
  | early hslot hstate hcall hparker hkind hqueued hnone =>
    refine ⟨⟨hslot, ?_⟩, by simp [hqueued, hnone], by simp [hnone]⟩
    simp only [hkind, hqueued]
    exact ⟨.inr hstate, Post.called_iff.mp hcall⟩
  | queued hslot hstate hcall hnobody hqueued hnone =>
    refine ⟨⟨hslot, ?_⟩, by simp [hqueued, hnone], by simp [hnone]⟩
    cases hkind : e.kind <;> simp only [hkind, hqueued] at hstate hcall ⊢
    · exact ⟨.inl hstate, Post.called_iff.mp hcall⟩
    · exact hstate
  | offered hslot hstate hcall hnobody hoffered hsome hduty =>
    refine ⟨⟨hslot, ?_⟩, by simp [hoffered, hsome], fun a ha => ?_⟩
    · cases hkind : e.kind <;> simp only [hkind, hoffered] at hstate hcall ⊢
      · exact ⟨hstate, Post.called_iff.mp hcall⟩
      · exact hstate
    · obtain rfl := Option.some.inj (hsome.symm.trans ha)
      simpa [workOf, hoffered] using (duty_eq_some (by decide)).mp hduty
  | underway hslot hstate hcall hnamed htaken hsome hduty =>
    refine ⟨⟨hslot, ?_⟩, by simp [htaken, hsome], fun a ha => ?_⟩
    · cases hkind : e.kind <;> simp only [hkind, htaken] at hstate hcall ⊢
      · exact ⟨hstate, Post.called_iff.mp hcall⟩
      · exact hstate
    · obtain rfl := Option.some.inj (hsome.symm.trans ha)
      cases hkind : e.kind <;> rw [hkind] at hduty
      · simpa [workOf, htaken, hkind, JobKind.working] using (duty_eq_some (by decide)).mp hduty
      · simpa [workOf, htaken, hkind, JobKind.working] using (duty_eq_some (by decide)).mp hduty

theorem recordSuits_of_stands (h : Stands s.duty (some r.post) (s.entry? r.ticket)) : recordSuits s r := by
  generalize hj : s.entry? r.ticket = j at h
  have hhas (k : JobKind) : s.hasEntry r.ticket k = j.any fun e => e.kind == k := by rw [← hj]; rfl
  have hstate : r.post.state = r.state := rfl
  have hatt : r.post.attendant = r.attendant := rfl
  unfold recordSuits
  rw [hhas, hhas, ← Post.called_iff, hj, ← hstate, ← hatt]
  cases h with
  | settled hst hcall hnone => rcases hst with hst | hst | hst <;> simp [hst, hcall, hnone]
  | aside hst hcall => simp [hst, hcall]
  | parking hst hcall hparker =>
    refine ⟨by simp [hst, hcall], by simp [hst], by simp [hcall], fun a ha _ => .inr ⟨hst, by simp, ?_⟩⟩
    exact (duty_eq_some (by decide)).mp (hparker a ha)
  | early hslot hst hcall hparker hkind hqueued hnone =>
    refine ⟨by simp [hkind], by simp [hst], by simp [hst], fun a ha _ => .inr ⟨hst, by simp [hkind], ?_⟩⟩
    exact (duty_eq_some (by decide)).mp (hparker a ha)
  | @queued _ e hslot hst hcall hnobody hqueued hnone =>
    cases hkind : e.kind <;> simp [hkind, JobKind.wanted, hst, hcall, hnobody]
  | @offered _ e _ hslot hst hcall hnobody hoffered hsome hduty =>
    cases hkind : e.kind <;> simp [hkind, JobKind.wanted, hst, hcall, hnobody]
  | @underway _ e _ hslot hst hcall hnamed htaken hsome hduty =>
    have hwith (a : Nat) (ha : r.post.attendant = some a) : e.attendant = some a := hsome.trans (by
      rcases hnamed with hnone | hsame
      · rw [ha] at hnone; cases hnone
      · rw [← hsame, ha])
    cases hkind : e.kind <;> rw [hkind] at hst hcall <;>
      exact ⟨by simp [hst, hcall, JobKind.underway, hkind], by simp [hst, JobKind.underway],
        by simp [hst, hcall, JobKind.underway], fun a ha _ => .inl ⟨_, rfl, htaken, hwith a ha⟩⟩

end

theorem worker_of_entry {s : State} {t a : Nat} {e : Entry} (he : s.entry? t = some e) (ha : e.attendant = some a) :
    s.yard.worker t = some a := by
  simp [Yard.worker, workerOf, job_yard, he, ha]

theorem jobsAgree_of_sound {s : State} (htable : TableSound s) (h : s.yard.Sound) : JobsAgree s := by
  have hstands {r : Record} (hr : s.record? r.ticket = some r) : Stands s.duty (some r.post) (s.entry? r.ticket) :=
    post_yard hr ▸ h.stands r.ticket
  have hsuits {r : Record} (hr : r ∈ s.ct.records) : recordSuits s r :=
    recordSuits_of_stands (hstands (record?_of_mem htable hr))
  have hdistinct : s.jq.entries.Pairwise fun e g => e.ticket ≠ g.ticket := List.pairwise_map.mp h.fits.2
  refine ⟨h.fits.1, hdistinct, fun e he => ?_, fun r hr => hsuits hr, ?_, ?_⟩
  · have he' := entry?_of_mem h.fits.2 he
    have hat := h.stands e.ticket
    rw [job_yard, he'] at hat
    cases hr : s.record? e.ticket with
    | none =>
      rw [show s.yard.post e.ticket = none by simp [State.yard, hr]] at hat
      cases hat
    | some r =>
      rw [post_yard hr] at hat
      obtain ⟨hrow, hstatus, hwork⟩ := entrySuits_of_stands hat
      exact ⟨⟨r, rfl, hrow⟩, hstatus, hwork⟩
  · refine pairwise_of_unique hdistinct fun e he g hg hne a ha hga => hne ?_
    exact h.alone _ _ a (worker_of_entry (entry?_of_mem h.fits.2 he) ha) (worker_of_entry (entry?_of_mem h.fits.2 hg) hga)
  · have hworker {r : Record} (hr : r ∈ s.ct.records) (hsus : r.state ≠ .suspended) {a : Nat} (ha : r.attendant = some a) :
        s.yard.worker r.ticket = some a := by
      unfold Yard.worker
      rw [job_yard, post_yard (record?_of_mem htable hr)]
      exact (hstands (record?_of_mem htable hr)).worker_of_named hsus ha
    refine pairwise_of_unique htable.2.2 fun r hr q hq hne hsus hsus' a ha hqa => hne ?_
    exact h.alone _ _ a (hworker hr hsus ha) (hworker hq hsus' hqa)

end Sys2Proof.Machine
end

section
/-! Changes of a yard, one for each kind of writing that the model makes, and what each keeps. -/

namespace Sys2Proof.Machine.Yard

variable {c : Prop} {f g : Yard} {t a : Nat}

/-! ### Writings -/

/-- The record of a ticket is changed. -/
@[simps] def amend (f : Yard) (t : Nat) (m : Post → Post) : Yard :=
  { f with post := fun u => if u = t then (f.post u).map m else f.post u }

/-- The record of a ticket is written. -/
@[simps] def write (f : Yard) (t : Nat) (o : Option Post) : Yard :=
  { f with post := fun u => if u = t then o else f.post u }

/-- The entry of a ticket leaves. -/
@[simps] def cut (f : Yard) (t : Nat) : Yard := { f with queue := f.queue.filter fun e => e.ticket != t }

/-- The entry of a ticket is changed where it stands. -/
@[simps] def mark (f : Yard) (t : Nat) (m : Entry → Entry) : Yard :=
  { f with queue := f.queue.map fun e => if e.ticket = t then m e else e }

/-- An entry joins. -/
@[simps] def put (f : Yard) (e : Entry) : Yard := { f with queue := insertEntry e f.queue }

/-- An attendant, where there is one, takes a state. -/
@[simps] def relieve (f : Yard) (o : Option Nat) (st : AttendantState) : Yard :=
  { f with duty := fun b => if o = some b then (f.duty b).map fun _ => st else f.duty b }

/-- A ticket leaves the wait list. -/
@[simps] def leave (f : Yard) (t : Nat) : Yard := { f with wait := f.wait.filter (· != t) }

/-- A ticket joins the wait list. -/
@[simps] def join (f : Yard) (t : Nat) : Yard := { f with wait := f.wait ++ [t] }

section

variable (f : Yard) (t u : Nat)

@[simp] theorem job_amend (m : Post → Post) : (f.amend t m).job u = f.job u := rfl
@[simp] theorem job_write (o : Option Post) : (f.write t o).job u = f.job u := rfl
@[simp] theorem job_relieve (o : Option Nat) (st : AttendantState) : (f.relieve o st).job u = f.job u := rfl
@[simp] theorem job_leave : (f.leave t).job u = f.job u := rfl
@[simp] theorem job_join : (f.join t).job u = f.job u := rfl

@[simp] theorem job_cut : (f.cut t).job u = if u = t then none else f.job u := find?_cut f.queue t u

theorem job_mark (m : Entry → Entry) (hticket : ∀ e, (m e).ticket = e.ticket) :
    (f.mark t m).job u = (f.job u).map fun e => if u = t then m e else e := find?_mark f.queue t u m hticket

theorem job_mark_self (m : Entry → Entry) (hticket : ∀ e, (m e).ticket = e.ticket) {e : Entry} (he : f.job t = some e) :
    (f.mark t m).job t = some (m e) := by
  rw [job_mark f t t m hticket, he]
  simp

theorem job_put_self {e : Entry} (h : f.job e.ticket = none) : (f.put e).job e.ticket = some e :=
  find?_insertEntry_self e f.queue h

end

/-! ### Queues that fit -/

theorem Fits.cut {l : List Entry} (h : Fits l) (t : Nat) : Fits (l.filter fun e => e.ticket != t) :=
  ⟨(List.length_filter_le _ _).trans h.1, (List.filter_sublist.map _).nodup h.2⟩

theorem Fits.mark {l : List Entry} (h : Fits l) (t : Nat) {m : Entry → Entry} (hticket : ∀ e, (m e).ticket = e.ticket) :
    Fits (l.map fun e => if e.ticket = t then m e else e) := by
  have hsame : (Entry.ticket ∘ fun e => if e.ticket = t then m e else e) = Entry.ticket :=
    funext fun e => by dsimp only [Function.comp]; split <;> simp [hticket]
  exact ⟨by simpa using h.1, by rw [List.map_map, hsame]; exact h.2⟩

theorem nodup_insertEntry {l : List Entry} {e : Entry} (h : (l.map Entry.ticket).Nodup)
    (hnone : l.find? (fun g => g.ticket == e.ticket) = none) : ((insertEntry e l).map Entry.ticket).Nodup := by
  induction l with
  | nil => simp [insertEntry]
  | cons g gs ih =>
    obtain ⟨hg, hgs⟩ := List.nodup_cons.mp h
    have hall := List.find?_eq_none.mp hnone
    unfold insertEntry
    split
    · refine List.nodup_cons.mpr ⟨fun hmem => ?_, h⟩
      obtain ⟨x, hx, hxe⟩ := List.mem_map.mp hmem
      exact hall x hx (by simpa using hxe)
    · refine List.nodup_cons.mpr ⟨fun hmem => ?_, ih hgs ?_⟩
      · obtain ⟨x, hx, hxg⟩ := List.mem_map.mp hmem
        rcases (mem_insertEntry e x gs).mp hx with rfl | hx
        · exact hall g List.mem_cons_self (by simpa using hxg.symm)
        · exact hg (hxg ▸ List.mem_map_of_mem hx)
      · exact List.find?_eq_none.mpr fun x hx => hall x (List.mem_cons_of_mem _ hx)

theorem Fits.put {l : List Entry} (h : Fits l) {e : Entry} (hroom : l.length < 64)
    (hnone : l.find? (fun g => g.ticket == e.ticket) = none) : Fits (insertEntry e l) :=
  ⟨by rw [length_insertEntry]; omega, nodup_insertEntry h.2 hnone⟩

theorem length_cut_lt {l : List Entry} {e : Entry} (he : l.find? (fun g => g.ticket == t) = some e) :
    (l.filter fun g => g.ticket != t).length < l.length := by
  have het : e.ticket = t := by simpa using List.find?_some he
  exact List.length_filter_lt_length_iff_exists.mpr ⟨e, List.mem_of_find?_eq_some he, by simp [het]⟩

end Sys2Proof.Machine.Yard
end

section
/-! What can be said of a record and its entry from the record's state. -/

namespace Sys2Proof.Machine

variable {duty : Nat → Option AttendantState} {p : Post} {j : Option Entry}

/-! ### Entries -/

/-- An entry that awaits an attendant. -/
def Entry.Free (e : Entry) : Prop := e.status = .queued ∧ e.attendant = none

/-- An entry offered to an attendant. -/
def Entry.OfferedTo (duty : Nat → Option AttendantState) (e : Entry) (a : Nat) : Prop :=
  e.status = .offered ∧ e.attendant = some a ∧ duty a = some .offered

/-- An entry taken by an attendant. -/
def Entry.TakenBy (duty : Nat → Option AttendantState) (e : Entry) (a : Nat) : Prop :=
  e.status = .taken ∧ e.attendant = some a ∧ duty a = some e.kind.working

/-! ### The rows by state -/

/-- Nothing is under way at the record. -/
def Resting (p : Post) (j : Option Entry) : Prop := j = none ∧ p.called = false ∧ p.attendant = none

/-- The record is being parked, by whom it names. -/
def Parking (duty : Nat → Option AttendantState) (p : Post) (j : Option Entry) : Prop :=
  (∀ a, p.attendant = some a → duty a = some .parking) ∧
    ((j = none ∧ p.called = false) ∨
      ∃ e, j = some e ∧ p.slot = e.slot ∧ p.called = true ∧ e.kind = .fetch ∧ e.Free)

/-- The record's job waits for an attendant, or is offered to one. -/
def Wanting (duty : Nat → Option AttendantState) (p : Post) (j : Option Entry) (k : JobKind) : Prop :=
  p.called = (k == .fetch) ∧ p.attendant = none ∧
    ∃ e, j = some e ∧ p.slot = e.slot ∧ e.kind = k ∧ (e.Free ∨ ∃ a, e.OfferedTo duty a)

/-- The record's job is taken. -/
def Working (duty : Nat → Option AttendantState) (p : Post) (j : Option Entry) (k : JobKind) : Prop :=
  p.called = (k == .fetch) ∧
    ∃ e a, j = some e ∧ p.slot = e.slot ∧ (p.attendant = none ∨ p.attendant = some a) ∧ e.kind = k ∧ e.TakenBy duty a

/-- What a record's state says. -/
def Standing (duty : Nat → Option AttendantState) (p : Post) (j : Option Entry) : RecordState → Prop
  | .waiting => Resting p j
  | .stored => Resting p j
  | .staged => Resting p j
  | .suspended => j = none ∧ p.called = false
  | .called => Wanting duty p j .fetch
  | .granted => Wanting duty p j .move
  | .fetching => Working duty p j .fetch
  | .inbound => Parking duty p j ∨ Working duty p j .move

theorem Stands.standing (h : Stands duty (some p) j) : Standing duty p j p.state := by
  have wanting {e : Entry} (hstate : p.state = e.kind.wanted) (h : Wanting duty p j e.kind) : Standing duty p j p.state := by
    rw [hstate]
    cases hk : e.kind <;> rw [hk] at h <;> exact h
  cases h with
  | settled hstate hcall hnone =>
    rcases hstate with hst | hst | hst <;> exact hst ▸ ⟨rfl, hcall, hnone⟩
  | aside hstate hcall => exact hstate ▸ ⟨rfl, hcall⟩
  | parking hstate hcall hparker => exact hstate ▸ .inl ⟨hparker, .inl ⟨rfl, hcall⟩⟩
  | early hslot hstate hcall hparker hkind hqueued hnone =>
    exact hstate ▸ .inl ⟨hparker, .inr ⟨_, rfl, hslot, hcall, hkind, hqueued, hnone⟩⟩
  | queued hslot hstate hcall hnobody hqueued hnone =>
    exact wanting hstate ⟨hcall, hnobody, _, rfl, hslot, rfl, .inl ⟨hqueued, hnone⟩⟩
  | offered hslot hstate hcall hnobody hoffered hsome hduty =>
    exact wanting hstate ⟨hcall, hnobody, _, rfl, hslot, rfl, .inr ⟨_, hoffered, hsome, hduty⟩⟩
  | @underway _ e a hslot hstate hcall hnamed htaken hsome hduty =>
    have hworking : Working duty p (some e) e.kind := ⟨hcall, e, a, rfl, hslot, hnamed, rfl, htaken, hsome, hduty⟩
    rw [hstate]
    cases hk : e.kind <;> rw [hk] at hworking
    · exact hworking
    · exact .inr hworking

/-- A WAITING, STORED or STAGED record. -/
theorem Stands.resting (h : Stands duty (some p) j) (hst : p.state = .waiting ∨ p.state = .stored ∨ p.state = .staged) :
    Resting p j := by
  have hrow := h.standing
  rcases hst with hst | hst | hst <;> exact (hst ▸ hrow :)

/-- A CALLED or GRANTED record. -/
theorem Stands.wanting (h : Stands duty (some p) j) {k : JobKind} (hst : p.state = k.wanted) : Wanting duty p j k := by
  have hrow := h.standing
  rw [hst] at hrow
  cases k <;> exact hrow

theorem Stands.of_suspended (h : Stands duty (some p) j) (hst : p.state = .suspended) : j = none ∧ p.called = false := by
  have hrow := h.standing
  rwa [hst] at hrow

theorem Stands.of_inbound (h : Stands duty (some p) j) (hst : p.state = .inbound) :
    Parking duty p j ∨ Working duty p j .move := by
  have hrow := h.standing
  rwa [hst] at hrow

theorem Stands.of_fetching (h : Stands duty (some p) j) (hst : p.state = .fetching) : Working duty p j .fetch := by
  have hrow := h.standing
  rwa [hst] at hrow

end Sys2Proof.Machine
end

section
/-! The changes of a yard that the model makes at one record, each with the reason it keeps the agreement. -/

namespace Sys2Proof.Machine

/-! ### Who is let go -/

/-- The parker of a record that no job moves (R122). -/
def Post.parker (p : Post) (j : Option Entry) : Option Nat :=
  if p.state = .inbound ∧ (j.any fun e => e.kind == .move) = false then p.attendant else none

/-- The attendant of an entry that is not QUEUED. -/
def Entry.jobber (e : Entry) : Option Nat := if e.status = .queued then none else e.attendant

theorem workerOf_entry {p : Option Post} {e : Entry} {a : Nat} (ha : e.attendant = some a) : workerOf p (some e) = some a := by
  simp [workerOf, ha]

theorem workerOf_free {p : Option Post} {e : Entry} (he : e.attendant = none) : workerOf p (some e) = p.bind Post.named := by
  simp [workerOf, he]

theorem workerOf_alone {p : Option Post} : workerOf p none = p.bind Post.named := by
  simp [workerOf]

theorem Post.named_eq {p : Post} (hst : p.state ≠ .suspended) : p.named = p.attendant := if_neg hst

theorem Entry.jobber_attendant {e : Entry} {a : Nat} (h : e.jobber = some a) : e.attendant = some a := by
  unfold Entry.jobber at h
  split at h
  · cases h
  · exact h

namespace Yard

variable {c : Prop} {f g : Yard} {t a : Nat} {p : Post} {e : Entry}

theorem jobber_worker (h : (f.job t).bind Entry.jobber = some a) : f.worker t = some a := by
  obtain ⟨e, he, ha⟩ := Option.bind_eq_some_iff.mp h
  unfold worker
  rw [he]
  exact workerOf_entry (Entry.jobber_attendant ha)

theorem Sound.row (h : f.Sound) (hp : f.post t = some p) : Stands f.duty (some p) (f.job t) := hp ▸ h.stands t

theorem Sound.worker_of_named (h : f.Sound) (hp : f.post t = some p) (hsus : p.state ≠ .suspended) (ha : p.attendant = some a) :
    f.worker t = some a := by
  unfold worker
  rw [hp]
  exact (h.row hp).worker_of_named hsus ha

theorem Sound.parker_worker (h : f.Sound) (ha : ((f.post t).bind fun p => p.parker (f.job t)) = some a) :
    f.worker t = some a := by
  obtain ⟨p, hp, ha⟩ := Option.bind_eq_some_iff.mp ha
  unfold Post.parker at ha
  split at ha
  next hin => exact h.worker_of_named hp (by simp [hin.1]) ha
  next => cases ha

/-! ### What is left alone -/

/-- The attendants written are free for a change at the ticket. -/
def Spares (f g : Yard) (t : Nat) : Prop := ∀ a, g.duty a = f.duty a ∨ f.AtHand t a

theorem Spares.refl : f.Spares f t := fun _ => .inl rfl

theorem Spares.of_eq (h : g.duty = f.duty) : f.Spares g t := fun a => .inl (congrFun h a)

theorem Spares.relieve (h : f.Spares g t) {o : Option Nat} {st : AttendantState} (ho : ∀ a, o = some a → f.AtHand t a) :
    f.Spares (g.relieve o st) t := fun a => by
  show (if o = some a then _ else _) = _ ∨ _
  split
  next ha => exact .inr (ho a ha)
  next => exact h a

theorem WaitMove.unmoved (hwait : g.wait = f.wait) (hp : f.post t = some p) (hst : p.state ≠ .waiting) : WaitMove f g t :=
  .stays hwait fun _ hq => Option.some.inj (hp.symm.trans hq) ▸ hst

/-- A change at one ticket, from what its record and its entry are after it. -/
theorem Turn.of {p' : Post} {j' : Option Entry} (hgp : g.post t = some p') (hgj : g.job t = j')
    (hpost : ∀ u, u ≠ t → g.post u = f.post u) (hduty : f.Spares g t) (hwait : WaitMove f g t) (hfits : Fits g.queue)
    (hstands : Stands g.duty (some p') j') (hworker : ∀ a, workerOf (some p') j' = some a → f.AtHand t a) : Turn f g t :=
  ⟨hpost, hduty, hwait, hfits, by rw [hgp, hgj]; exact hstands, fun a ha => hworker a (by rw [← hgp, ← hgj]; exact ha)⟩

/-! ### Suspension, storing, undoing -/

/-- The entry of a ticket is removed, and its attendant goes IDLE (R124). -/
def unjob (f : Yard) (t : Nat) : Yard := (f.cut t).relieve ((f.job t).bind Entry.jobber) .idle

/-- A record is set aside, naming whoever holds its key: its parker and its entry's attendant go IDLE (R19, R122, R124). -/
theorem keeps_suspend (holder : Option Nat) :
    Keeps c f ((((f.relieve ((f.post t).bind fun p => p.parker (f.job t)) .idle).unjob t).leave t).amend t
      fun p => { p with state := .suspended, called := false, attendant := holder }) := by
  refine .turn (.cut .same) fun _ h => ?_
  refine ⟨fun u hu => by simp [unjob, hu], ?_, .leaves rfl, h.fits.cut t, ?_, fun a ha => ?_⟩
  · exact (Spares.refl.relieve fun a ha => h.atHand_worker (h.parker_worker ha)).relieve fun a ha =>
      h.atHand_worker (jobber_worker ha)
  · cases hp : f.post t with
    | none => simpa [unjob, hp] using Stands.absent
    | some p => simpa [unjob, hp] using Stands.aside rfl rfl
  · cases hp : f.post t with
    | none => simp [worker, workerOf, unjob, hp] at ha
    | some p => simp [worker, workerOf, unjob, hp, Post.named] at ha

/-- An INBOUND record that is being parked becomes STORED, or CALLED where it has a call; its parker goes IDLE (R9, R100, R122). -/
theorem keeps_storeParked {st : RecordState} (hp : f.post t = some p) (hin : p.state = .inbound)
    (hmove : ((f.job t).any fun e => e.kind == .move) = false) (hst : st = if p.called then .called else .stored) :
    Keeps c f ((f.relieve p.attendant .idle).amend t
      fun p => { p with state := st, attendant := none }) := by
  refine .turn (t := t) .same fun _ h => ?_
  have hspares : f.Spares (f.relieve p.attendant .idle) t :=
    Spares.refl.relieve fun a ha => h.atHand_worker (h.worker_of_named hp (by simp [hin]) ha)
  have hwait : p.state ≠ .waiting := by simp [hin]
  rcases (h.row hp).of_inbound hin with ⟨hparker, ⟨hj, hcall⟩ | ⟨e, hj, hslot, hcall, hkind, hqueued, hnone⟩⟩ |
    ⟨hcall, e, b, hj, hslot, hnamed, hkind, htaken⟩
  · refine .of (p' := { p with state := .stored, attendant := none }) (j' := none) (by simp [hp, hst, hcall]) hj
      (fun u hu => by simp [hu]) hspares (.unmoved rfl hp hwait) h.fits (.settled (.inr (.inl rfl)) hcall rfl) ?_
    simp [workerOf, Post.named]
  · refine .of (p' := { p with state := .called, attendant := none }) (j' := some e) (by simp [hp, hst, hcall]) hj
      (fun u hu => by simp [hu]) hspares (.unmoved rfl hp hwait) h.fits
      (.queued hslot (by rw [hkind]; rfl) (by rw [hkind]; exact hcall) rfl hqueued hnone) ?_
    simp [workerOf, Post.named, hnone]
  · simp [hj, hkind] at hmove

/-- An INBOUND record whose MOVE job is under way becomes STORED; the entry leaves and the attendant goes IDLE (R9, R123). -/
theorem keeps_storeMoved {st : RecordState} (hp : f.post t = some p) (hin : p.state = .inbound)
    (hmove : ((f.job t).any fun e => e.kind == .move) = true) (hst : st = if p.called then .called else .stored) :
    Keeps c f (((f.cut t).relieve p.attendant .idle).amend t
      fun p => { p with state := st, attendant := none }) := by
  refine .turn (.cut .same) fun _ h => ?_
  have hspares : f.Spares ((f.cut t).relieve p.attendant .idle) t :=
    (Spares.refl (f := f)).relieve fun a ha => h.atHand_worker (h.worker_of_named hp (by simp [hin]) ha)
  have hwait : p.state ≠ .waiting := by simp [hin]
  rcases (h.row hp).of_inbound hin with ⟨-, ⟨hj, -⟩ | ⟨e, hj, -, -, hkind, -⟩⟩ | ⟨hcall, -⟩
  · simp [hj] at hmove
  · simp [hj, hkind] at hmove
  · have hcall : p.called = false := hcall
    refine .of (p' := { p with state := .stored, attendant := none }) (j' := none) (by simp [hp, hst, hcall]) (by simp)
      (fun u hu => by simp [hu]) hspares (.unmoved rfl hp hwait) (h.fits.cut t) (.settled (.inr (.inl rfl)) hcall rfl) ?_
    simp [workerOf, Post.named]

/-- An entry as it stands in the queue without an attendant (R97). -/
def requeued (e : Entry) : Entry := { e with status := .queued, attendant := none }

/-- A job under way is undone: its entry is QUEUED again, its record waits for an attendant again, and whoever worked on it takes
another state (R15, R97, R125, R126). -/
theorem keeps_undo {k : JobKind} {o : Option Nat} {st : AttendantState} (hp : f.post t = some p)
    (hworking : c → f.Sound → Working f.duty p (f.job t) k) (ho : c → f.Sound → ∀ a, o = some a → f.worker t = some a)
    (hst : p.state ≠ .waiting) :
    Keeps c f (((f.mark t requeued).relieve o st).amend t fun p => { p with state := k.wanted, attendant := none }) := by
  refine .turn (.mark .same _ (fun _ => rfl) fun _ => ⟨rfl, rfl, rfl⟩) fun hc h => ?_
  obtain ⟨hcall, e, b, hj, hslot, -, hkind, -⟩ := hworking hc h
  refine .of (p' := { p with state := k.wanted, attendant := none }) (j' := some (requeued e)) (by simp [hp])
    (job_mark_self f t requeued (fun _ => rfl) hj) (fun u hu => by simp [hu]) ?_ (.unmoved rfl hp hst)
    (h.fits.mark t fun _ => rfl) ?_ ?_
  · exact (Spares.refl (f := f)).relieve fun a ha => h.atHand_worker (ho hc h a ha)
  · exact .queued hslot (by rw [← hkind]; rfl) (by rw [← hkind] at hcall; exact hcall) rfl rfl rfl
  · simp [workerOf, Post.named, requeued]

end Yard

end Sys2Proof.Machine
end

section
/-! The remaining changes at one record: jobs, calls, and the ways into and out of the table. -/

namespace Sys2Proof.Machine

section

variable {duty : Nat → Option AttendantState} {o : Option Post} {p : Post} {e : Entry}

/-- An OFFERED entry. -/
theorem Stands.of_offered (h : Stands duty o (some e)) (hst : e.status = .offered) :
    ∃ p a, o = some p ∧ p.state = e.kind.wanted ∧ Wanting duty p (some e) e.kind ∧ e.OfferedTo duty a := by
  cases h with
  | early hslot hstate hcall hparker hkind hqueued => simp [hst] at hqueued
  | queued hslot hstate hcall hnobody hqueued => simp [hst] at hqueued
  | underway hslot hstate hcall hnamed htaken => simp [hst] at htaken
  | @offered p _ a hslot hstate hcall hnobody hoffered hsome hduty =>
    exact ⟨p, a, rfl, hstate, ⟨hcall, hnobody, e, rfl, hslot, rfl, .inr ⟨a, hoffered, hsome, hduty⟩⟩, hoffered, hsome, hduty⟩

/-- Whoever has an offer to answer works on an entry that is offered to it. -/
theorem Stands.offered_of_worker {j : Option Entry} {a : Nat} (h : Stands duty o j) (hw : workerOf o j = some a)
    (hduty : duty a = some .offered) : ∃ e, j = some e ∧ e.status = .offered ∧ e.attendant = some a := by
  have hnot {p : Post} (hparker : ∀ b, p.attendant = some b → duty b = some .parking) (hst : p.state = .inbound)
      (hnamed : p.named = some a) : False := by
    rw [Post.named_eq (by simp [hst])] at hnamed
    have hat := hparker a hnamed
    rw [hduty] at hat
    cases hat
  cases h with
  | absent => simp [workerOf] at hw
  | settled hstate hcall hnone => simp [workerOf, Post.named, hnone] at hw
  | aside hstate => simp [workerOf, Post.named, hstate] at hw
  | parking hstate hcall hparker => exact (hnot hparker hstate (workerOf_alone.symm.trans hw)).elim
  | early hslot hstate hcall hparker hkind hqueued hnone =>
    exact (hnot hparker hstate ((workerOf_free hnone).symm.trans hw)).elim
  | queued hslot hstate hcall hnobody hqueued hnone => simp [workerOf, Post.named, hnone, hnobody] at hw
  | @offered _ e b hslot hstate hcall hnobody hoffered hsome hat =>
    exact ⟨e, rfl, hoffered, (workerOf_entry hsome).symm.trans hw ▸ hsome⟩
  | @underway _ e b hslot hstate hcall hnamed htaken hsome hat =>
    obtain rfl : b = a := Option.some.inj ((workerOf_entry hsome).symm.trans hw)
    rw [hduty] at hat
    cases hk : e.kind <;> simp [hk, JobKind.working] at hat

/-- Entries stand as their kind, slot, status and attendant say. -/
theorem Stands.entry_congr (h : Stands duty o (some e)) {e' : Entry} (hkind : e'.kind = e.kind) (hslot : e'.slot = e.slot)
    (hstatus : e'.status = e.status) (hatt : e'.attendant = e.attendant) : Stands duty o (some e') := by
  cases h with
  | early hslot' hstate hcall hparker hfetch hqueued hnone =>
    exact .early (hslot'.trans hslot.symm) hstate hcall hparker (hkind.trans hfetch) (hstatus.trans hqueued) (hatt.trans hnone)
  | queued hslot' hstate hcall hnobody hqueued hnone =>
    exact .queued (hslot'.trans hslot.symm) (hkind ▸ hstate) (hkind ▸ hcall) hnobody (hstatus.trans hqueued) (hatt.trans hnone)
  | offered hslot' hstate hcall hnobody hoffered hsome hduty =>
    exact .offered (hslot'.trans hslot.symm) (hkind ▸ hstate) (hkind ▸ hcall) hnobody (hstatus.trans hoffered)
      (hatt.trans hsome) hduty
  | underway hslot' hstate hcall hnamed htaken hsome hduty =>
    exact .underway (hslot'.trans hslot.symm) (hkind ▸ hstate) (hkind ▸ hcall) hnamed (hstatus.trans htaken)
      (hatt.trans hsome) (hkind ▸ hduty)

end

namespace Yard

variable {c : Prop} {f g : Yard} {t a : Nat} {p : Post} {e : Entry}

theorem Keeps.absurd (hqueue : Rewrites t f.queue g.queue) (h : c → f.Sound → False) : Keeps c f g :=
  ⟨hqueue.ordered, fun hc hf => (h hc hf).elim⟩

/-! ### Offers and their ends -/

/-- An offer ends: the entry is QUEUED again and its attendant takes another state (R97, R120, R121). -/
theorem keeps_requeue {st : AttendantState}
    (hjob : c → f.Sound → ∃ e, f.job t = some e ∧ e.status = .offered ∧ e.attendant = some a) :
    Keeps c f ((f.mark t requeued).relieve (some a) st) := by
  refine .turn (.mark .same _ (fun _ => rfl) fun _ => ⟨rfl, rfl, rfl⟩) fun hc h => ?_
  obtain ⟨e, hj, hst, ha⟩ := hjob hc h
  obtain ⟨p, b, hp, hstate, ⟨hcall, hnobody, e', hee, hslot, -, -⟩, -⟩ := (hj ▸ h.stands t : Stands _ _ (some e)).of_offered hst
  obtain rfl : e = e' := Option.some.inj hee
  have hworker : f.worker t = some a := by
    unfold worker
    rw [hj]
    exact workerOf_entry ha
  refine .of (p' := p) (j' := some (requeued e)) hp (job_mark_self f t requeued (fun _ => rfl) hj) (fun u _ => rfl) ?_ ?_
    (h.fits.mark t fun _ => rfl) ?_ ?_
  · exact (Spares.refl (f := f)).relieve fun b hb => Option.some.inj hb ▸ h.atHand_worker hworker
  · exact .unmoved rfl hp (hstate ▸ e.kind.wanted_ne.2)
  · exact .queued hslot hstate hcall hnobody rfl rfl
  · simp [workerOf, Post.named, requeued, hnobody]

/-- An entry as it is offered (R119). -/
def offeredTo (a : Nat) (e : Entry) : Entry := { e with status := .offered, attendant := some a }

/-- A QUEUED entry whose record waits for it is offered to an IDLE attendant (R119). -/
theorem keeps_offer (hjob : c → f.Sound → ∃ p e, f.post t = some p ∧ f.job t = some e ∧ p.state = e.kind.wanted)
    (hidle : f.duty a = some .idle) : Keeps c f ((f.mark t (offeredTo a)).relieve (some a) .offered) := by
  refine .turn (.mark .same _ (fun _ => rfl) fun _ => ⟨rfl, rfl, rfl⟩) fun hc h => ?_
  obtain ⟨p, e, hp, hj, hstate⟩ := hjob hc h
  obtain ⟨hcall, hnobody, e', hee, hslot, -, -⟩ := (h.row hp).wanting hstate
  obtain rfl : e = e' := Option.some.inj (hj.symm.trans hee)
  have hfree : f.AtHand t a := h.atHand_idle (by simp [hidle, Busy])
  refine .of (p' := p) (j' := some (offeredTo a e)) hp (job_mark_self f t (offeredTo a) (fun _ => rfl) hj) (fun u _ => rfl) ?_ ?_
    (h.fits.mark t fun _ => rfl) ?_ ?_
  · exact (Spares.refl (f := f)).relieve fun b hb => Option.some.inj hb ▸ hfree
  · exact .unmoved rfl hp (hstate ▸ e.kind.wanted_ne.2)
  · exact .offered hslot hstate hcall hnobody rfl rfl (by simp [hidle])
  · intro b hb
    obtain rfl : a = b := Option.some.inj ((workerOf_entry (e := offeredTo a e) rfl).symm.trans hb)
    exact hfree

/-- An entry as it is taken (R121). -/
def taken (e : Entry) : Entry := { e with status := .taken }

/-- An OFFERED entry is taken by its attendant: the job is under way (R14, R121). -/
theorem keeps_take (hp : f.post t = some p) (hj : f.job t = some e) (hst : e.status = .offered) (ha : e.attendant = some a) :
    Keeps c f (((f.mark t taken).relieve (some a) e.kind.working).amend t
      fun p => { p with state := e.kind.underway, attendant := some a }) := by
  refine .turn (.mark .same _ (fun _ => rfl) fun _ => ⟨rfl, rfl, rfl⟩) fun _ h => ?_
  obtain ⟨p', b, hp', hstate, ⟨hcall, hnobody, e', hee, hslot, -, -⟩, -, hb, hduty⟩ :=
    (hj ▸ h.stands t : Stands _ _ (some e)).of_offered hst
  obtain rfl : p = p' := Option.some.inj (hp.symm.trans hp')
  obtain rfl : e = e' := Option.some.inj hee
  obtain rfl : a = b := Option.some.inj (ha.symm.trans hb)
  have hworker : f.worker t = some a := by
    unfold worker
    rw [hj]
    exact workerOf_entry ha
  refine .of (p' := { p with state := e.kind.underway, attendant := some a }) (j' := some (taken e)) (by simp [hp])
    (job_mark_self f t taken (fun _ => rfl) hj) (fun u hu => by simp [hu]) ?_ ?_ (h.fits.mark t fun _ => rfl) ?_ ?_
  · exact (Spares.refl (f := f)).relieve fun b hb => Option.some.inj hb ▸ h.atHand_worker hworker
  · exact .unmoved rfl hp (hstate ▸ e.kind.wanted_ne.2)
  · exact .underway hslot rfl hcall (.inr rfl) rfl ha (by simp [hduty, taken])
  · intro b hb'
    obtain rfl : a = b := Option.some.inj ((workerOf_entry (e := taken e) ha).symm.trans hb')
    exact h.atHand_worker hworker

/-! ### Calls -/

/-- The entry is a QUEUED job of the record. -/
def Files (e : Entry) (t : Nat) (p : Post) (k : JobKind) : Prop := e.ticket = t ∧ p.slot = e.slot ∧ e.kind = k ∧ e.Free

/-- A record without a job waits for one: its QUEUED entry joins (R11, R12, R99, R100). -/
theorem Turn.file {f' : Yard} {k : JobKind} {m : Post → Post} (hp : f.post t = some p) (he : Files e t p k)
    (hm : m p = { p with state := k.wanted, called := k == .fetch }) (hpost : ∀ u, u ≠ t → f'.post u = f.post u)
    (hp' : f'.post t = some p) (hduty : f.Spares f' t)
    (hwait : f'.wait = f.wait ∧ p.state ≠ .waiting ∨ f'.wait = f.wait.filter (· != t)) (hfits : Fits f'.queue)
    (hroom : f'.queue.length < 64) (hnone : f'.job t = none) (hnobody : p.attendant = none) :
    Turn f ((f'.amend t m).put e) t := by
  obtain ⟨rfl, hslot, hkind, hqueued, hfree⟩ := he
  refine .of (p' := { p with state := k.wanted, called := k == .fetch }) (j' := some e) (by simp [hp', hm])
    (job_put_self (f'.amend e.ticket m) hnone) (fun u hu => by simp [hu, hpost]) hduty ?_ (hfits.put hroom hnone) ?_ ?_
  · rcases hwait with ⟨hwait, hst⟩ | hwait
    · exact .unmoved hwait hp hst
    · exact .leaves hwait
  · exact .queued hslot (by rw [hkind]) (by rw [hkind]) hnobody hqueued hfree
  · simp [workerOf, Post.named, hfree, hnobody]

/-- A WAITING record takes a job: a grant, or a call (R11, R12, R99). -/
theorem keeps_fileWaiting {k : JobKind} {m : Post → Post} (hp : f.post t = some p) (hst : p.state = .waiting)
    (he : Files e t p k) (hm : p.called = false → m p = { p with state := k.wanted, called := k == .fetch })
    (hroom : f.queue.length < 64) : Keeps c f (((f.leave t).amend t m).put e) := by
  refine .turn (.put .same e he.1) fun _ h => ?_
  obtain ⟨hj, hcall, hnobody⟩ := (h.row hp).resting (.inl hst)
  exact Turn.file (f' := f.leave t) hp he (hm hcall) (fun _ _ => rfl) hp (.of_eq rfl) (.inr rfl) h.fits hroom hj hnobody

/-- A STORED record is called (R12). -/
theorem keeps_callStored (hp : f.post t = some p) (hst : p.state = .stored) (he : Files e t p .fetch)
    (hroom : f.queue.length < 64) :
    Keeps c f ((f.amend t fun p => { p with state := .called, called := true }).put e) := by
  refine .turn (.put .same e he.1) fun _ h => ?_
  obtain ⟨hj, -, hnobody⟩ := (h.row hp).resting (.inr (.inl hst))
  exact Turn.file (f' := f) (k := .fetch) hp he rfl (fun _ _ => rfl) hp .refl (.inl ⟨rfl, by simp [hst]⟩) h.fits hroom hj hnobody

/-- A GRANTED record is called: its MOVE entry leaves first (R12, R99). -/
theorem keeps_callGranted (hp : f.post t = some p) (hst : p.state = .granted) (he : Files e t p .fetch) :
    Keeps c f (((f.unjob t).amend t fun p => { p with state := .called, called := true }).put e) := by
  refine .turn (.put (.cut .same) e he.1) fun _ h => ?_
  obtain ⟨-, hnobody, x, hj, -⟩ := (h.row hp).wanting (k := .move) hst
  refine Turn.file (f' := f.unjob t) (k := .fetch) hp he rfl (fun _ _ => rfl) hp ?_ (.inl ⟨rfl, by simp [hst]⟩) (h.fits.cut t) ?_
    (by simp [unjob]) hnobody
  · exact (Spares.refl (f := f)).relieve fun a ha => h.atHand_worker (jobber_worker ha)
  · have hlt := length_cut_lt hj
    have hle := h.fits.1
    show (f.queue.filter fun g => g.ticket != t).length < 64
    omega

/-- A record that is being parked is called early (R100). -/
theorem keeps_callEarly (hp : f.post t = some p) (hst : p.state = .inbound) (he : Files e t p .fetch)
    (hroom : f.queue.length < 64) (hj : f.job t = none) :
    Keeps c f ((f.amend t fun p => { p with called := true }).put e) := by
  refine .turn (.put .same e he.1) fun _ h => ?_
  obtain ⟨rfl, hslot, hkind, hqueued, hfree⟩ := he
  rcases (h.row hp).of_inbound hst with ⟨hparker, -⟩ | ⟨-, x, b, hx, -⟩
  · refine .of (p' := { p with called := true }) (j' := some e) (by simp [hp]) (job_put_self (f.amend e.ticket _) hj)
      (fun u hu => by simp [hu]) (.of_eq rfl) (.unmoved rfl hp (by simp [hst])) (h.fits.put hroom hj) ?_ ?_
    · exact .early hslot hst rfl hparker hkind hqueued hfree
    · intro a ha
      rw [workerOf_free hfree] at ha
      refine h.atHand_worker (h.worker_of_named hp (by simp [hst]) ?_)
      simpa [Post.named, hst] using ha
  · simp [hj] at hx

/-- A call that has not been taken is cancelled: the CALLED record is STORED again (R13, R101). -/
theorem keeps_cancelCalled {st : RecordState} (hp : f.post t = some p) (hcalled : p.state = .called) (hst : st = .stored) :
    Keeps c f ((f.unjob t).amend t fun p => { p with state := st, called := false }) := by
  refine .turn (.cut .same) fun _ h => ?_
  obtain ⟨-, hnobody, -⟩ := (h.row hp).wanting (k := .fetch) hcalled
  refine .of (p' := { p with state := st, called := false }) (j' := none) (by simp [unjob, hp]) (by simp [unjob])
    (fun u hu => by simp [unjob, hu]) ?_ (.unmoved rfl hp (by simp [hcalled])) (h.fits.cut t)
    (.settled (.inr (.inl hst)) rfl hnobody) (by simp [workerOf, Post.named, hnobody])
  exact (Spares.refl (f := f)).relieve fun a ha => h.atHand_worker (jobber_worker ha)

/-- A call that has not been taken is cancelled: the CALLED record waits again (R13, R101). -/
theorem keeps_cancelWaiting (hp : f.post t = some p) (hcalled : p.state = .called) :
    Keeps c f (((f.unjob t).amend t fun p => { p with state := .waiting, called := false }).join t) := by
  refine .turn (.cut .same) fun _ h => ?_
  obtain ⟨-, hnobody, -⟩ := (h.row hp).wanting (k := .fetch) hcalled
  have hgp : (((f.unjob t).amend t fun p => { p with state := .waiting, called := false }).join t).post t =
      some { p with state := .waiting, called := false } := by simp [unjob, hp]
  refine .of hgp (j' := none) (by simp [unjob]) (fun u hu => by simp [unjob, hu]) ?_ (.joins rfl ?_ hgp rfl) (h.fits.cut t)
    (.settled (.inl rfl) rfl hnobody) (by simp [workerOf, Post.named, hnobody])
  · exact (Spares.refl (f := f)).relieve fun a ha => h.atHand_worker (jobber_worker ha)
  · intro q hq
    rw [← Option.some.inj (hp.symm.trans hq), hcalled]
    decide

/-- An early call is cancelled: the record is being parked still (R13, R101). -/
theorem keeps_cancelEarly (hp : f.post t = some p) (hj : f.job t = some e) (hkind : e.kind = .fetch) (hst : e.status ≠ .taken)
    (hcalled : p.state ≠ .called) : Keeps c f ((f.unjob t).amend t fun p => { p with called := false }) := by
  refine .turn (.cut .same) fun _ h => ?_
  have hrow := h.row hp
  rw [hj] at hrow
  cases hrow with
  | early hslot hin hcall hparker hfetch hqueued hnone =>
    have hnobody : (f.job t).bind Entry.jobber = none := by simp [hj, Entry.jobber, hqueued]
    refine .of (p' := { p with called := false }) (j' := none) (by simp [unjob, hp]) (by simp [unjob])
      (fun u hu => by simp [unjob, hu]) ?_ (.unmoved rfl hp (by simp [hin])) (h.fits.cut t) (.parking hin rfl fun a ha => ?_)
      fun a ha => ?_
    · exact (Spares.refl (f := f)).relieve fun a ha => h.atHand_worker (jobber_worker ha)
    · simpa [unjob, hnobody] using hparker a ha
    · refine h.atHand_worker (h.worker_of_named hp (by simp [hin]) ?_)
      simpa [workerOf, Post.named, hin] using ha
  | queued hslot hstate => exact (hcalled (by rw [hstate, hkind]; rfl)).elim
  | offered hslot hstate => exact (hcalled (by rw [hstate, hkind]; rfl)).elim
  | underway hslot hstate hcall hnamed htaken => exact (hst htaken).elim

/-- An entry takes another place of the queue (R99). -/
theorem keeps_upgrade {e' : Entry} (hj : f.job t = some e) (hticket : e'.ticket = t) (hkind : e'.kind = e.kind)
    (hslot : e'.slot = e.slot) (hstatus : e'.status = e.status) (hatt : e'.attendant = e.attendant) :
    Keeps c f ((f.cut t).put e') := by
  refine .turn (.put (.cut .same) e' hticket) fun _ h => ?_
  subst hticket
  have hnone : (f.cut e'.ticket).job e'.ticket = none := by simp
  have hgj : ((f.cut e'.ticket).put e').job e'.ticket = some e' := job_put_self (f.cut e'.ticket) hnone
  have hrow := h.stands e'.ticket
  have hst (p : Post) (hp : f.post e'.ticket = some p) (hw : p.state = .waiting) : False := by
    have hnone := ((h.row hp).resting (.inl hw)).1
    rw [hj] at hnone
    cases hnone
  rw [hj] at hrow
  refine ⟨fun _ _ => rfl, fun _ => .inl rfl, .stays rfl hst, (h.fits.cut _).put ?_ hnone, ?_, fun a ha => ?_⟩
  · have hlt := length_cut_lt hj
    have hle := h.fits.1
    show (f.queue.filter fun g => g.ticket != e'.ticket).length < 64
    omega
  · rw [hgj]
    exact hrow.entry_congr hkind hslot hstatus hatt
  · refine h.atHand_worker ?_
    unfold worker at ha ⊢
    rw [hgj] at ha
    rw [hj]
    simpa [workerOf, hatt] using ha

end Yard

end Sys2Proof.Machine
end

section
/-! The ways into the table, out of it and through SUSPENDED and STAGED; attendants alone. -/

namespace Sys2Proof.Machine.Yard

variable {c : Prop} {f g : Yard} {t a : Nat} {p : Post} {e : Entry}

/-! ### SUSPENDED and STAGED records -/

/-- A SUSPENDED record names another attendant, or none (R10, R19). -/
theorem keeps_renamed {o : Option Nat} (hp : f.post t = some p) (hst : p.state = .suspended) :
    Keeps c f (f.amend t fun p => { p with attendant := o }) := by
  refine .turn (t := t) .same fun _ h => ?_
  obtain ⟨hj, hcall⟩ := (h.row hp).of_suspended hst
  exact .of (p' := { p with attendant := o }) (j' := none) (by simp [hp]) hj (fun u hu => by simp [hu]) (.of_eq rfl)
    (.unmoved rfl hp (by simp [hst])) h.fits (.aside hst hcall) (by simp [workerOf, Post.named, hst])

/-- A suspension is resolved: the record is STORED (R22). -/
theorem keeps_resolveStored (hp : f.post t = some p) (hst : p.state = .suspended) :
    Keeps c f (f.amend t fun p => { p with state := .stored, attendant := none }) := by
  refine .turn (t := t) .same fun _ h => ?_
  obtain ⟨hj, hcall⟩ := (h.row hp).of_suspended hst
  exact .of (p' := { p with state := .stored, attendant := none }) (j' := none) (by simp [hp]) hj (fun u hu => by simp [hu])
    (.of_eq rfl) (.unmoved rfl hp (by simp [hst])) h.fits (.settled (.inr (.inl rfl)) hcall rfl) (by simp [workerOf, Post.named])

/-- A suspension is resolved: the record waits (R23). -/
theorem keeps_resolveWaiting (hp : f.post t = some p) (hst : p.state = .suspended) :
    Keeps c f ((f.amend t fun p => { p with state := .waiting, attendant := none }).join t) := by
  refine .turn (t := t) .same fun _ h => ?_
  obtain ⟨hj, hcall⟩ := (h.row hp).of_suspended hst
  have hgp : ((f.amend t fun p => { p with state := .waiting, attendant := none }).join t).post t =
      some { p with state := .waiting, attendant := none } := by simp [hp]
  refine .of hgp (j' := none) hj (fun u hu => by simp [hu]) (.of_eq rfl) (.joins rfl ?_ hgp rfl) h.fits
    (.settled (.inl rfl) hcall rfl) (by simp [workerOf, Post.named])
  intro q hq
  rw [← Option.some.inj (hp.symm.trans hq), hst]
  decide

/-- A fetched car is STAGED: the entry leaves and the attendant goes IDLE (R16). -/
theorem keeps_staged (hp : f.post t = some p) (hst : p.state = .fetching) :
    Keeps c f (((f.cut t).relieve p.attendant .idle).amend t
      fun p => { p with state := .staged, called := false, attendant := none }) := by
  refine .turn (.cut .same) fun _ h => ?_
  refine .of (p' := { p with state := .staged, called := false, attendant := none }) (j' := none) (by simp [hp]) (by simp)
    (fun u hu => by simp [hu]) ?_ (.unmoved rfl hp (by simp [hst])) (h.fits.cut t) (.settled (.inr (.inr rfl)) rfl rfl)
    (by simp [workerOf, Post.named])
  exact (Spares.refl (f := f)).relieve fun a ha => h.atHand_worker (h.worker_of_named hp (by simp [hst]) ha)

/-- A STAGED car is parked again by an IDLE attendant (R18, R122). -/
theorem keeps_repark (hp : f.post t = some p) (hst : p.state = .staged) (hidle : f.duty a = some .idle) :
    Keeps c f ((f.relieve (some a) .parking).amend t fun p => { p with state := .inbound, attendant := some a }) := by
  refine .turn (t := t) .same fun _ h => ?_
  obtain ⟨hj, hcall, -⟩ := (h.row hp).resting (.inr (.inr hst))
  have hfree : f.AtHand t a := h.atHand_idle (by simp [hidle, Busy])
  refine .of (p' := { p with state := .inbound, attendant := some a }) (j' := none) (by simp [hp]) hj
    (fun u hu => by simp [hu]) ?_ (.unmoved rfl hp (by simp [hst])) h.fits (.parking rfl hcall fun b hb => ?_) fun b hb => ?_
  · exact (Spares.refl (f := f)).relieve fun b hb => Option.some.inj hb ▸ hfree
  · obtain rfl : a = b := Option.some.inj hb
    simp [hidle]
  · obtain rfl : a = b := by simpa [workerOf, Post.named] using hb
    exact hfree

/-- A STAGED record waits again (R18). -/
theorem keeps_reparkWaiting (hp : f.post t = some p) (hst : p.state = .staged) :
    Keeps c f ((f.amend t fun p => { p with state := .waiting }).join t) := by
  refine .turn (t := t) .same fun _ h => ?_
  obtain ⟨hj, hcall, hnobody⟩ := (h.row hp).resting (.inr (.inr hst))
  have hgp : ((f.amend t fun p => { p with state := .waiting }).join t).post t = some { p with state := .waiting } := by
    simp [hp]
  refine .of hgp (j' := none) hj (fun u hu => by simp [hu]) (.of_eq rfl) (.joins rfl ?_ hgp rfl) h.fits
    (.settled (.inl rfl) hcall hnobody) (by simp [workerOf, Post.named, hnobody])
  intro q hq
  rw [← Option.some.inj (hp.symm.trans hq), hst]
  decide

/-! ### Into the table and out of it -/

theorem Sound.job_of_absent (h : f.Sound) (hp : f.post t = none) : f.job t = none := by
  have hrow := h.stands t
  rw [hp] at hrow
  generalize f.job t = j at hrow
  cases hrow
  rfl

/-- A car is accepted and parked, by the IDLE sender where there is one (R8, R122). -/
theorem keeps_accept {o : Option Nat} (habsent : c → f.post t = none) (hst : p.state = .inbound) (hcall : p.called = false)
    (ho : p.attendant = o) (hidle : ∀ a, o = some a → f.duty a = some .idle) :
    Keeps c f ((f.relieve o .parking).write t (some p)) := by
  refine .turn (t := t) .same fun hc h => ?_
  have hp := habsent hc
  have hfree (a : Nat) (ha : o = some a) : f.AtHand t a := h.atHand_idle (by simp [hidle a ha, Busy])
  refine .of (p' := p) (j' := none) (by simp) (h.job_of_absent hp) (fun u hu => by simp [hu])
    ((Spares.refl (f := f)).relieve hfree) (.stays rfl fun q hq => by simp [hp] at hq) h.fits
    (.parking hst hcall fun a ha => ?_) fun a ha => hfree a ?_
  · simp [← ho, ha, hidle a (ho ▸ ha)]
  · simpa [workerOf, Post.named, hst, ho] using ha

/-- A car is accepted and waits (R8). -/
theorem keeps_acceptWaiting (habsent : c → f.post t = none) (hst : p.state = .waiting) (hcall : p.called = false)
    (hnobody : p.attendant = none) : Keeps c f ((f.write t (some p)).join t) := by
  refine .turn (t := t) .same fun hc h => ?_
  have hp := habsent hc
  have hgp : ((f.write t (some p)).join t).post t = some p := by simp
  exact .of hgp (j' := none) (h.job_of_absent hp) (fun u hu => by simp [hu]) (.of_eq rfl)
    (.joins rfl (fun q hq => by simp [hp] at hq) hgp hst) h.fits (.settled (.inl hst) hcall hnobody)
    (by simp [workerOf, Post.named, hnobody])

/-- A STAGED or SUSPENDED record leaves the table (R17). -/
theorem keeps_drop (hp : f.post t = some p) (hst : p.state = .staged ∨ p.state = .suspended) :
    Keeps c f (f.write t none) := by
  refine .turn (t := t) .same fun _ h => ?_
  have hj : f.job t = none := by
    rcases hst with hst | hst
    · exact ((h.row hp).resting (.inr (.inr hst))).1
    · exact ((h.row hp).of_suspended hst).1
  have hwait : p.state ≠ .waiting := by rcases hst with hst | hst <;> simp [hst]
  refine ⟨fun u hu => by simp [hu], Spares.of_eq rfl, .unmoved rfl hp hwait, h.fits, by simp [hj, Stands.absent], fun a ha => ?_⟩
  simp [worker, workerOf, hj] at ha

/-! ### Attendants alone -/

/-- An attendant at work on nothing takes another state. -/
theorem keeps_relieve {o : Option Nat} {st : AttendantState} (h : c → f.Sound → ∀ a, o = some a → ∀ t, f.worker t ≠ some a) :
    Keeps c f (f.relieve o st) := by
  refine ⟨id, fun hc hf => ⟨hf.nodup, hf.waiting, hf.fits, fun t => ?_, hf.alone⟩⟩
  exact (hf.stands t).congr fun a ha => if_neg fun hoa => h hc hf a hoa t ha

/-- An empty yard. -/
theorem keeps_empty (hwait : g.wait = []) (hpost : ∀ t, g.post t = none) (hqueue : g.queue = []) : Keeps c f g := by
  have hjob (t : Nat) : g.job t = none := by unfold job; rw [hqueue]; rfl
  refine ⟨fun _ => by unfold Ordered; rw [hqueue]; exact .nil, fun _ _ => ⟨by simp [hwait], by simp [hwait],
    by rw [hqueue]; exact ⟨Nat.zero_le _, .nil⟩, fun t => by rw [hpost, hjob]; exact .absent, fun t u a ht => ?_⟩⟩
  simp [worker, hpost, hjob, workerOf] at ht

end Sys2Proof.Machine.Yard
end

section
/-! What the operations of the model do to the yard: nothing, for most; a change of Yard, for those that move a record, an entry,
an attendant or a place of the wait list. -/

namespace Sys2Proof.Machine

open Sys2Proof.Safety

variable {s q : State}

/-! ### Equal yards -/

theorem yard_frame (hct : q.ct = s.ct) (hwait : q.sm.waitList = s.sm.waitList) (hjq : q.jq = s.jq) (hdr : q.dr = s.dr) :
    q.yard = s.yard := by
  unfold State.yard State.duty State.record?
  rw [hct, hwait, hjq, hdr]

variable (s)

@[simp] theorem yard_serveDue : s.serveDue.yard = s.yard := rfl
@[simp] theorem yard_lookDue : s.lookDue.yard = s.yard := rfl
@[simp] theorem yard_begin : s.begin.yard = s.yard := rfl
@[simp] theorem yard_serveIf (b : Bool) : (s.serveIf b).yard = s.yard := by cases b <;> rfl
@[simp] theorem yard_lookIf (b : Bool) : (s.lookIf b).yard = s.yard := by cases b <;> rfl
@[simp] theorem yard_raise (c : Cause) (x : Option Nat) : (s.raise c x).yard = s.yard := rfl
@[simp] theorem yard_setLink (z : Nat) (k : ZoneLink) : (s.setLink z k).yard = s.yard := rfl
@[simp] theorem yard_modPanel (p : Nat) (f : Panel → Panel) : (s.modPanel p f).yard = s.yard := rfl
@[simp] theorem yard_sendLatch (h : Nat) (p : Latch) : (s.sendLatch h p).yard = s.yard := rfl
@[simp] theorem yard_modBay (b : Nat) (f : Bay → Bay) : (s.modBay b f).yard = s.yard := rfl
@[simp] theorem yard_modLane (l : Nat) (f : Lane → Lane) : (s.modLane l f).yard = s.yard := rfl
@[simp] theorem yard_modZone (z : Nat) (f : Zone → Zone) : (s.modZone z f).yard = s.yard := rfl
@[simp] theorem yard_modStall (z i : Nat) (f : Stall → Stall) : (s.modStall z i f).yard = s.yard := rfl
@[simp] theorem yard_setIdle (l : List Nat) : (s.setIdle l).yard = s.yard := rfl
@[simp] theorem yard_resetRuns (o : Option StallId) : (s.resetRuns o).yard = s.yard := by cases o <;> rfl
@[simp] theorem yard_freeBay (b : Option Nat) : (s.freeBay b).yard = s.yard := by cases b <;> rfl

@[simp] theorem yard_updHook (h : Nat) (f : Hook → Hook) : (s.updHook h f).yard = s.yard :=
  yard_frame (by simp) (by simp) (by simp) (by simp)

@[simp] theorem yard_bindHook (h t : Nat) : (s.bindHook h t).yard = s.yard :=
  yard_frame (by simp) (by simp) (by simp) (by simp)

@[simp] theorem yard_unbindHook (h t : Nat) : (s.unbindHook h t).yard = s.yard :=
  yard_frame (by simp) (by simp) (by simp) (by simp)

@[simp] theorem yard_requestWindow (h a : Nat) : (s.requestWindow h a).yard = s.yard :=
  yard_frame (by simp) (by simp) (by simp) (by simp)

@[simp] theorem yard_endWindow (h : Nat) : (s.endWindow h).yard = s.yard :=
  yard_frame (by simp) (by simp) (by simp) (by simp)

@[simp] theorem yard_reparkHook (h a : Nat) : (s.reparkHook h a).yard = s.yard :=
  yard_frame (by simp) (by simp) (by simp) (by simp)

@[simp] theorem yard_pushFrame (f : HandsetFrame) : (s.pushFrame f).yard = s.yard :=
  yard_frame (by simp) (by simp) (by simp) (by simp)

@[simp] theorem yard_sendTo (a kind : Nat) (body : List Value) : (s.sendTo a kind body).yard = s.yard :=
  yard_frame (by simp) (by simp) (by simp) (by simp)

@[simp] theorem yard_sendWithdrawn (a t reason : Nat) : (s.sendWithdrawn a t reason).yard = s.yard :=
  yard_frame (by simp) (by simp) (by simp) (by simp)

@[simp] theorem yard_takeArrival (l : Option Nat) : (s.takeArrival l).yard = s.yard := by cases l <;> rfl

theorem yard_foldl {α : Type} (f : State → α → State) (hf : ∀ p a, (f p a).yard = p.yard) (l : List α) :
    (l.foldl f s).yard = s.yard := by
  induction l generalizing s with
  | nil => rfl
  | cons a l ih => rw [List.foldl_cons, ih, hf]

@[simp] theorem yard_announceGrant (r : Record) (st : StallId) : (s.announceGrant r st).yard = s.yard :=
  yard_foldl s _ (fun _ _ => yard_sendTo _ _ _ _) _

/-! ### Attendants -/

theorem duty_modAttendant (a b : Nat) (f : Attendant → Attendant) :
    (s.modAttendant a f).duty b = if a = b then (s.dr.attendants[b]?).map (fun x => (f x).state) else s.duty b := by
  unfold State.duty State.modAttendant
  simp only [List.getElem?_modify]
  split <;> simp [*, Function.comp_def]

/-- A roster entry changes without its state. -/
@[simp] theorem yard_modAttendant (a : Nat) (f : Attendant → Attendant) (hf : ∀ x, (f x).state = x.state) :
    (s.modAttendant a f).yard = s.yard := by
  refine Yard.ext rfl rfl rfl (funext fun b => (duty_modAttendant s a b f).trans ?_)
  split
  · simp only [hf]; rfl
  · rfl

theorem yard_relieve (a : Nat) (f : Attendant → Attendant) (st : AttendantState) (hf : ∀ x, (f x).state = st) :
    (s.modAttendant a f).yard = s.yard.relieve (some a) st := by
  refine Yard.ext rfl rfl rfl (funext fun b => (duty_modAttendant s a b f).trans ?_)
  simp only [hf, Yard.relieve_duty, Option.some.injEq]
  split
  · simp [State.yard, State.duty, Function.comp_def]
  · rfl

@[simp] theorem yard_idleBack (a : Nat) : (s.idleBack a).yard = s.yard.relieve (some a) .idle :=
  yard_relieve s a _ _ fun _ => rfl

@[simp] theorem yard_idleFront (a : Nat) : (s.idleFront a).yard = s.yard.relieve (some a) .idle :=
  yard_relieve s a _ _ fun _ => rfl

@[simp] theorem yard_leaveIdle (a : Nat) (st : AttendantState) : (s.leaveIdle a st).yard = s.yard.relieve (some a) st :=
  yard_relieve s a _ _ fun _ => rfl

theorem relieve_none (f : Yard) (st : AttendantState) : f.relieve none st = f := by
  refine Yard.ext rfl rfl rfl (funext fun b => ?_)
  simp

@[simp] theorem yard_startParking (o : Option Nat) : (s.startParking o).yard = s.yard.relieve o .parking := by
  cases o with
  | none => exact (relieve_none _ _).symm
  | some a => exact yard_leaveIdle s a _

@[simp] theorem yard_withdrawOffer (a t : Nat) : (s.withdrawOffer a t).yard = s.yard.relieve (some a) .idle := by
  simp [State.withdrawOffer]

@[simp] theorem yard_suspendJob (a t : Nat) : (s.suspendJob a t).yard = s.yard.relieve (some a) .idle := by
  simp [State.suspendJob]

@[simp] theorem yard_lapseAttendant (t : Nat) (o : Option Nat) : (s.lapseAttendant t o).yard = s.yard.relieve o .away := by
  cases o with
  | none => exact (relieve_none _ _).symm
  | some a => simp [State.lapseAttendant]

/-! ### Entries -/

@[simp] theorem yard_modEntry (t : Nat) (m : Entry → Entry) : (s.modEntry t m).yard = s.yard.mark t m := rfl

@[simp] theorem yard_requeue (t : Nat) : (s.requeue t).yard = s.yard.mark t Yard.requeued := rfl

@[simp] theorem yard_addEntry (e : Entry) : (s.addEntry e).yard = s.yard.put e := by
  unfold State.addEntry
  dsimp only
  split <;> rfl

theorem cut_of_none {f : Yard} {t : Nat} (hj : f.job t = none) : f.cut t = f := by
  refine Yard.ext rfl rfl (List.filter_eq_self.mpr fun e he => ?_) rfl
  simpa using List.find?_eq_none.mp hj e he

@[simp] theorem yard_removeEntry (t : Nat) : (s.removeEntry t).yard = s.yard.cut t := by
  unfold State.removeEntry
  split
  next hnone => exact (cut_of_none (f := s.yard) hnone).symm
  next => rw [yard_lookIf, yard_serveDue]; rfl

@[simp] theorem yard_dropEntry (t : Nat) : (s.dropEntry t).yard = s.yard.unjob t := by
  unfold State.dropEntry Yard.unjob
  rw [job_yard]
  split
  next hnone => rw [hnone]; exact ((relieve_none _ _).trans (cut_of_none (f := s.yard) hnone)).symm
  next e he =>
    rw [he]
    split
    next a hst ha => simp [Entry.jobber, hst, ha]
    next a hst ha => simp [Entry.jobber, hst, ha]
    next hoffered htaken =>
      have hnobody : e.jobber = none := by
        unfold Entry.jobber
        split
        · rfl
        next hst =>
          refine Option.eq_none_iff_forall_ne_some.mpr fun a ha => ?_
          cases hst' : e.status with
          | queued => exact hst hst'
          | offered => exact hoffered a hst' ha
          | taken => exact htaken a hst' ha
      simp [hnobody, relieve_none]

/-! ### Records -/

theorem yard_amend (t : Nat) (f : Record → Record) (m : Post → Post) (ht : ∀ r, (f r).ticket = r.ticket)
    (hm : ∀ r, (f r).post = m r.post) : (s.modRecord t f).yard = s.yard.amend t m := by
  refine Yard.ext rfl (funext fun u => ?_) rfl rfl
  show ((s.modRecord t f).record? u).map Record.post = if u = t then ((s.record? u).map Record.post).map m else _
  rw [record?_modRecord s t u f ht, Option.map_map]
  split
  · rw [Option.map_map]; exact congrArg (Option.map · _) (funext hm)
  · rfl

/-- A record changes in what the queue and the roster are not held against. -/
@[simp] theorem yard_modRecord (t : Nat) (f : Record → Record) (ht : ∀ r, (f r).ticket = r.ticket)
    (hpost : ∀ r, (f r).post = r.post) : (s.modRecord t f).yard = s.yard := by
  rw [yard_amend s t f id ht hpost]
  refine Yard.ext rfl (funext fun u => ?_) rfl rfl
  simp

theorem yard_setState (t : Nat) (st : RecordState) :
    (s.setState t st).yard = s.yard.amend t fun p => { p with state := st } := by
  unfold State.setState
  rw [yard_resetRuns]
  exact yard_amend s t _ _ (fun r => (Record.enter_frame st _ r).2.1) fun r => rfl

@[simp] theorem yard_holdStall (t : Nat) (st : StallId) : (s.holdStall t st).yard = s.yard := by
  exact yard_modRecord (s.modStall _ _ _) t _ (fun _ => rfl) fun _ => rfl

@[simp] theorem yard_releaseStall (t : Nat) : (s.releaseStall t).yard = s.yard := by
  unfold State.releaseStall
  split
  · rfl
  · exact yard_modRecord (s.modStall _ _ _) t _ (fun _ => rfl) fun _ => rfl

@[simp] theorem yard_noteFallback (t : Nat) (b : Bool) : (s.noteFallback t b).yard = s.yard := by
  unfold State.noteFallback
  split
  · exact yard_modRecord _ t _ (fun _ => rfl) fun _ => rfl
  · rfl

@[simp] theorem yard_compareGrade (st : Stall) : (s.compareGrade st).yard = s.yard := by
  have hsame (q : State) (t : Nat) (b : Bool) :
      (q.modRecord t fun x => { x with flags := { x.flags with misfit := b } }).yard = q.yard :=
    yard_modRecord _ t _ (fun _ => rfl) fun _ => rfl
  unfold State.compareGrade
  split
  · rfl
  · repeat' split
    all_goals simp [hsame]

theorem yard_dropRecord (t : Nat) : (s.dropRecord t).yard = s.yard.write t none := by
  refine Yard.ext rfl (funext fun u => ?_) rfl rfl
  show ((s.dropRecord t).record? u).map Record.post = if u = t then none else (s.record? u).map Record.post
  rw [record?_dropRecord]
  split <;> rfl

theorem yard_leaveWaitList (t : Nat) : (s.leaveWaitList t).yard = s.yard.leave t := rfl

theorem yard_joinWaitList (t : Nat) : (s.joinWaitList t).yard = s.yard.join t := rfl

theorem yard_enterWaiting (t : Nat) :
    (s.enterWaiting t).yard = (s.yard.amend t fun p => { p with state := .waiting }).join t := by
  unfold State.enterWaiting
  rw [yard_joinWaitList, yard_setState]

/-- Two changes of one record are one. -/
theorem amend_amend (f : Yard) (t : Nat) (m m' : Post → Post) : (f.amend t m).amend t m' = f.amend t (m' ∘ m) := by
  refine Yard.ext rfl (funext fun u => ?_) rfl rfl
  simp only [Yard.amend_post]
  split
  · rw [Option.map_map]
  · rfl

end Sys2Proof.Machine
end

section
/-! The Custody Table's transitions keep the order of the queue and its agreement (R9 to R20). -/

namespace Sys2Proof.Machine

open Sys2Proof.Safety

variable {s : State} {c : Prop} {t : Nat} {r : Record}

theorem hasEntry_yard (s : State) (t : Nat) (k : JobKind) :
    s.hasEntry t k = (s.yard.job t).any fun e => e.kind == k := rfl

theorem yard_named (s : State) (t : Nat) (o : Option Nat) :
    (s.modRecord t fun q => { q with attendant := o }).yard = s.yard.amend t fun p => { p with attendant := o } :=
  yard_amend s t _ _ (fun _ => rfl) fun _ => rfl

theorem yard_setState_freed (s : State) (t : Nat) (st : RecordState) :
    ((s.setState t st).modRecord t Record.freed).yard = s.yard.amend t fun p => { p with state := st, attendant := none } := by
  rw [yard_amend _ t Record.freed (fun p => { p with attendant := none }) (fun _ => rfl) fun _ => rfl, yard_setState, amend_amend]
  rfl

/-! ### Suspension (R19) -/

theorem yard_suspendParker (s : State) (r : Record) :
    (s.suspendParker r).yard = s.yard.relieve (r.post.parker (s.entry? r.ticket)) .idle := by
  have hnot (h : ¬(r.state = .inbound ∧ s.hasEntry r.ticket .move = false)) : r.post.parker (s.entry? r.ticket) = none :=
    if_neg h
  unfold State.suspendParker
  split
  next a hin ha =>
    split
    next hmove => rw [hnot (by simp [hmove]), relieve_none]
    next hmove =>
      have hparker : r.post.parker (s.entry? r.ticket) = some a :=
        (if_pos ⟨hin, by simpa [State.hasEntry] using hmove⟩).trans ha
      rw [hparker, yard_suspendJob]
  next hother =>
    have hnone : r.post.parker (s.entry? r.ticket) = none := by
      unfold Post.parker
      split
      next hin =>
        refine Option.eq_none_iff_forall_ne_some.mpr fun a ha => hother a hin.1 ha
      next => rfl
    rw [hnone, relieve_none]

theorem yardKeeps_suspend (why : SuspendReason) : s.yard.Keeps c (s.suspend t why).yard := by
  cases hr : s.record? t with
  | none => exact .of_eq (by simp [State.suspend, hr])
  | some r =>
    have hyard : (s.cutLoose t r).yard =
        ((s.yard.relieve ((s.yard.post t).bind fun p => p.parker (s.yard.job t)) .idle).unjob t).leave t := by
      have ht : r.ticket = t := record?_ticket s t r hr
      rw [State.cutLoose, yard_endWindow, yard_leaveWaitList, yard_dropEntry, yard_suspendParker, post_yard hr, ht]
      rfl
    have hset (q : State) (o : Option Nat) :
        (q.modRecord t fun q => { q with call := none, attendant := o, reason := some why }).yard =
          q.yard.amend t fun p => { p with called := false, attendant := o } :=
      yard_amend q t _ _ (fun _ => rfl) fun _ => rfl
    rw [suspend_eq hr, hset, yard_setState, amend_amend, hyard]
    exact Yard.keeps_suspend (s.keyHolder r)

/-! ### Storing (R9, R10) -/

theorem yard_storedJob (s : State) (t : Nat) (o : Option Nat) :
    (s.storedJob t o).yard =
      ((if s.hasEntry t .move then s.yard.cut t else s.yard).relieve o .idle).amend t fun p => { p with state := .stored } := by
  have hmove : (s.setState t .stored).hasEntry t .move = s.hasEntry t .move := by
    rw [hasEntry_yard, yard_setState]; rfl
  have hjob : (if s.hasEntry t .move = true then (s.setState t .stored).removeEntry t else s.setState t .stored).yard =
      (if s.hasEntry t .move then s.yard.cut t else s.yard).amend t fun p => { p with state := .stored } := by
    split
    · rw [yard_removeEntry, yard_setState]; rfl
    · exact yard_setState s t _
  unfold State.storedJob
  dsimp only
  rw [hmove]
  cases o with
  | none => rw [relieve_none]; exact hjob
  | some a => rw [yard_idleBack, hjob]; rfl

theorem yardKeeps_enterStored (hr : s.record? t = some r) (hin : r.state = .inbound) :
    s.yard.Keeps c (s.enterStored t).yard := by
  have hyard : (s.enterStored t).yard = ((if s.hasEntry t .move then s.yard.cut t else s.yard).relieve r.attendant .idle).amend t
      fun p => { p with state := if r.call.isSome then .called else .stored, attendant := none } := by
    have hstored : ((s.storedJob t r.attendant).modRecord t Record.freed).yard =
        ((if s.hasEntry t .move then s.yard.cut t else s.yard).relieve r.attendant .idle).amend t
          fun p => { p with state := .stored, attendant := none } := by
      rw [yard_amend _ t Record.freed (fun p => { p with attendant := none }) (fun _ => rfl) fun _ => rfl, yard_storedJob,
        amend_amend]
      rfl
    rw [enterStored_eq hr]
    split
    · rw [yard_lookDue, yard_setState, hstored, amend_amend]; rfl
    · exact hstored
  have hp := post_yard hr
  rw [hyard]
  cases hmove : s.hasEntry t .move with
  | true => exact Yard.keeps_storeMoved hp hin hmove rfl
  | false => exact Yard.keeps_storeParked hp hin hmove rfl

theorem yardKeeps_setMarks {park key : Bool} (hr : s.record? t = some r) (hin : r.state = .inbound) :
    s.yard.Keeps c (s.setMarks t park key).yard := by
  unfold State.setMarks
  split
  · exact yardKeeps_enterStored hr hin
  · exact .of_eq (yard_modRecord s t _ (fun _ => rfl) fun _ => rfl)

theorem yardKeeps_parkConfirmed : s.yard.Keeps c (s.parkConfirmed t).yard := by
  unfold State.parkConfirmed
  split
  · exact .refl
  next hr =>
    split
    next hin => exact yardKeeps_setMarks hr hin.1
    next => exact .refl

theorem yardKeeps_freed (hr : s.record? t = some r) (hst : r.state = .suspended) :
    s.yard.Keeps c (s.modRecord t Record.freed).yard := by
  rw [yard_amend s t Record.freed (fun p => { p with attendant := none }) (fun _ => rfl) fun _ => rfl]
  exact Yard.keeps_renamed (post_yard hr) hst

theorem yardKeeps_keyHome : s.yard.Keeps c (s.keyHome t).yard := by
  cases hr : s.record? t with
  | none => exact .of_eq (by simp [State.keyHome, hr])
  | some r =>
    have hback : (s.keyIsBack t).yard = s.yard := by
      unfold State.keyIsBack
      rw [yard_lookIf]
      exact yard_modRecord s t _ (fun _ => rfl) fun _ => rfl
    have hr' : (s.keyIsBack t).record? t = some r.keyIsBack := by simp [hr]
    rw [keyHome_eq hr, ← hback]
    split
    next hin =>
      split
      · exact .refl
      · exact yardKeeps_setMarks hr' hin
    · exact .refl
    next hst => exact yardKeeps_freed hr' hst
    · exact .refl

theorem yardKeeps_keyTaken (a : Nat) : s.yard.Keeps c (s.keyTaken t a).yard := by
  unfold State.keyTaken
  split
  · exact .refl
  next hr =>
    split
    next hst =>
      rw [yard_named]
      exact Yard.keeps_renamed (post_yard hr) hst
    · exact .refl

/-! ### Jobs undone (R15) -/

theorem yard_undoJob (s : State) (t : Nat) (st : RecordState) :
    (s.undoJob t st).yard = (s.yard.mark t Yard.requeued).amend t fun p => { p with state := st, attendant := none } := by
  unfold State.undoJob
  rw [yard_requeue, yard_setState_freed]
  rfl

theorem yardKeeps_windowLapsed : s.yard.Keeps c (s.windowLapsed t).yard := by
  cases hr : s.record? t with
  | none => exact .of_eq (by simp [State.windowLapsed, hr])
  | some r =>
    obtain rfl : r.ticket = t := record?_ticket s t r hr
    by_cases hjob : s.hasJobToUndo r
    · have hp := post_yard hr
      rw [windowLapsed_undone hr hjob, yard_lapseAttendant, yard_undoJob]
      have hnamed (hsus : r.state ≠ .suspended) (hf : s.yard.Sound) (a : Nat) (ha : r.attendant = some a) :
          s.yard.worker r.ticket = some a := hf.worker_of_named hp hsus ha
      rcases hjob with hst | ⟨hst, hmove⟩
      · have hbefore : r.beforeJob = JobKind.fetch.wanted := if_pos hst
        rw [hbefore]
        exact Yard.keeps_undo hp (fun _ hf => (hf.row hp).of_fetching hst) (fun _ hf => hnamed (by simp [hst]) hf)
          (show r.state ≠ .waiting by simp [hst])
      · have hbefore : r.beforeJob = JobKind.move.wanted := if_neg (by simp [hst])
        rw [hbefore]
        refine Yard.keeps_undo hp (fun _ hf => ?_) (fun _ hf => hnamed (by simp [hst]) hf)
          (show r.state ≠ .waiting by simp [hst])
        refine ((hf.row hp).of_inbound hst).resolve_left fun hparking => ?_
        rw [hasEntry_yard] at hmove
        rcases hparking.2 with ⟨hj, -⟩ | ⟨e, hj, -, -, hkind, -⟩
        · simp [hj] at hmove
        · simp [hj, hkind] at hmove
    · rw [windowLapsed_stays hr hjob]
      exact .refl

/-! ### Removals and lapses at a hook (R76, R77, R82, R88) -/

theorem yardKeeps_keyForced : s.yard.Keeps c (s.keyForced t).yard := by
  unfold State.keyForced
  split
  · exact .refl
  · split
    · exact .refl
    · exact .of_eq (yard_modRecord s t _ (fun _ => rfl) fun _ => rfl)
    · exact yardKeeps_suspend _

theorem yardKeeps_stallEmpty (zone : Nat) : s.yard.Keeps c (s.stallEmpty t zone).yard := yardKeeps_suspend _

theorem yardKeeps_takeKey (h : Nat) (k : Hook) : s.yard.Keeps c (s.takeKey h k).yard := by
  unfold State.takeKey
  dsimp only
  split
  next a _ _ => exact (Yard.Keeps.of_eq (yard_updHook s h _)).trans (yardKeeps_keyTaken a)
  · exact .of_eq (yard_updHook s h _)

theorem yardKeeps_forceKey (h : Nat) (k : Hook) : s.yard.Keeps c (s.forceKey h k).yard := by
  unfold State.forceKey
  dsimp only
  split
  · exact (Yard.Keeps.of_eq (yard_updHook s h _)).trans yardKeeps_keyForced
  · exact .of_eq (yard_updHook s h _)

theorem yardKeeps_completeLapse (h : Nat) (k : Hook) : s.yard.Keeps c (s.completeLapse h k).yard := by
  unfold State.completeLapse
  dsimp only
  split
  · exact .of_eq (yard_updHook s h _)
  · split
    · exact (Yard.Keeps.of_eq (yard_updHook s h _)).trans yardKeeps_windowLapsed
    · exact .of_eq (yard_updHook s h _)

theorem yardKeeps_keyWentAway (t : Nat) (second : Bool) : s.yard.Keeps c (s.keyWentAway t second).yard := by
  have haway : (s.modRecord t fun q => { q with flags := { q.flags with keyAway := true } }).yard = s.yard :=
    yard_modRecord s t _ (fun _ => rfl) fun _ => rfl
  unfold State.keyWentAway
  dsimp only
  split
  · exact (Yard.Keeps.of_eq haway).trans yardKeeps_windowLapsed
  · exact .of_eq haway

theorem yardKeeps_serviceKey (h : Nat) (k : Hook) : s.yard.Keeps c (s.serviceKey h k).yard := by
  cases ht : k.bound with
  | none => exact .of_eq (by simp [State.serviceKey, ht])
  | some t =>
    rw [serviceKey_bound ht]
    exact (Yard.Keeps.of_eq (yard_updHook s h _)).trans (yardKeeps_keyWentAway t _)

theorem yardKeeps_emptyHook (h : Nat) (latched : Bool) : s.yard.Keeps c (s.emptyHook h latched).yard := by
  unfold State.emptyHook
  split
  · exact .refl
  · split
    · exact .of_eq (yard_updHook s h _)
    · split
      · exact yardKeeps_forceKey _ _
      · exact yardKeeps_takeKey _ _
    · split
      · exact yardKeeps_serviceKey _ _
      · exact yardKeeps_forceKey _ _
    · exact .refl

theorem yardKeeps_confirmLatch (h : Nat) (p : Latch) : s.yard.Keeps c (s.confirmLatch h p).yard := by
  unfold State.confirmLatch
  split
  · exact .refl
  · split
    · dsimp only
      generalize hq : s.updHook h _ = q
      have hyard : q.yard = s.yard := by rw [← hq, yard_updHook]
      rw [← hyard]
      split
      · split
        · exact yardKeeps_completeLapse _ _
        · exact .of_eq (yard_updHook _ h _)
        · exact .refl
      · exact .refl
    · exact .refl

theorem yardKeeps_expireWindow (h : Nat) : s.yard.Keeps c (s.expireWindow h).yard := by
  unfold State.expireWindow
  split
  · exact .refl
  · split
    · split
      · exact yardKeeps_completeLapse _ _
      · exact .of_eq (yard_updHook s h _)
    · exact yardKeeps_completeLapse _ _
    · exact .of_eq (yard_updHook s h _)

theorem yard_mishung (h tag : Nat) : (s.mishung h tag).yard = s.yard := by simp [State.mishung]

end Sys2Proof.Machine
end

section
/-! The end of custody, staging, the serving pass, the look and the zone reports keep the order of the queue and its agreement. -/

namespace Sys2Proof.Machine

open Sys2Proof.Safety

variable {s : State} {c : Prop} {t : Nat} {r : Record}

/-- A key comes home to a hook, or is hung where it does not belong (R73, R74). -/
theorem yardKeeps_loadHook (h tag : Nat) : s.yard.Keeps c (s.loadHook h tag).yard := by
  have hhung : s.yard.Keeps c ((s.updHook h Hook.hung).keyHome tag).yard :=
    (Yard.Keeps.of_eq (yard_updHook s h _)).trans yardKeeps_keyHome
  have hmishung : s.yard.Keeps c (s.mishung h tag).yard := .of_eq (yard_mishung h tag)
  unfold State.loadHook
  split
  · exact .refl
  · split
    · exact .refl
    · exact .refl
    · exact .refl
    · exact hmishung
    · split
      · exact hhung
      · exact hmishung
    · split
      · exact hhung
      · exact hmishung

/-! ### The end of custody, and staging (R16, R17) -/

theorem yardKeeps_retireRecord (hr : s.record? t = some r) (hst : r.state = .staged ∨ r.state = .suspended) :
    s.yard.Keeps c (s.retireRecord t).yard := by
  have hyard : (s.retireRecord t).yard = s.yard.write t none := by
    simp only [State.retireRecord, hr, yard_dropRecord, yard_unbindHook, yard_freeBay, yard_releaseStall]
  rw [hyard]
  exact Yard.keeps_drop (post_yard hr) hst

theorem yardKeeps_driveOff (b : Nat) : s.yard.Keeps c (s.driveOff b).yard := by
  unfold State.driveOff
  dsimp only
  split
  · exact .refl
  · split
    next hstaged =>
      obtain ⟨r, hr, hst⟩ := (Option.any_eq_true _ _).mp hstaged
      have hst : r.state = .staged := by simpa using hst
      exact yardKeeps_retireRecord (s := (s.modBay b _).raise .driveOff _) hr (.inl hst)
    · exact .refl

theorem yardKeeps_stagedOk (hr : s.record? t = some r) (hst : r.state = .fetching) (b : Nat) :
    s.yard.Keeps c (s.stagedOk t b).yard := by
  have hbay : (s.inBay t b).yard = s.yard.amend t fun p => { p with state := .staged, called := false, attendant := none } := by
    have hset (q : State) (flags : Record → RecordFlags) :
        (q.modRecord t fun x => { x with bay := some b, call := none, attendant := none, flags := flags x }).yard =
          q.yard.amend t fun p => { p with called := false, attendant := none } :=
      yard_amend q t _ _ (fun _ => rfl) fun _ => rfl
    unfold State.inBay
    rw [hset, yard_setState, amend_amend]
    rfl
  have hyard : (s.stagedOk t b).yard = ((s.yard.cut t).relieve r.attendant .idle).amend t
      fun p => { p with state := .staged, called := false, attendant := none } := by
    have hin : (s.stagedIn t b r.hook).yard =
        (s.yard.cut t).amend t fun p => { p with state := .staged, called := false, attendant := none } := by
      unfold State.stagedIn
      rw [yard_updHook, yard_removeEntry, yard_releaseStall, hbay]
      rfl
    rw [stagedOk_eq hr]
    cases r.attendant with
    | none => rw [relieve_none]; exact hin
    | some a => rw [yard_idleBack, hin]; rfl
  rw [hyard]
  exact Yard.keeps_staged (post_yard hr) hst

/-! ### The serving pass (R51, R52) -/

theorem yard_grant (s : State) (r : Record) (y : StallId) (fallback : Bool) :
    (s.grant r y fallback).yard =
      ((s.yard.leave r.ticket).amend r.ticket fun p => { p with state := .granted }).put (r.moveEntry s.sa.clock) := by
  rw [grant_eq, yard_announceGrant, yard_addEntry, State.granting, yard_noteFallback, yard_setState, yard_holdStall]
  rfl

theorem ordered_grant (y : StallId) (fallback : Bool) (h : s.yard.Ordered) : (s.grant r y fallback).yard.Ordered := by
  rw [yard_grant]
  exact pairwise_insertEntry _ h

theorem yardSound_grant (hr : s.record? r.ticket = some r) (hst : r.state = .waiting) (hroom : s.jq.entries.length < 64)
    (y : StallId) (fallback : Bool) (hs : s.yard.Sound) : (s.grant r y fallback).yard.Sound := by
  rw [yard_grant]
  refine (Yard.keeps_fileWaiting (c := True) (k := .move) (post_yard hr) hst ⟨rfl, rfl, rfl, rfl, rfl⟩ (fun hcall => ?_)
    hroom).2 trivial hs
  rw [hcall]
  rfl

/-- A pass over places of the wait list, each once: every record served is still WAITING when its turn comes (R51). -/
theorem yardSound_serveList (l : List Nat) (hnodup : l.Nodup) (hwait : ∀ t ∈ l, t ∈ s.sm.waitList) (hs : s.yard.Sound) :
    (s.serveList l).yard.Sound := by
  induction l generalizing s with
  | nil => exact hs
  | cons t ts ih =>
    obtain ⟨hnew, hnodup⟩ := List.nodup_cons.mp hnodup
    have hskip : (s.serveList ts).yard.Sound := ih hnodup (fun u hu => hwait u (List.mem_cons_of_mem t hu)) hs
    unfold State.serveList
    split
    · exact hs
    next hroom =>
      split
      · exact hskip
      next r hr =>
        split
        · split
          next y fallback hfound =>
            have ht : r.ticket = t := record?_ticket s t r hr
            obtain ⟨p, hp, hst⟩ := hs.waiting t (hwait t List.mem_cons_self)
            obtain rfl : r.post = p := Option.some.inj ((post_yard hr).symm.trans hp)
            refine ih hnodup (fun u hu => ?_) (yardSound_grant (ht ▸ hr) hst (Nat.lt_of_not_le hroom) y fallback hs)
            have hne : u ≠ t := fun h => hnew (h ▸ hu)
            simp [ht, hne, hwait u (List.mem_cons_of_mem t hu)]
          · exact hskip
        · exact hskip

theorem yardKeeps_servePass : s.yard.Keeps c s.servePass.yard :=
  ⟨fun hs => serveList_induction (P := fun q => q.yard.Ordered) hs fun _ _ y fallback _ _ => ordered_grant y fallback,
    fun _ hs => yardSound_serveList _ hs.nodup (fun _ => id) hs⟩

/-! ### The look (R119) -/

theorem yard_offer (s : State) (e : Entry) (a : Nat) :
    (s.offer e a).yard = (s.yard.mark e.ticket (Yard.offeredTo a)).relieve (some a) .offered := by
  have hoffer : ∀ x, (((s.modEntry e.ticket fun g => { g with status := .offered, attendant := some a }).leaveIdle a
      .offered).modAttendant a fun y => { y with ack := some x }).yard =
      (s.yard.mark e.ticket (Yard.offeredTo a)).relieve (some a) .offered := fun x => by
    rw [yard_modAttendant _ a (fun y => { y with ack := some x }) fun _ => rfl, yard_leaveIdle]
    rfl
  unfold State.offer
  dsimp only
  split
  · exact hoffer _
  · rw [yard_sendTo]; exact hoffer _

/-- The record of a ready entry waits for an attendant (R103, R106). -/
theorem wanted_of_ready {e : Entry} (h : s.ready e = true) : ∃ r, s.record? e.ticket = some r ∧ r.state = e.kind.wanted := by
  obtain ⟨-, hunmet⟩ := ready_iff.mp h
  cases hr : s.record? e.ticket with
  | none => cases hkind : e.kind <;> simp [State.unmet, hr, hkind] at hunmet
  | some r =>
    refine ⟨r, rfl, ?_⟩
    cases hkind : e.kind with
    | fetch => exact (unmetFetch_iff.1.mp (unmet_fetch hr hkind ▸ hunmet)).1
    | move => exact (unmetMove_iff.1.mp (unmet_move hr hkind ▸ hunmet)).1

theorem yardKeeps_offer {e : Entry} {a : Nat} (he : e ∈ s.jq.entries) (hready : s.ready e = true)
    (heligible : s.eligible a = true) : s.yard.Keeps c (s.offer e a).yard := by
  rw [yard_offer]
  obtain ⟨r, hr, hst⟩ := wanted_of_ready hready
  refine Yard.keeps_offer (fun _ h => ⟨r.post, e, post_yard hr, entry?_of_mem h.fits.2 he, hst⟩) ?_
  exact (duty_eq_some (by decide)).mpr ((eligible_iff a).mp heligible).1

theorem yardKeeps_lookLoop (n : Nat) : s.yard.Keeps c (s.lookLoop n).yard := by
  induction n generalizing s with
  | zero => exact .refl
  | succ n ih =>
    unfold State.lookLoop
    split
    next e a he ha =>
      exact (yardKeeps_offer (List.mem_of_find?_eq_some he) (List.find?_some he) (List.find?_some ha)).trans ih
    · exact .refl

theorem yardKeeps_finish : s.yard.Keeps c s.finish.yard := by
  have hserve : s.yard.Keeps c s.serveStep.yard := by
    unfold State.serveStep
    split
    · exact yardKeeps_servePass
    · exact .refl
  have hlook (q : State) : q.yard.Keeps c q.lookStep.yard := by
    unfold State.lookStep State.look
    split
    · split
      · exact yardKeeps_lookLoop _
      · exact .refl
    · exact .refl
  exact hserve.trans (hlook s.serveStep)

/-! ### Zone reports and silence (R60 to R67) -/

theorem yardKeeps_heldVacant (z i : Nat) (x : Stall) (t : Nat) : s.yard.Keeps c (s.heldVacant z i x t).yard := by
  unfold State.heldVacant
  dsimp only
  generalize hq : s.modStall z i _ = q
  have hyard : q.yard = s.yard := by rw [← hq]; rfl
  rw [← hyard]
  split
  · split
    · exact .of_eq (yard_releaseStall q t)
    · exact yardKeeps_stallEmpty z
    · exact yardKeeps_stallEmpty z
    · exact .refl
  · exact .refl

theorem yardKeeps_heldOccupied (z i t : Nat) : s.yard.Keeps c (s.heldOccupied z i t).yard := by
  unfold State.heldOccupied
  generalize hq : s.modStall z i _ = q
  have hyard : q.yard = s.yard := by rw [← hq]; rfl
  rw [← hyard]
  exact yardKeeps_parkConfirmed

theorem yard_freeVacant (z i : Nat) (x : Stall) : (s.freeVacant z i x).yard = s.yard := by
  unfold State.freeVacant
  rw [yard_serveIf]
  rfl

theorem yard_freeOccupied (z i : Nat) (x : Stall) : (s.freeOccupied z i x).yard = s.yard := by
  unfold State.freeOccupied
  dsimp only
  split <;> rfl

theorem yardKeeps_takeStall (z : Nat) (occupied : BitVec 96) (i : Nat) :
    s.yard.Keeps c (State.takeStall z occupied s i).yard := by
  unfold State.takeStall
  split
  · exact .refl
  next x hx =>
    split
    · exact yardKeeps_heldOccupied z i _
    · exact yardKeeps_heldVacant z i x _
    · exact .of_eq (yard_freeOccupied z i x)
    · exact .of_eq (yard_freeVacant z i x)

theorem yardKeeps_foldl {α : Type} (f : State → α → State) (hf : ∀ (p : State) a, p.yard.Keeps c (f p a).yard) (l : List α) :
    s.yard.Keeps c (l.foldl f s).yard := by
  induction l generalizing s with
  | nil => exact .refl
  | cons a l ih => exact (hf s a).trans ih

theorem yardKeeps_takeReport (z : Nat) (occupied : BitVec 96) : s.yard.Keeps c (s.takeReport z occupied).yard :=
  (Yard.Keeps.of_eq (by simp [State.hearZone])).trans
    (yardKeeps_foldl (s := s.hearZone z) _ (fun _ i => yardKeeps_takeStall z occupied i) _)

theorem yard_silence (z : Nat) : (s.silence z).yard = s.yard := by
  unfold State.silence
  simp

end Sys2Proof.Machine
end

section
/-! Calls, replies to an offer, the RESOLVE commands, ACCEPT and REPARK keep the order of the queue and its agreement. -/

namespace Sys2Proof.Machine

open Sys2Proof.Safety

variable {s : State} {c : Prop} {t a : Nat} {r : Record}

/-! ### Calls (R12, R13, R99 to R101) -/

theorem yard_setCall (s : State) (t : Nat) (x : CallField) :
    (s.setCall t x).yard = s.yard.amend t fun p => { p with called := true } :=
  yard_amend s t _ _ (fun _ => rfl) fun _ => rfl

theorem files_ofCall (r : Record) (x : CallField) : Yard.Files (Entry.ofCall r x) r.ticket r.post .fetch :=
  ⟨rfl, rfl, rfl, rfl, rfl⟩

/-- A new call, where CALL's own checks let it through (R98). -/
theorem yardKeeps_newCall (hr : s.record? r.ticket = some r) (x : CallField)
    (hright : ¬(r.state = .fetching ∨ r.state = .staged ∨ r.state = .suspended ∨
      (r.state = .inbound ∧ s.hasEntry r.ticket .move = true)))
    (hjob : (∃ e, s.entry? r.ticket = some e ∧ e.kind = .move) ∨ (s.entry? r.ticket = none ∧ s.jq.entries.length < 64)) :
    s.yard.Keeps c (s.newCall r x).yard := by
  have hp := post_yard hr
  have hyard : (s.newCall r x).yard = ((s.leaveForCall r).yard.amend r.ticket fun p => { p with called := true }).put
      (Entry.ofCall r x) := by
    rw [newCall_eq, yard_addEntry, yard_setCall]
  have hcalled (q : State) : ((q.setState r.ticket .called).yard.amend r.ticket fun p => { p with called := true }) =
      q.yard.amend r.ticket fun p => { p with state := .called, called := true } := by
    rw [yard_setState, amend_amend]; rfl
  have hput (q : Yard) (hq : Yard.Rewrites r.ticket s.yard.queue q.queue) (h : s.yard.Sound → False) :
      s.yard.Keeps c (q.put (Entry.ofCall r x)) := .absurd (.put hq _ rfl) fun _ => h
  rw [hyard, State.leaveForCall]
  cases hst : r.state with
  | waiting =>
    rcases hjob with ⟨e, he, -⟩ | ⟨-, hroom⟩
    · refine hput _ (by dsimp only; rw [hcalled]; exact .same) fun h => ?_
      have hnone := ((h.row hp).resting (.inl hst)).1
      rw [job_yard, he] at hnone
      cases hnone
    · dsimp only
      rw [hcalled]
      exact Yard.keeps_fileWaiting (k := .fetch) hp hst (files_ofCall r x) (fun _ => rfl) hroom
  | stored =>
    rcases hjob with ⟨e, he, -⟩ | ⟨-, hroom⟩
    · refine hput _ (by dsimp only; rw [hcalled]; exact .same) fun h => ?_
      have hnone := ((h.row hp).resting (.inr (.inl hst))).1
      rw [job_yard, he] at hnone
      cases hnone
    · dsimp only
      rw [hcalled]
      exact Yard.keeps_callStored hp hst (files_ofCall r x) hroom
  | granted =>
    dsimp only
    rw [hcalled, yard_releaseStall, yard_dropEntry]
    exact Yard.keeps_callGranted hp hst (files_ofCall r x)
  | inbound =>
    rcases hjob with ⟨e, he, hkind⟩ | ⟨hnone, hroom⟩
    · exact absurd (.inr (.inr (.inr ⟨hst, hasEntry_iff.mpr ⟨e, he, hkind⟩⟩))) hright
    · exact Yard.keeps_callEarly hp hst (files_ofCall r x) hroom hnone
  | called =>
    refine hput _ (by dsimp only; rw [hcalled]; exact .same) fun h => ?_
    obtain ⟨-, -, e, he, -, hkind, -⟩ := (h.row hp).wanting (k := .fetch) hst
    rcases hjob with ⟨e', he', hkind'⟩ | ⟨hnone, -⟩
    · rw [job_yard, he'] at he
      rw [← Option.some.inj he, hkind'] at hkind
      cases hkind
    · rw [job_yard, hnone] at he
      cases he
  | fetching => exact absurd (.inl hst) hright
  | staged => exact absurd (.inr (.inl hst)) hright
  | suspended => exact absurd (.inr (.inr (.inl hst))) hright

/-- An upgrade of a call that stands in the queue (R99). -/
theorem yardKeeps_upgradeCall {e : Entry} (he : s.entry? t = some e) (tier : Nat) :
    s.yard.Keeps c (s.upgradeCall t tier).yard := by
  have hyard : (s.upgradeCall t tier).yard = (s.yard.cut t).put { e with tier := tier } := by
    unfold State.upgradeCall
    rw [upgradeEntry_some he]
    refine (yard_modRecord _ t (Record.upgraded tier) (fun _ => rfl) fun r => ?_).trans rfl
    cases hc : r.call <;> simp [Record.post, Record.upgraded, hc]
  rw [hyard]
  have ht : e.ticket = t := entry?_ticket s he
  exact Yard.keeps_upgrade (e' := { e with tier := tier }) he ht rfl rfl rfl rfl

theorem yard_uncall (s : State) (t : Nat) :
    (s.uncall t).yard = (s.yard.unjob t).amend t fun p => { p with called := false } := by
  unfold State.uncall
  rw [yard_amend _ t (fun q => { q with call := none }) (fun p => { p with called := false }) (fun _ => rfl) fun _ => rfl,
    yard_dropEntry]

/-- A call is cancelled that no attendant has taken (R13, R101). -/
theorem yardKeeps_cancelCall {e : Entry} (hr : s.record? r.ticket = some r) (he : s.entry? r.ticket = some e)
    (hkind : e.kind = .fetch) (hst : e.status ≠ .taken) : s.yard.Keeps c (s.cancelCall r).yard := by
  have hp := post_yard hr
  by_cases hcalled : r.state = .called
  · by_cases hstall : r.stall = none
    · rw [cancelCall_waiting hcalled hstall, yard_serveDue, yard_enterWaiting, yard_uncall, amend_amend]
      exact Yard.keeps_cancelWaiting hp hcalled
    · rw [cancelCall_stored hcalled hstall, yard_setState, yard_uncall, amend_amend]
      exact Yard.keeps_cancelCalled hp hcalled rfl
  · rw [cancelCall_stays hcalled, yard_uncall]
    exact Yard.keeps_cancelEarly hp he hkind hst hcalled

/-! ### Replies to an offer (R14, R120, R121) -/

/-- An offer is taken by the attendant it was made to. -/
theorem yardKeeps_takeJob {e : Entry} (hr : s.record? r.ticket = some r) (he : s.entry? r.ticket = some e)
    (hst : e.status = .offered) (ha : e.attendant = some a) : s.yard.Keeps c (s.takeJob r e a).yard := by
  have hp := post_yard hr
  by_cases hjob : (e.kind = .fetch ∧ r.state = .called) ∨ (e.kind = .move ∧ r.state = .granted)
  · have hyard : (s.takenJob r.ticket e.kind a).yard = ((s.yard.mark r.ticket Yard.taken).relieve (some a) e.kind.working).amend
        r.ticket fun p => { p with state := e.kind.underway, attendant := some a } := by
      unfold State.takenJob
      rw [yard_named, yard_setState, amend_amend, yard_leaveIdle]
      rfl
    rw [takeJob_eq hjob, yard_requestWindow, hyard]
    exact Yard.keeps_take hp he hst ha
  · have hstays : s.takeJob r e a = (s.modEntry r.ticket fun g => { g with status := .taken }).leaveIdle a e.kind.working := by
      unfold State.takeJob State.acked
      split
      next hkind hcalled => exact absurd (.inl ⟨hkind, hcalled⟩) hjob
      next hkind hgranted => exact absurd (.inr ⟨hkind, hgranted⟩) hjob
      · rfl
    rw [hstays, yard_leaveIdle]
    refine .absurd (.mark .same Yard.taken (fun _ => rfl) fun _ => ⟨rfl, rfl, rfl⟩) fun _ h => hjob ?_
    have hrow := h.stands r.ticket
    rw [job_yard, he] at hrow
    obtain ⟨p, -, hp', hstate, -⟩ := hrow.of_offered hst
    obtain rfl : r.post = p := Option.some.inj (hp.symm.trans hp')
    have hstate : r.state = e.kind.wanted := hstate
    rw [hstate]
    cases e.kind
    · exact .inl ⟨rfl, rfl⟩
    · exact .inr ⟨rfl, rfl⟩

/-- An offer is declined by the attendant it was made to. -/
theorem yardKeeps_decline {e : Entry} (he : s.entry? t = some e) (hst : e.status = .offered) (ha : e.attendant = some a) :
    s.yard.Keeps c ((s.requeue t).idleBack a).yard := by
  rw [yard_idleBack, yard_requeue]
  exact Yard.keeps_requeue fun _ _ => ⟨e, he, hst, ha⟩

/-- No answer to an offer came in time (R120). -/
theorem yardKeeps_ackTimeout (ha : (s.attendant a).state = .offered) : s.yard.Keeps c (s.ackTimeout a).yard := by
  have hduty : s.yard.duty a = some .offered := (duty_eq_some (by decide)).mpr ha
  unfold State.ackTimeout
  dsimp only
  rw [yard_raise, yard_leaveIdle]
  split
  next hnone =>
    refine Yard.keeps_relieve fun _ h b hb t hw => ?_
    obtain rfl : a = b := Option.some.inj hb
    obtain ⟨e, he, hst, hea⟩ := (h.stands t).offered_of_worker hw hduty
    have hfound := List.find?_eq_none.mp hnone e (entry?_mem he)
    simp [hst, hea] at hfound
  next e he =>
    rw [yard_requeue]
    have hea : e.attendant = some a := by
      have hfound := List.find?_some he
      rw [Bool.and_eq_true, beq_iff_eq] at hfound
      exact hfound.2
    refine Yard.keeps_requeue fun _ h => ?_
    have hj : s.yard.job e.ticket = some e := entry?_of_mem h.fits.2 (List.mem_of_find?_eq_some he)
    have hw : workerOf (s.yard.post e.ticket) (s.yard.job e.ticket) = some a := by rw [hj]; exact workerOf_entry hea
    obtain ⟨e', he', hst, -⟩ := (h.stands e.ticket).offered_of_worker hw hduty
    obtain rfl : e = e' := Option.some.inj (hj.symm.trans he')
    exact ⟨e, hj, hst, hea⟩

end Sys2Proof.Machine
end

section
/-! ABANDON, the RESOLVE commands, ACCEPT, REPARK and the roster messages keep the order of the queue and its agreement. -/

namespace Sys2Proof.Machine

open Sys2Proof.Safety

variable {s : State} {c : Prop} {t a : Nat} {r : Record}

/-- A fetch is abandoned by the attendant that may act on the record (R126, R127). -/
theorem yardKeeps_abandon (hr : s.record? t = some r) (hst : r.state = .fetching)
    (hact : s.acting r = none ∨ s.acting r = some a) : s.yard.Keeps c ((s.undoJob t .called).idleBack a).yard := by
  obtain rfl : r.ticket = t := record?_ticket s t r hr
  have hp := post_yard hr
  rw [yard_idleBack, yard_undoJob]
  refine Yard.keeps_undo (k := .fetch) hp (fun _ h => (h.row hp).of_fetching hst) (fun _ h b hb => ?_)
    (show r.state ≠ .waiting by simp [hst])
  obtain rfl : a = b := Option.some.inj hb
  obtain ⟨-, e, b, hj, -, -, -, htaken, hsome, -⟩ := (h.row hp).of_fetching hst
  have hacting : s.acting r = some b := by
    have he : s.entry? r.ticket = some e := hj
    simp [State.acting, he, htaken, hsome]
  obtain rfl : b = a := by
    rcases hact with hact | hact <;> rw [hacting] at hact
    · cases hact
    · exact Option.some.inj hact
  unfold Yard.worker
  rw [hj]
  exact workerOf_entry hsome

/-! ### The RESOLVE commands (R22, R23) -/

theorem yard_clearSuspension (s : State) (t : Nat) :
    (s.clearSuspension t).yard = s.yard.amend t fun p => { p with attendant := none } :=
  yard_amend s t _ _ (fun _ => rfl) fun _ => rfl

theorem yardKeeps_resolvedStored (hr : s.record? t = some r) (hst : r.state = .suspended) :
    s.yard.Keeps c ((s.setState t .stored).clearSuspension t).yard := by
  rw [yard_clearSuspension, yard_setState, amend_amend]
  exact Yard.keeps_resolveStored (post_yard hr) hst

theorem yardKeeps_resolvedWaiting (hr : s.record? t = some r) (hst : r.state = .suspended) :
    s.yard.Keeps c ((((s.releaseStall t).clearSuspension t).enterWaiting t).serveDue).yard := by
  rw [yard_serveDue, yard_enterWaiting, yard_clearSuspension, yard_releaseStall, amend_amend]
  exact Yard.keeps_resolveWaiting (post_yard hr) hst

theorem yard_placeInStray (y : StallId) (x : Stall) : (s.placeInStray r y x).yard = s.yard := by
  have hmisfit (q : State) :
      (q.modRecord r.ticket fun q => { q with flags := { q.flags with misfit := true } }).yard = q.yard :=
    yard_modRecord q _ _ (fun _ => rfl) fun _ => rfl
  unfold State.placeInStray
  dsimp only
  split <;> simp [hmisfit]

theorem yardKeeps_resolvedMoveTo (hr : s.record? r.ticket = some r) (hst : r.state = .suspended) (y : StallId) (x : Stall) :
    s.yard.Keeps c ((((s.placeInStray r y x).setState r.ticket .stored).clearSuspension r.ticket).serveDue).yard := by
  rw [yard_serveDue, yard_clearSuspension, yard_setState, amend_amend, yard_placeInStray]
  exact Yard.keeps_resolveStored (post_yard hr) hst

/-! ### ACCEPT and REPARK (R8, R18) -/

theorem record?_nextTicket (hlen : s.ct.records.length < 1024) : s.record? s.nextTicket = none :=
  List.find?_eq_none.mpr fun q hq => by simpa using (nextTicket_spec hlen).2.2 q hq

theorem yard_enrol (hlen : s.ct.records.length < 1024) (f : Arrival) (hook : Nat) (found : Bool) (sender : Option Nat) :
    (s.enrol f hook found sender).yard =
      s.yard.write s.nextTicket (some (s.newRecord f hook found sender).post) := by
  have hct : (s.enrol f hook found sender).ct.records = insertRecord (s.newRecord f hook found sender) s.ct.records := by
    simp [State.enrol, State.addRecord]
  have hjq : (s.takeArrival f.lane).jq = s.jq := by cases f.lane <;> rfl
  refine Yard.ext (by simp [State.yard]) (funext fun u => ?_) (by simp [State.yard, State.enrol, State.addRecord, hjq]) ?_
  · show ((s.enrol f hook found sender).record? u).map Record.post = if u = s.nextTicket then _ else (s.record? u).map Record.post
    by_cases hu : u = s.nextTicket
    · rw [hu, record?_enrol s f hook found sender hlen, if_pos rfl]
      rfl
    · rw [if_neg hu, State.record?, hct, find?_insertRecord_other _ _ _ (show s.nextTicket ≠ u from Ne.symm hu)]
      rfl
  · show (s.enrol f hook found sender).duty = s.duty
    unfold State.duty
    rw [(State.enrol_frame s f hook found sender).2.1]

/-- A car accepted to a stall or to the wait list, from the desk or from an IDLE attendant (R7, R8). -/
theorem yardKeeps_acceptCar (hlen : s.ct.records.length < 1024) (f : Arrival) (hook : Nat) (found : Option (StallId × Bool))
    {sender : Option Nat} (hidle : ∀ a, sender = some a → (s.attendant a).state = .idle) :
    s.yard.Keeps c (s.acceptCar f hook found sender).yard := by
  have hfresh : s.yard.post s.nextTicket = none := by
    show (s.record? s.nextTicket).map Record.post = none
    rw [record?_nextTicket hlen]
    rfl
  cases found with
  | none =>
    rw [acceptCar_none, yard_joinWaitList, yard_enrol hlen]
    exact Yard.keeps_acceptWaiting (fun _ => hfresh) rfl rfl rfl
  | some p =>
    obtain ⟨y, fallback⟩ := p
    rw [acceptCar_some, yard_startParking, yard_noteFallback, yard_holdStall, yard_enrol hlen]
    exact Yard.keeps_accept (fun _ => hfresh) rfl rfl rfl fun a ha => (duty_eq_some (by decide)).mpr (hidle a ha)

/-- A STAGED car taken back by an IDLE attendant, to a stall or to the wait list (R18). -/
theorem yardKeeps_reparkCar (hr : s.record? r.ticket = some r) (hst : r.state = .staged)
    (hidle : (s.attendant a).state = .idle) (found : Option (StallId × Bool)) :
    s.yard.Keeps c (s.reparkCar r a found).yard := by
  have hyard : (s.reparked r a).yard = s.yard := by
    unfold State.reparked
    rw [yard_reparkHook, yard_modRecord _ _ Record.leftBay (fun _ => rfl) fun _ => rfl, yard_freeBay]
  cases found with
  | none =>
    rw [reparkCar_none, yard_enterWaiting, hyard]
    exact Yard.keeps_reparkWaiting (post_yard hr) hst
  | some p =>
    obtain ⟨y, fallback⟩ := p
    have hinto : (s.reparkedInto r a y fallback).yard =
        s.yard.amend r.ticket fun p => { p with state := .inbound, attendant := some a } := by
      unfold State.reparkedInto
      rw [yard_named, yard_noteFallback, yard_holdStall, yard_setState, amend_amend, hyard]
      rfl
    rw [reparkCar_some, yard_startParking, hinto]
    exact Yard.keeps_repark (post_yard hr) hst ((duty_eq_some (by decide)).mpr hidle)

/-! ### The roster messages (R114 to R116) -/

/-- An attendant with no work takes another state. -/
theorem yardKeeps_relieve {q : State} {st : AttendantState} (hyard : q.yard = s.yard.relieve (some a) st)
    (hfree : (s.attendant a).state = .idle ∨ (s.attendant a).state = .away ∨ (s.attendant a).state = .off) :
    s.yard.Keeps c q.yard := by
  rw [hyard]
  refine Yard.keeps_relieve fun _ h b hb t => ?_
  obtain rfl : a = b := Option.some.inj hb
  refine h.not_worker fun hbusy => ?_
  have hnot {w : AttendantState} (hw : w ≠ .off) (hat : s.yard.duty a = some w) : (s.attendant a).state = w :=
    (duty_eq_some hw).mp hat
  rcases hbusy with hat | hat | hat | hat <;>
    simp [hnot (by decide) hat] at hfree

theorem yard_signOn (s : State) (identity : Nat) :
    ((s.modAttendant a fun e => { e with handset := some identity }).idleBack a).yard = s.yard.relieve (some a) .idle := by
  rw [yard_idleBack, yard_modAttendant _ a (fun e => { e with handset := some identity }) fun _ => rfl]

theorem yard_signOff (s : State) : (s.signOff a).yard = s.yard.relieve (some a) .off := by
  unfold State.signOff
  rw [yard_modAttendant _ a (fun e => { e with handset := none }) fun _ => rfl, yard_leaveIdle]

end Sys2Proof.Machine
end

section
/-! The restart (R25, R110, R184) and the second of the crystal keep the order of the queue and its agreement. -/

namespace Sys2Proof.Machine

open Sys2Proof.Safety

variable {s : State} {c : Prop} {t a : Nat} {r : Record}

/-! ### The queue rebuilt (R110) -/

/-- Entries joined one after the other stand in queue order. -/
theorem pairwise_insertAll (l : List Entry) : ∀ {q : List Entry}, (q.Pairwise fun e g => g.before e = false) →
    (l.foldl (fun l e => insertEntry e l) q).Pairwise fun e g => g.before e = false := by
  induction l with
  | nil => exact id
  | cons e l ih => exact fun hq => ih (pairwise_insertEntry e hq)

theorem perm_insertEntry (e : Entry) (l : List Entry) : (insertEntry e l).Perm (e :: l) := by
  induction l with
  | nil => exact .refl _
  | cons g gs ih =>
    unfold insertEntry
    split
    · exact .refl _
    · exact (ih.cons g).trans (.swap e g gs)

theorem perm_insertAll (l : List Entry) : ∀ q : List Entry, (l.foldl (fun l e => insertEntry e l) q).Perm (l ++ q) := by
  induction l with
  | nil => exact fun q => .refl q
  | cons e l ih =>
    intro q
    exact (ih (insertEntry e q)).trans (((perm_insertEntry e q).append_left l).trans List.perm_middle)

/-- The entries rebuilt for the records (R110). -/
def State.rebuiltEntries (s : State) : List Entry := (s.ct.records.map s.reconciled).filterMap (Record.rebuilt s.volatileReset.sa.clock)

theorem beginRecovery_jq (q : State) : q.beginRecovery.jq = q.jq := by
  unfold State.beginRecovery State.endRecovery
  repeat' split
  all_goals rfl

theorem restarted_entries (s : State) : s.restarted.jq.entries = s.rebuiltEntries.foldl (fun l e => insertEntry e l) [] := by
  rw [State.restarted, beginRecovery_jq]
  rfl

theorem restarted_perm (s : State) : s.restarted.jq.entries.Perm s.rebuiltEntries := by
  rw [restarted_entries]
  exact (perm_insertAll _ []).trans (by rw [List.append_nil])

theorem rebuilt_ticket {now : Time} {e : Entry} (h : r.rebuilt now = some e) : e.ticket = r.ticket := by
  unfold Record.rebuilt at h
  split at h <;> cases h <;> rfl

theorem mem_rebuiltEntries {e : Entry} :
    e ∈ s.rebuiltEntries ↔ ∃ r ∈ s.ct.records, (s.reconciled r).rebuilt s.volatileReset.sa.clock = some e := by
  simp [State.rebuiltEntries]

theorem rebuiltEntries_nodup (htable : TableSound s) : (s.rebuiltEntries.map Entry.ticket).Nodup := by
  have hrecords : (s.ct.records.map s.reconciled).Pairwise fun r q => r.ticket ≠ q.ticket :=
    List.pairwise_map.mpr (htable.2.2.imp fun h => by simpa using h)
  refine List.pairwise_map.mpr (hrecords.filterMap _ fun r q hne e he g hg => ?_)
  rw [rebuilt_ticket he, rebuilt_ticket hg]
  exact hne

theorem restarted_nodup (htable : TableSound s) : (s.restarted.jq.entries.map Entry.ticket).Nodup :=
  ((restarted_perm s).map _).nodup_iff.mpr (rebuiltEntries_nodup htable)

/-- The entry of a ticket after the restart is the one rebuilt for its record. -/
theorem entry?_restarted (htable : TableSound s) (t : Nat) :
    s.restarted.entry? t = (s.record? t).bind fun r => (s.reconciled r).rebuilt s.volatileReset.sa.clock := by
  have hmem {r : Record} {e : Entry} (hr : r ∈ s.ct.records) (he : (s.reconciled r).rebuilt s.volatileReset.sa.clock = some e) :
      s.restarted.entry? e.ticket = some e :=
    entry?_of_mem (restarted_nodup htable) ((restarted_perm s).mem_iff.mpr (mem_rebuiltEntries.mpr ⟨r, hr, he⟩))
  cases hr : s.record? t with
  | none =>
    refine Option.eq_none_iff_forall_ne_some.mpr fun e he => ?_
    obtain ⟨r, hr', hre⟩ := mem_rebuiltEntries.mp ((restarted_perm s).mem_iff.mp (entry?_mem he))
    have ht : r.ticket = t := by rw [← entry?_ticket s.restarted he, rebuilt_ticket hre, State.reconciled_ticket]
    rw [← ht, record?_of_mem htable hr'] at hr
    cases hr
  | some r =>
    obtain rfl : r.ticket = t := record?_ticket s t r hr
    show s.restarted.entry? r.ticket = (s.reconciled r).rebuilt s.volatileReset.sa.clock
    cases hre : (s.reconciled r).rebuilt s.volatileReset.sa.clock with
    | some e =>
      have he := hmem (List.mem_of_find?_eq_some hr) hre
      rwa [rebuilt_ticket hre, State.reconciled_ticket] at he
    | none =>
      refine Option.eq_none_iff_forall_ne_some.mpr fun e he => ?_
      obtain ⟨r', hr', hre'⟩ := mem_rebuiltEntries.mp ((restarted_perm s).mem_iff.mp (entry?_mem he))
      have ht : r'.ticket = r.ticket := by rw [← entry?_ticket s.restarted he, rebuilt_ticket hre', State.reconciled_ticket]
      rw [← ht, record?_of_mem htable hr'] at hr
      rw [← Option.some.inj hr, hre'] at hre
      cases hre

/-! ### Records reconciled (R25) -/

/-- A record that no attendant is at work on, as a restart leaves it: what its state says of its call. -/
def Record.AtRest (r : Record) : Prop :=
  match r.state with
  | .waiting => r.call = none ∧ r.attendant = none
  | .stored => r.call = none ∧ r.attendant = none
  | .staged => r.call = none ∧ r.attendant = none
  | .suspended => r.call = none
  | .inbound => r.attendant = none
  | .called => r.call ≠ none ∧ r.attendant = none
  | .granted => r.call = none ∧ r.attendant = none
  | .fetching => False

/-- With the entry rebuilt for it a record at rest stands in a row, and nobody works on it. -/
theorem stands_rebuilt {duty : Nat → Option AttendantState} {now : Time} (h : r.AtRest) :
    Stands duty (some r.post) (r.rebuilt now) ∧ workerOf (some r.post) (r.rebuilt now) = none := by
  have hworker (hnone : r.attendant = none) : workerOf (some r.post) (r.rebuilt now) = none := by
    unfold workerOf
    have hjob : (r.rebuilt now).bind Entry.attendant = none := by
      unfold Record.rebuilt
      split <;> rfl
    rw [hjob]
    simp [Post.named, Record.post, hnone]
  have huncalled (hcall : r.call = none) : r.post.called = false := Post.not_called_iff.mpr hcall
  have settled (hst : r.state = .waiting ∨ r.state = .stored ∨ r.state = .staged) (h : r.call = none ∧ r.attendant = none) :
      Stands duty (some r.post) (r.rebuilt now) ∧ workerOf (some r.post) (r.rebuilt now) = none := by
    have hre : r.rebuilt now = none := by rcases hst with hst | hst | hst <;> simp [Record.rebuilt, hst]
    exact ⟨hre ▸ .settled hst (huncalled h.1) h.2, hworker h.2⟩
  unfold Record.AtRest at h
  cases hst : r.state with
  | waiting => simp only [hst] at h; exact settled (.inl hst) h
  | stored => simp only [hst] at h; exact settled (.inr (.inl hst)) h
  | staged => simp only [hst] at h; exact settled (.inr (.inr hst)) h
  | suspended =>
    simp only [hst] at h
    have hre : r.rebuilt now = none := by simp [Record.rebuilt, hst]
    exact ⟨hre ▸ .aside hst (huncalled h), by rw [hre]; simp [workerOf, Post.named, Record.post, hst]⟩
  | inbound =>
    simp only [hst] at h
    have hnobody (a : Nat) (ha : r.post.attendant = some a) : duty a = some .parking := by
      have hnone : r.post.attendant = none := h
      rw [hnone] at ha
      cases ha
    cases hcall : r.call with
    | none =>
      have hre : r.rebuilt now = none := by simp [Record.rebuilt, hst, hcall]
      exact ⟨hre ▸ .parking hst (huncalled hcall) hnobody, hworker h⟩
    | some x =>
      have hre : r.rebuilt now = some (Entry.ofCall r x) := by simp [Record.rebuilt, hst, hcall]
      exact ⟨hre ▸ .early rfl hst (Post.called_iff.mpr (by simp [hcall])) hnobody rfl rfl rfl, hworker h⟩
  | called =>
    simp only [hst] at h
    obtain ⟨x, hcall⟩ := Option.ne_none_iff_exists'.mp h.1
    have hre : r.rebuilt now = some (Entry.ofCall r x) := by simp [Record.rebuilt, hst, hcall]
    exact ⟨hre ▸ .queued rfl hst (Post.called_iff.mpr h.1) h.2 rfl rfl, hworker h.2⟩
  | granted =>
    simp only [hst] at h
    have hre : r.rebuilt now = some (r.moveEntry now) := by simp [Record.rebuilt, hst]; rfl
    exact ⟨hre ▸ .queued rfl hst (huncalled h.1) h.2 rfl rfl, hworker h.2⟩
  | fetching => simp only [hst] at h

/-- The restart leaves every record of a sound yard at rest, and rebuilds an entry only where there was one. -/
theorem reconciled_atRest (hs : s.yard.Sound) (hr : s.record? r.ticket = some r) :
    (s.reconciled r).AtRest ∧ (s.entry? r.ticket = none → ∀ now, (s.reconciled r).rebuilt now = none) := by
  have hmoved : (s.jq.entries.any fun e => e.ticket == r.ticket && e.kind == .move) = s.hasEntry r.ticket .move := by
    refine Bool.eq_iff_iff.mpr (hasEntry_iff.trans ?_).symm
    simp only [List.any_eq_true, Bool.and_eq_true, beq_iff_eq]
    refine ⟨fun ⟨e, he, hk⟩ => ⟨e, entry?_mem he, entry?_ticket s he, hk⟩, fun ⟨e, he, ht, hk⟩ => ⟨e, ?_, hk⟩⟩
    rw [← ht]
    exact entry?_of_mem hs.fits.2 he
  have hrow := (hs.row (post_yard hr)).standing
  rw [job_yard] at hrow
  unfold State.reconciled
  rw [hmoved]
  generalize (s.volatileReset.hookState? r == some .out) = out
  generalize s.volatileReset.keyHolder r = holder
  have hmove : s.hasEntry r.ticket .move = (s.entry? r.ticket).any fun e => e.kind == .move := rfl
  have resting (hst : r.state = .waiting ∨ r.state = .stored ∨ r.state = .staged) (h : Resting r.post (s.entry? r.ticket)) :
      (r.reconcile s.ct.parkLimit out holder (s.hasEntry r.ticket .move)).AtRest ∧ (s.entry? r.ticket = none → ∀ now,
        (r.reconcile s.ct.parkLimit out holder (s.hasEntry r.ticket .move)).rebuilt now = none) := by
    have hcall : r.call = none := Post.not_called_iff.mp h.2.1
    rcases hst with hst | hst | hst <;> rw [Record.reconcile_rest (by simp [hst]) (by simp [hst])] <;>
      simp [Record.AtRest, Record.rebuilt, hst, hcall]
  rw [show r.post.state = r.state from rfl] at hrow
  cases hst : r.state with
  | waiting => exact resting (.inl hst) (hst ▸ hrow :)
  | stored => exact resting (.inr (.inl hst)) (hst ▸ hrow :)
  | staged => exact resting (.inr (.inr hst)) (hst ▸ hrow :)
  | suspended =>
    rw [hst] at hrow
    have hcall : r.call = none := Post.not_called_iff.mp hrow.2
    rw [Record.reconcile_rest (by simp [hst]) (by simp [hst])]
    simp [Record.AtRest, Record.rebuilt, hst, hcall]
  | called =>
    rw [hst] at hrow
    obtain ⟨hcall, -, e, he, -⟩ := hrow
    have hcall : r.call ≠ none := Post.called_iff.mp hcall
    rw [Record.reconcile_rest (by simp [hst]) (by simp [hst])]
    simp [Record.AtRest, hst, hcall, he]
  | granted =>
    rw [hst] at hrow
    obtain ⟨hcall, -, e, he, -⟩ := hrow
    have hcall : r.call = none := Post.not_called_iff.mp hcall
    rw [Record.reconcile_rest (by simp [hst]) (by simp [hst])]
    simp [Record.AtRest, hst, hcall, he]
  | fetching =>
    rw [hst] at hrow
    obtain ⟨hcall, e, a, he, -⟩ := hrow
    have hcall : r.call ≠ none := Post.called_iff.mp hcall
    cases out with
    | true =>
      rw [Record.reconcile_fetching_out hst]
      simp [Record.AtRest, he]
    | false =>
      rw [Record.reconcile_fetching_home hst]
      simp [Record.AtRest, Record.freed, he, hcall]
  | inbound =>
    rw [hst] at hrow
    rcases hrow with ⟨-, hparking⟩ | ⟨hcall, e, a, he, -, -, hkind, -⟩
    · have hnot : s.hasEntry r.ticket .move = false := by
        rcases hparking with ⟨he, -⟩ | ⟨e, he, -, -, hkind, -⟩
        · simp [hmove, he]
        · simp [hmove, he, hkind]
      have halone (he : s.entry? r.ticket = none) : r.call = none := by
        rcases hparking with ⟨-, hcall⟩ | ⟨e, he', -⟩
        · exact Post.not_called_iff.mp hcall
        · rw [he] at he'; cases he'
      rw [hnot, Record.reconcile_inbound hst rfl]
      refine ⟨by simp [Record.AtRest, hst, Record.freed], fun he now => ?_⟩
      simp [Record.rebuilt, hst, Record.freed, halone he]
    · have hcall : r.call = none := Post.not_called_iff.mp hcall
      have hyes : s.hasEntry r.ticket .move = true := by simp [hmove, he, hkind]
      rw [hyes]
      cases out with
      | true =>
        rw [Record.reconcile_inbound hst rfl]
        simp [Record.AtRest, hst, Record.freed, he]
      | false =>
        rw [Record.reconcile_move_home hst]
        simp [Record.AtRest, Record.freed, hcall, he]

/-! ### The restart -/

theorem yardSound_restarted (htable : TableSound s) (hs : s.yard.Sound) : s.restarted.yard.Sound := by
  have hpost (t : Nat) : s.restarted.yard.post t = (s.record? t).map fun r => (s.reconciled r).post := by
    show (s.restarted.record? t).map Record.post = _
    rw [record?_restarted, Option.map_map]
    rfl
  have hrow (t : Nat) : Stands s.restarted.duty (s.restarted.yard.post t) (s.restarted.yard.job t) ∧
      s.restarted.yard.worker t = none := by
    unfold Yard.worker
    rw [hpost, job_yard, entry?_restarted htable]
    cases hr : s.record? t with
    | none => exact ⟨.absent, rfl⟩
    | some r =>
      obtain rfl : r.ticket = t := record?_ticket s t r hr
      exact stands_rebuilt (reconciled_atRest hs hr).1
  refine ⟨?_, fun t ht => ?_, ⟨?_, restarted_nodup htable⟩, fun t => (hrow t).1, fun t u a ht => ?_⟩
  · show s.restarted.sm.waitList.Nodup
    rw [restarted_waitList]
    exact hs.nodup
  · have ht : t ∈ s.restarted.sm.waitList := ht
    rw [restarted_waitList] at ht
    obtain ⟨p, hp, hst⟩ := hs.waiting t ht
    obtain ⟨r, hr, rfl⟩ := Option.map_eq_some_iff.mp hp
    rw [hpost, hr]
    exact ⟨_, rfl, (reconcile_state s.ct.parkLimit _ _ _ r).1.mpr hst⟩
  · have hsub : s.rebuiltEntries.map Entry.ticket ⊆ s.jq.entries.map Entry.ticket := by
      intro u hu
      obtain ⟨e, he, rfl⟩ := List.mem_map.mp hu
      obtain ⟨r, hr, hre⟩ := mem_rebuiltEntries.mp he
      have hr' := record?_of_mem htable hr
      obtain ⟨x, hx⟩ := Option.ne_none_iff_exists'.mp fun hnone => by
        rw [(reconciled_atRest hs hr').2 hnone] at hre
        cases hre
      refine List.mem_map.mpr ⟨x, entry?_mem hx, ?_⟩
      rw [entry?_ticket s hx, rebuilt_ticket hre, State.reconciled_ticket]
    have hle := ((rebuiltEntries_nodup htable).subperm hsub).length_le
    rw [List.length_map, List.length_map] at hle
    exact (restarted_perm s).length_eq ▸ hle.trans hs.fits.1
  · rw [(hrow t).2] at ht
    cases ht

theorem yardKeeps_warmRestart : s.yard.Keeps (TableSound s) s.warmRestart.yard := by
  have hrestart : s.yard.Keeps (TableSound s) s.restarted.yard := by
    refine ⟨fun _ => ?_, yardSound_restarted⟩
    show s.restarted.jq.entries.Pairwise _
    rw [restarted_entries]
    exact pairwise_insertAll _ .nil
  have hpass : s.yard.Keeps (TableSound s) (if restartServes s s.restarted then s.restarted.servePass else s.restarted).yard := by
    split
    · exact hrestart.trans yardKeeps_servePass
    · exact hrestart
  exact hpass

/-! ### The second of the crystal, service states and panels -/

theorem yard_tickSecond (s : State) : s.tickSecond.yard = s.yard := by
  refine Yard.ext rfl (funext fun t => ?_) rfl (funext fun a => ?_)
  · show ((s.ct.records.map _).find? _).map _ = (s.ct.records.find? _).map _
    rw [List.find?_map, Option.map_map]
    rfl
  · show ((s.dr.attendants.map _)[a]?).map Attendant.state = _
    rw [List.getElem?_map, Option.map_map]
    rfl

theorem yard_heardInRecovery (s : State) (z : Nat) : (s.heardInRecovery z).yard = s.yard := by
  unfold State.heardInRecovery
  split
  · rfl
  · dsimp only
    split <;> rfl

theorem yard_defineZone (s : State) (z n : Nat) : (s.defineZone z n).yard = s.yard := by
  unfold State.defineZone
  dsimp only
  split <;> rfl

theorem yard_setPanelService (s : State) (p : Nat) (b : Bool) : (s.setPanelService p b).yard = s.yard := by
  refine (yard_foldl _ _ (fun q i => ?_) _).trans (yard_modPanel s p _)
  split
  · rfl
  · split
    · rfl
    · exact yard_sendLatch _ _ _

theorem yard_regrade (s : State) (n g : Nat) : (s.regrade n g).yard = s.yard :=
  yard_foldl _ _ (fun _ _ => yard_compareGrade _ _) _

/-- Without records, entries and places on the wait list: CLEAR SITE and POWER_ON. -/
theorem yardKeeps_powerOn {q : State} (hct : q.ct.records = []) (hsm : q.sm = .powerOn) (hjq : q.jq = .powerOn) :
    s.yard.Keeps c q.yard := by
  refine Yard.keeps_empty (congrArg StallMap.waitList hsm) (fun t => ?_) (congrArg JobQueue.entries hjq)
  show (q.ct.records.find? _).map _ = none
  rw [hct]
  rfl

end Sys2Proof.Machine
end

section
/-! Every command keeps the order of the queue and its agreement: first the ports and the events in general, then the plans of the
commands that move a record, an entry or an attendant. -/

namespace Sys2Proof.Machine

open Sys2Proof.Safety

/-! ### Plans, ports and events -/

/-- The state an outcome answers, if any, keeps the yard of `s`. -/
def YardKept (s : State) (o : Host.Outcome State Fault Refusal) : Prop :=
  ∀ t, o = .next t → s.yard.Keeps (TableSound s) t.yard

/-- The plan's effect keeps the yard of a state with the records, the queue and the roster of `s`. -/
def Plan.KeepsYard (p : Plan) (s : State) : Prop :=
  ∀ q : State, q.ct = s.ct → q.jq = s.jq → q.dr = s.dr → q.yard.Keeps (TableSound s) (p.effect q).yard

variable {s : State}

theorem yardKept_next {t : State} (h : s.yard.Keeps (TableSound s) t.yard) : YardKept s (.next t) := by
  rintro q ⟨⟩; exact h

theorem yardKept_same {t : State} (h : t.yard = s.yard) : YardKept s (.next t) := yardKept_next (.of_eq h)

theorem keepsYard_of_same {p : Plan} (h : ∀ q, (p.effect q).yard = q.yard) : p.KeepsYard s := fun q _ _ _ => .of_eq (h q)

@[simp] theorem keepsYard_refuse (a : Answer) : (refuse a).KeepsYard s := fun _ _ _ _ => .refl

@[simp] theorem keepsYard_refuseWith (blank : List Value) (a : Answer) : (refuseWith blank a).KeepsYard s :=
  fun _ _ _ _ => .refl

@[simp] theorem keepsYard_report (fields : List Value) : (report fields).KeepsYard s := fun _ _ _ _ => .refl

@[simp] theorem keepsYard_done (f : State → State) (h : ∀ q, (f q).yard = q.yard) : (done f).KeepsYard s :=
  keepsYard_of_same h

@[simp] theorem keepsYard_ite (c : Prop) [Decidable c] (p q : Plan) :
    (if c then p else q).KeepsYard s ↔ (c → p.KeepsYard s) ∧ (¬c → q.KeepsYard s) := by
  split <;> simp_all

@[simp] theorem keepsYard_ranged (lo hi v : Nat) (f : State → State) (h : ∀ q, (f q).yard = q.yard) :
    (ranged lo hi v f).KeepsYard s := by
  simp [ranged, h]

@[simp] theorem keepsYard_layoutCommand (p : Plan) (h : p.KeepsYard s) : (s.layoutCommand p).KeepsYard s := by
  simp [State.layoutCommand, h]

@[simp] theorem keepsYard_onZone (z : Nat) (p : Plan) (h : p.KeepsYard s) : (s.onZone z p).KeepsYard s := by
  simp [State.onZone, h]

@[simp] theorem keepsYard_onBay (b : Nat) (own : Bay → Plan) (h : ∀ x, (own x).KeepsYard s) : (s.onBay b own).KeepsYard s := by
  simp [State.onBay, h]

@[simp] theorem keepsYard_onStall (z i : Nat) (own : Stall → Plan) (h : ∀ x, (own x).KeepsYard s) :
    (s.onStall z i own).KeepsYard s := by
  unfold State.onStall; split <;> simp [h]

/-- The record that a desk command names is the one its own plan is given (R26). -/
theorem keepsYard_deskRecord {own : Record → Plan} (t e : Nat) (ok : Bool)
    (h : ∀ r, s.record? t = some r → (own r).KeepsYard s) : (s.deskRecord t e ok own).KeepsYard s := by
  unfold State.deskRecord
  split
  · simp
  · split
    · simp
    · split
      · simp
      next r hr => simp [h r hr]

theorem keepsYard_boundSender {own : Nat → Plan} (hs : Handset) (blank : List Value) (h : ∀ a, (own a).KeepsYard s) :
    (s.boundSender hs blank own).KeepsYard s := by
  unfold State.boundSender; split <;> simp [h]

theorem keepsYard_fromSender {own : Nat → Plan} (hs : Handset) (blank : List Value) (h : ∀ a, (own a).KeepsYard s) :
    (s.fromSender hs blank own).KeepsYard s :=
  keepsYard_boundSender hs blank fun a => by simp [h]

/-- The record that a handset message names is the one its own plan is given (R127). -/
theorem keepsYard_handsetRecord {own : Record → Plan} (t : Nat) (ok : Bool) (blank : List Value)
    (h : ∀ r, s.record? t = some r → (own r).KeepsYard s) : (s.handsetRecord t ok blank own).KeepsYard s := by
  unfold State.handsetRecord
  split
  · simp
  · split
    · simp
    next r hr => exact h r hr

/-- Only an attendant that may act on the record is heard (R127). -/
theorem keepsYard_actingOnly {p : Plan} (a : Nat) (r : Record)
    (h : (s.acting r = none ∨ s.acting r = some a) → p.KeepsYard s) : (s.actingOnly a r p).KeepsYard s := by
  by_cases hact : MayAct s a r
  · rw [actingOnly_of_mayAct hact]; exact h hact
  · rw [actingOnly_of_not_mayAct hact]; simp

theorem yardKept_desk {plan : State → Plan} (req code : Nat) (hp : (plan s).KeepsYard s) :
    YardKept s (deskCommand req code plan s) := by
  refine yardKept_next ?_
  split
  · exact (hp s.begin rfl rfl rfl).trans yardKeeps_finish
  · exact .refl

theorem yardKept_handset {plan : State → Plan} (hs : Handset) (kind : Nat) (ticket : Option Nat) (hp : (plan s).KeepsYard s) :
    YardKept s (handsetMessage hs kind ticket plan s) := by
  refine yardKept_next ?_
  split
  · generalize hq : s.begin.sendResult hs kind (plan s).answer (ticket <|> (plan s).issued) (plan s).fields = q
    have hyard : q.yard = s.yard := by rw [← hq]; exact yard_pushFrame _ _
    rw [← hyard]
    exact (hp q (by simp [← hq, State.sendResult]) (by simp [← hq, State.sendResult])
      (by simp [← hq, State.sendResult])).trans yardKeeps_finish
  · exact .refl

theorem yardKept_ticket {own : State → Nat → Record → Plan} (hs : Handset) (kind t : Nat)
    (hp : ∀ a r, s.record? t = some r → (own s a r).KeepsYard s) : YardKept s (handsetTicket hs kind t own s) :=
  yardKept_handset hs kind (some t)
    (keepsYard_fromSender hs [] fun a => keepsYard_handsetRecord t true [] fun r hr => hp a r hr)

theorem yardKept_event_of {occurs : State → Bool} {f : State → State}
    (hf : occurs s = true → s.begin.yard.Keeps (TableSound s) (f s.begin).yard) : YardKept s (event occurs f s) := by
  refine yardKept_next ?_
  split
  next hocc => exact (hf (Bool.and_eq_true_iff.mp hocc).2).trans yardKeeps_finish
  next => exact .refl

theorem yardKept_event {occurs : State → Bool} {f : State → State}
    (hf : ∀ q : State, q.yard.Keeps (TableSound s) (f q).yard) : YardKept s (event occurs f s) :=
  yardKept_event_of fun _ => hf s.begin

theorem yardKept_event_same {occurs : State → Bool} {f : State → State} (hf : ∀ q : State, (f q).yard = q.yard) :
    YardKept s (event occurs f s) :=
  yardKept_event fun q => .of_eq (hf q)

/-! ### Plans of single commands -/

section

variable {q : State} {t a : Nat} {r : Record}

/-- A state with the queue of the one a command was ruled on. -/
theorem entry?_taken (hjq : q.jq = s.jq) {e : Entry} (he : s.entry? t = some e) : q.entry? t = some e := by
  rw [entry?_congr hjq, he]

theorem attendant_taken (hdr : q.dr = s.dr) : q.attendant a = s.attendant a := by
  unfold State.attendant; rw [hdr]

theorem record?_still (hct : q.ct = s.ct) (hr : s.record? t = some r) : q.record? t = some r := by
  rw [record?_congr hct, hr]

theorem hasEntry_taken (hjq : q.jq = s.jq) (k : JobKind) : q.hasEntry t k = s.hasEntry t k := by
  unfold State.hasEntry; rw [entry?_congr hjq]

end

/-- CALL's checks leave a record that can take the call (R98). -/
theorem keepsYard_callPlan {t : Nat} (tier : Option Nat) (due : Option Time) (source : Source) {r : Record}
    (hr : s.record? t = some r) : (s.callPlan tier due source r).KeepsYard s := by
  unfold State.callPlan
  dsimp only
  split
  · simp
  next hright =>
    have hnew (x : CallField) (hjob : (∃ e, s.entry? r.ticket = some e ∧ e.kind = .move) ∨
        (s.entry? r.ticket = none ∧ s.jq.entries.length < 64)) : (done fun q => q.newCall r x).KeepsYard s := by
      intro q hct hjq _
      refine yardKeeps_newCall (record?_taken hct hr) x ?_ ?_
      · rwa [hasEntry_taken hjq]
      · rwa [entry?_congr hjq, hjq]
    split
    next e he =>
      split
      next hkind => exact hnew _ (.inl ⟨e, he, hkind⟩)
      next =>
        split
        · simp
        · rw [keepsYard_ite]
          exact ⟨fun _ q _ hjq _ => yardKeeps_upgradeCall (entry?_taken hjq he) _, fun _ => keepsYard_refuse _⟩
    next hnone =>
      rw [keepsYard_ite]
      exact ⟨fun _ => keepsYard_refuse _, fun hroom => hnew _ (.inr ⟨hnone, Nat.lt_of_not_le hroom⟩)⟩

theorem keepsYard_cancelPlan {t : Nat} {r : Record} (hr : s.record? t = some r) : (s.cancelPlan r).KeepsYard s := by
  unfold State.cancelPlan
  split
  · simp
  next e he =>
    simp only [keepsYard_ite, keepsYard_refuse, implies_true, true_and]
    intro hkind hst _ q hct hjq _
    exact yardKeeps_cancelCall (record?_taken hct hr) (entry?_taken hjq he) (not_not.mp hkind) hst

theorem keepsYard_retire {t : Nat} {r : Record} (hr : s.record? t = some r) (hst : r.state = .staged ∨ r.state = .suspended) :
    (done fun q => q.retireRecord r.ticket).KeepsYard s :=
  fun _ hct _ _ => yardKeeps_retireRecord (record?_taken hct hr) hst

theorem keepsYard_handoverPlan {t : Nat} {r : Record} (hr : s.record? t = some r) : (handoverPlan r).KeepsYard s := by
  unfold handoverPlan
  split
  next hst => exact keepsYard_retire hr (.inl hst)
  · simp

/-- ACCEPT comes from the desk or from an IDLE attendant (R7). -/
theorem keepsYard_acceptPlan {sender : Option Nat} (hidle : ∀ a, sender = some a → (s.attendant a).state = .idle)
    (fields : Option Arrival) (returns : Option (Nat × Nat × Nat) → Option StallId → List Value) :
    (s.acceptPlan sender fields returns).KeepsYard s := by
  unfold State.acceptPlan
  dsimp only
  split
  · simp
  split
  · simp
  next f =>
  split
  · simp
  next hlen =>
  split
  · simp
  next hook _ =>
  split
  · simp
  · intro q hct _ hdr
    refine yardKeeps_acceptCar ?_ f hook _ fun a ha => ?_
    · rw [hct]; exact Nat.lt_of_not_le hlen
    · rw [attendant_taken hdr]; exact hidle a ha

theorem keepsYard_ackPlan {t : Nat} (a : Nat) {r : Record} (hr : s.record? t = some r) : (s.ackPlan a r).KeepsYard s := by
  unfold State.ackPlan
  split
  · simp
  next e he =>
    split
    · simp
    next hst =>
      rw [keepsYard_ite]
      exact ⟨fun ha q hct hjq _ => yardKeeps_takeJob (record?_taken hct hr) (entry?_taken hjq he) hst ha,
        fun _ => keepsYard_refuse _⟩
    · simp

theorem keepsYard_declinePlan (a : Nat) (r : Record) : (s.declinePlan a r).KeepsYard s := by
  unfold State.declinePlan
  split
  · simp
  next e he =>
    split
    · simp
    next hst =>
      rw [keepsYard_ite]
      exact ⟨fun ha q _ hjq _ => yardKeeps_decline (entry?_taken hjq he) hst ha, fun _ => keepsYard_refuse _⟩
    · simp

theorem keepsYard_keyAgainPlan (a : Nat) (r : Record) : (s.keyAgainPlan a r).KeepsYard s := by
  unfold State.keyAgainPlan; split <;> simp

/-- REPARK comes from an IDLE attendant (R18). -/
theorem keepsYard_reparkPlan {t : Nat} (a : Nat) {r : Record} (hr : s.record? t = some r) : (s.reparkPlan a r).KeepsYard s := by
  unfold State.reparkPlan
  dsimp only
  split
  · exact keepsYard_refuseWith _ _
  next hidle =>
  split
  · exact keepsYard_refuseWith _ _
  next hstate =>
  split
  · exact keepsYard_refuseWith _ _
  split
  · exact keepsYard_refuseWith _ _
  · intro q hct _ hdr
    have hst : r.state = .staged := not_not.mp fun h => hstate (.inl h)
    exact yardKeeps_reparkCar (record?_taken hct hr) hst (by rw [attendant_taken hdr]; exact not_not.mp hidle) _

/-- The attendant that a roster message concerns has no work (R114 to R116). -/
theorem keepsYard_relieve {f : State → State} {a : Nat} {st : AttendantState}
    (hf : ∀ q : State, (f q).yard = q.yard.relieve (some a) st)
    (hfree : (s.attendant a).state = .idle ∨ (s.attendant a).state = .away ∨ (s.attendant a).state = .off) :
    (done f).KeepsYard s :=
  fun q _ _ hdr => yardKeeps_relieve (hf q) (by rwa [attendant_taken hdr])

theorem keepsYard_signOnPlan (identity n : Nat) : (s.signOnPlan identity n).KeepsYard s := by
  unfold State.signOnPlan
  simp only [keepsYard_ite, keepsYard_refuse, implies_true, true_and]
  intro _ _ hoff
  have hoff : (s.attendant n).state = .off := by
    have hsigned : ¬s.signedOn n = true := fun h => hoff (by simp [h])
    simpa [State.signedOn] using hsigned
  exact fun q _ _ hdr => yardKeeps_relieve (yard_signOn q identity) (by rw [attendant_taken hdr]; exact .inr (.inr hoff))

end Sys2Proof.Machine
end

section
/-! The single commands, messages and events keep the order of the queue and its agreement. -/

namespace Sys2Proof.Machine

open Sys2Proof.Safety

variable {s : State}

/-! ### Commands that move a record, an entry or an attendant -/

theorem yardKept_accept (port : Port) (grade need tier : Nat) (plate : PlateField) (folio : OptWord) (lane : Nat) :
    YardKept s (execAccept port grade need tier plate folio lane s) := by
  unfold execAccept
  cases port with
  | desk req =>
    refine yardKept_desk _ _ ?_
    exact keepsYard_acceptPlan (fun a ha => by cases ha) _ _
  | handset hs =>
    refine yardKept_handset _ _ _ ?_
    refine keepsYard_boundSender _ _ fun a => ?_
    rw [keepsYard_ite]
    exact ⟨fun hidle => keepsYard_acceptPlan (fun b hb => Option.some.inj hb ▸ hidle) _ _, fun _ => keepsYard_refuseWith _ _⟩

theorem yardKept_handover (port : Port) (t e : Nat) : YardKept s (execHandover port t e s) := by
  unfold execHandover
  cases port with
  | desk req =>
    refine yardKept_desk _ _ ?_
    exact keepsYard_deskRecord _ _ _ fun r hr => keepsYard_handoverPlan hr
  | handset hs => exact yardKept_ticket _ _ _ fun _ r hr => keepsYard_handoverPlan hr

theorem yardKept_hold (req t e : Nat) : YardKept s (execHold req t e s) := by
  refine yardKept_desk _ _ (keepsYard_deskRecord _ _ _ fun r hr => ?_)
  split
  · simp
  · simp
  · exact fun q _ _ _ => yardKeeps_suspend _

theorem yardKept_retire (req t e : Nat) : YardKept s (execRetire req t e s) := by
  refine yardKept_desk _ _ (keepsYard_deskRecord _ _ _ fun r hr => ?_)
  split
  next hst =>
    have ht : r.ticket = t := record?_ticket s t r hr
    exact ht ▸ keepsYard_retire hr (.inr hst)
  · simp

theorem yardKept_resolveStored (req t e : Nat) : YardKept s (execResolveStored req t e s) := by
  refine yardKept_desk _ _ (keepsYard_deskRecord _ _ _ fun r hr => ?_)
  simp only [keepsYard_ite, keepsYard_refuse, implies_true, true_and]
  intro hst _ _ q hct _ _
  exact yardKeeps_resolvedStored (record?_still hct hr) (not_not.mp hst)

theorem yardKept_resolveMoveTo (req t z i e : Nat) : YardKept s (execResolveMoveTo req t z i e s) := by
  refine yardKept_desk _ _ (keepsYard_deskRecord _ _ _ fun r hr => ?_)
  obtain rfl : r.ticket = t := record?_ticket s t r hr
  split
  · simp
  next hst =>
    split
    · simp
    next x hx =>
      simp only [keepsYard_ite, keepsYard_refuse, implies_true, true_and]
      intro _ _ q hct _ _
      exact yardKeeps_resolvedMoveTo (record?_still hct hr) (not_not.mp hst) _ x

theorem yardKept_resolveWaiting (req t e : Nat) : YardKept s (execResolveWaiting req t e s) := by
  refine yardKept_desk _ _ (keepsYard_deskRecord _ _ _ fun r hr => ?_)
  simp only [keepsYard_ite, keepsYard_refuse, implies_true, true_and]
  intro hst _ _ q hct _ _
  exact yardKeeps_resolvedWaiting (record?_still hct hr) (not_not.mp hst)

theorem yardKept_call (port : Port) (t tier : Nat) (due : OptWord) (e : Nat) : YardKept s (execCall port t tier due e s) := by
  unfold execCall
  cases port with
  | desk req =>
    refine yardKept_desk _ _ ?_
    exact keepsYard_deskRecord _ _ _ fun r hr => keepsYard_callPlan _ _ _ hr
  | handset hs =>
    refine yardKept_handset _ _ _ ?_
    exact keepsYard_fromSender _ _ fun a => keepsYard_handsetRecord _ _ _ fun r hr =>
      keepsYard_actingOnly a r fun _ => keepsYard_callPlan _ _ _ hr

theorem yardKept_cancelCall (port : Port) (t e : Nat) : YardKept s (execCancelCall port t e s) := by
  unfold execCancelCall
  cases port with
  | desk req =>
    refine yardKept_desk _ _ ?_
    exact keepsYard_deskRecord _ _ _ fun r hr => keepsYard_cancelPlan hr
  | handset hs => exact yardKept_ticket _ _ _ fun a r hr => keepsYard_actingOnly a r fun _ => keepsYard_cancelPlan hr

theorem yardKept_signOn (hs : Handset) (n : Nat) : YardKept s (execSignOn hs n s) := by
  refine yardKept_handset _ _ _ ?_
  rw [keepsYard_ite]
  exact ⟨fun _ => keepsYard_refuse _, fun _ => keepsYard_signOnPlan _ _⟩

theorem yardKept_signOff (hs : Handset) : YardKept s (execSignOff hs s) := by
  refine yardKept_handset _ _ _ (keepsYard_fromSender _ _ fun a => ?_)
  split
  next hidle => exact keepsYard_relieve yard_signOff (.inl hidle)
  next haway => exact keepsYard_relieve yard_signOff (.inr (.inl haway))
  · simp

theorem yardKept_takeBreak (hs : Handset) : YardKept s (execTakeBreak hs s) := by
  refine yardKept_handset _ _ _ (keepsYard_fromSender _ _ fun a => ?_)
  split
  next hidle => exact keepsYard_relieve (fun q => yard_leaveIdle q a .away) (.inl hidle)
  · simp
  · simp

theorem yardKept_ready (hs : Handset) : YardKept s (execReady hs s) := by
  refine yardKept_handset _ _ _ (keepsYard_fromSender _ _ fun a => ?_)
  split
  next haway => exact keepsYard_relieve (fun q => yard_idleBack q a) (.inr (.inl haway))
  · simp
  · simp

theorem yardKept_parked (hs : Handset) (t : Nat) : YardKept s (execParked hs t s) := by
  refine yardKept_ticket _ _ _ fun a r hr => keepsYard_actingOnly a r fun _ => ?_
  simp only [keepsYard_ite, keepsYard_refuse, implies_true, true_and]
  intro hst _ q hct _ _
  exact yardKeeps_setMarks (record?_still hct hr) (not_not.mp hst)

theorem yardKept_abandon (hs : Handset) (t : Nat) : YardKept s (execAbandon hs t s) := by
  refine yardKept_ticket _ _ _ fun a r hr => keepsYard_actingOnly a r fun hact => ?_
  simp only [keepsYard_ite, keepsYard_refuse, implies_true, true_and]
  intro hst _ q hct hjq _
  have hsame : q.acting r = s.acting r := by unfold State.acting; rw [entry?_congr hjq]
  exact yardKeeps_abandon (record?_still hct hr) (not_not.mp hst) (by rwa [hsame])

theorem yardKept_staged (hs : Handset) (t b : Nat) : YardKept s (execStaged hs t b s) := by
  refine yardKept_handset _ _ _ (keepsYard_fromSender _ _ fun a => keepsYard_handsetRecord _ _ _ fun r hr =>
    keepsYard_actingOnly a r fun _ => ?_)
  simp only [keepsYard_ite, keepsYard_refuse, implies_true, true_and]
  intro _ hst _ q hct _ _
  exact yardKeeps_stagedOk (record?_still hct hr) (not_not.mp hst) b

theorem yardKept_repark (hs : Handset) (t : Nat) : YardKept s (execRepark hs t s) :=
  yardKept_handset _ _ _ (keepsYard_fromSender _ _ fun a => keepsYard_handsetRecord _ _ _ fun _ hr =>
    keepsYard_reparkPlan a hr)

/-! ### Restarts, supplies, lines and timers -/

/-- CLEAR SITE is taken only with no live record; the wait list and the queue go back to power-on (R178). -/
theorem yardKept_clearSite (req confirm : Nat) : YardKept s (execClearSite req confirm s) := by
  refine yardKept_desk _ _ ?_
  simp only [keepsYard_ite, keepsYard_refuse, implies_true, true_and]
  intro _ _ hempty q hct _ _
  exact yardKeeps_powerOn (q := q.clearSite) (show q.ct.records = [] by rw [hct]; simpa using hempty) rfl rfl

theorem yardKept_restart (req confirm : Nat) : YardKept s (execRestart req confirm s) := by
  unfold execRestart
  split
  · refine yardKept_next ?_
    split
    · exact yardKeeps_warmRestart (s := s.begin)
    · exact .refl
  · exact yardKept_desk _ _ (by simp)

theorem yardKeeps_applyPower (backup : Bool) : s.yard.Keeps (TableSound s) (s.applyPower backup).yard :=
  yardKeeps_powerOn (q := s.applyPower backup) rfl rfl rfl

theorem yardKept_mainSupplyReturn : YardKept s (execMainSupplyReturn s) := by
  refine yardKept_next ?_
  split
  · exact yardKeeps_applyPower s.pw.backup
  · dsimp only
    split
    · exact .refl
    · exact yardKeeps_warmRestart (s := s.setPower true s.pw.backup s.pw.resetAsserted)

theorem yardKept_resetNReleased : YardKept s (execResetNReleased s) := by
  refine yardKept_next ?_
  split
  · exact yardKeeps_warmRestart (s := s.setPower s.pw.main s.pw.backup false)
  · exact .refl

theorem yardKept_zoneReport (z : Nat) (occupied : BitVec 96) (check : Nat) :
    YardKept s (execZoneReport z occupied check s) := by
  refine yardKept_next ?_
  split
  · rw [yard_heardInRecovery]
    exact (yardKeeps_takeReport (s := s.begin) z occupied).trans yardKeeps_finish
  · exact .refl

theorem yardKept_elapsedSecond : YardKept s (execElapsedSecond s) := by
  refine yardKept_next ?_
  split
  · exact (Yard.Keeps.of_eq (yard_tickSecond s.begin)).trans yardKeeps_finish
  · split
    · exact .refl
    · exact .refl

theorem yardKept_ackTimerExpiry (a : Nat) : YardKept s (execAckTimerExpiry a s) := by
  refine yardKept_event_of fun hocc => yardKeeps_ackTimeout ?_
  exact eq_of_beq (Bool.and_eq_true_iff.mp hocc).1

theorem yardKept_laneLoopChange (l : Nat) (level : Bool) : YardKept s (execLaneLoopChange l level s) := by
  unfold execLaneLoopChange
  exact yardKept_event_same (s := { s with pw := { s.pw with lanes := s.pw.lanes.set l level } }) fun _ => rfl

theorem yardKept_bayLoopChange (b : Nat) (level : Bool) : YardKept s (execBayLoopChange b level s) := by
  unfold execBayLoopChange
  exact yardKept_event_same (s := { s with pw := { s.pw with bays := s.pw.bays.set b level } }) fun _ => rfl

/-! ### Commands that write nothing of the yard -/

/-- A record's flags change. -/
@[simp] theorem yard_setFlags (q : State) (t : Nat) (f : Record → RecordFlags) :
    (q.modRecord t fun r => { r with flags := f r }).yard = q.yard :=
  yard_modRecord q t _ (fun _ => rfl) fun _ => rfl

theorem yard_resendLatch (q : State) (h : Nat) : (q.resendLatch h).yard = q.yard := by
  unfold State.resendLatch; split <;> simp

theorem yard_warnKey (q : State) (h : Nat) : (q.warnKey h).yard = q.yard := by
  unfold State.warnKey
  split
  · rfl
  · dsimp only
    split
    · simp
    · split <;> simp

theorem yard_overdueKey (q : State) (h : Nat) : (q.overdueKey h).yard = q.yard := by
  unfold State.overdueKey
  split
  · rfl
  · dsimp only
    split <;> simp

theorem yard_lateInbound (q : State) (t : Nat) : (q.lateInbound t).yard = q.yard :=
  yard_modRecord q t _ (fun _ => rfl) fun _ => rfl

theorem yard_expireDwell (q : State) (b : Nat) : (q.expireDwell b).yard = q.yard := by
  unfold State.expireDwell
  dsimp only
  split <;> simp

theorem yard_permitsChanged (q before : State) : (q.permitsChanged before).yard = q.yard :=
  (yard_lookIf _ _).trans (yard_serveIf _ _)

theorem yardKept_amend (req t : Nat) (plate : Option PlateField) (folio : Option OptWord) (e : Nat) :
    YardKept s (execAmend req t plate folio e s) :=
  yardKept_desk _ _ (keepsYard_deskRecord _ _ _ fun _ _ => keepsYard_of_same fun q =>
    yard_modRecord q _ _ (fun _ => rfl) fun _ => rfl)

theorem yardKept_list (req start filter : Nat) : YardKept s (execList req start filter s) := by
  refine yardKept_desk _ _ ?_
  split
  · exact keepsYard_of_same fun _ => rfl
  · simp

theorem yardKept_readHook (req h : Nat) : YardKept s (execReadHook req h s) :=
  yardKept_desk _ _ (by rw [keepsYard_ite]; refine ⟨by simp, fun _ => ?_⟩; split <;> simp)

theorem yardKept_setPreference (req tier count : Nat) (zones : List Nat) :
    YardKept s (execSetPreference req tier count zones s) := by
  refine yardKept_desk _ _ ?_
  split
  · exact keepsYard_of_same fun _ => rfl
  · simp

theorem yardKept_enableStall (req z i : Nat) : YardKept s (execEnableStall req z i s) := by
  refine yardKept_desk _ _ (keepsYard_onStall _ _ _ fun x => ?_)
  rw [keepsYard_ite]
  exact ⟨fun _ => keepsYard_refuse _, fun _ => keepsYard_of_same fun _ => rfl⟩

theorem yardKept_disableStall (req z i : Nat) : YardKept s (execDisableStall req z i s) := by
  refine yardKept_desk _ _ (keepsYard_onStall _ _ _ fun x => ?_)
  simp only [keepsYard_ite, keepsYard_refuse, implies_true, true_and]
  exact fun _ _ => keepsYard_of_same fun _ => rfl

theorem yardKept_openZone (req z : Nat) : YardKept s (execOpenZone req z s) := by
  refine yardKept_desk _ _ (keepsYard_onZone _ _ ?_)
  rw [keepsYard_ite]
  exact ⟨fun _ => keepsYard_refuse _, fun _ => keepsYard_of_same fun _ => rfl⟩

theorem yardKept_closeZone (req z : Nat) : YardKept s (execCloseZone req z s) := by
  refine yardKept_desk _ _ (keepsYard_onZone _ _ ?_)
  rw [keepsYard_ite]
  exact ⟨fun _ => keepsYard_refuse _, fun _ => keepsYard_of_same fun _ => rfl⟩

theorem yardKept_clearLane (req l : Nat) : YardKept s (execClearLane req l s) := by
  refine yardKept_desk _ _ ?_
  simp only [keepsYard_ite, keepsYard_refuse, implies_true, true_and]
  exact fun _ _ => keepsYard_of_same fun _ => rfl

theorem yardKept_setLeadTime (req z v : Nat) : YardKept s (execSetLeadTime req z v s) := by
  refine yardKept_desk _ _ ?_
  rw [keepsYard_ite]
  exact ⟨fun _ => keepsYard_refuse _, fun _ => keepsYard_of_same fun _ => yard_lookIf _ _⟩

theorem yardKept_captureSite (req : Nat) (site0 site1 : Bool) : YardKept s (execCaptureSite req site0 site1 s) := by
  refine yardKept_desk _ _ ?_
  split
  · exact keepsYard_of_same fun _ => rfl
  · exact keepsYard_of_same fun _ => rfl

theorem yardKept_clearAttention (req causes : Nat) : YardKept s (execClearAttention req causes s) := by
  refine yardKept_desk _ _ ?_
  simp only [keepsYard_ite, keepsYard_refuse, implies_true, true_and, and_true]
  exact fun _ _ => keepsYard_of_same fun _ => rfl

theorem yardKept_setAttentionEnables (req enables master : Nat) :
    YardKept s (execSetAttentionEnables req enables master s) := by
  refine yardKept_desk _ _ ?_
  split
  · simp
  · rw [keepsYard_ite]
    exact ⟨fun _ => keepsYard_of_same fun _ => rfl, fun _ => keepsYard_refuse _⟩

theorem yardKept_defineFixedStall (req z i attr grade : Nat) : YardKept s (execDefineFixedStall req z i attr grade s) := by
  refine yardKept_desk _ _ (keepsYard_layoutCommand _ ?_)
  split
  · rw [keepsYard_ite]
    exact ⟨fun _ => keepsYard_refuse _, fun _ => keepsYard_of_same fun _ => rfl⟩
  · exact keepsYard_refuse _

theorem yardKept_definePanel (req p : Nat) : YardKept s (execDefinePanel req p s) := by
  refine yardKept_desk _ _ (keepsYard_layoutCommand _ ?_)
  simp only [keepsYard_ite, keepsYard_refuse, implies_true, true_and]
  exact fun _ _ => keepsYard_of_same fun _ => rfl

theorem yardKept_defineBays (req bays : Nat) : YardKept s (execDefineBays req bays s) := by
  refine yardKept_desk _ _ (keepsYard_layoutCommand _ ?_)
  rw [keepsYard_ite]
  exact ⟨fun _ => keepsYard_refuse _, fun _ => keepsYard_of_same fun _ => rfl⟩

theorem yardKept_freezeLayout (req : Nat) : YardKept s (execFreezeLayout req s) := by
  refine yardKept_desk _ _ ?_
  rw [keepsYard_ite]
  exact ⟨fun _ => keepsYard_refuse _, fun _ => keepsYard_of_same fun _ => rfl⟩

theorem yardKept_setServiceState (req st : Nat) : YardKept s (execSetServiceState req st s) := by
  refine yardKept_desk _ _ ?_
  split
  · simp
  · split
    · simp
    · rw [keepsYard_ite]
      refine ⟨fun _ => keepsYard_refuse _, fun _ => keepsYard_of_same fun q => ?_⟩
      exact (yard_lookIf _ _).trans (yard_serveIf _ _)

theorem yardKept_setChainMask (req zones : Nat) : YardKept s (execSetChainMask req zones s) := by
  refine yardKept_desk _ _ ?_
  rw [keepsYard_ite]
  exact ⟨fun _ => keepsYard_of_same fun _ => yard_permitsChanged _ _, fun _ => keepsYard_refuse _⟩

theorem yardKept_deskUnknown (req code : Nat) : YardKept s (execDeskUnknownCommand req code s) := by
  unfold execDeskUnknownCommand
  split
  · exact yardKept_same rfl
  · exact yardKept_desk _ _ (by simp)

theorem yardKept_handsetUnknown (hs : Handset) (kind : Nat) : YardKept s (execHandsetUnknownKind hs kind s) := by
  unfold execHandsetUnknownKind
  split
  · exact yardKept_same rfl
  · exact yardKept_handset _ _ _ (by simp)

end Sys2Proof.Machine
end

section
/-! Every command keeps the yard, so every step keeps the queue in order (O56) and in agreement (O60). -/

namespace Sys2Proof.Machine

open Sys2Proof.Safety

variable {s : State}

/-- A command that only answers, or writes what the yard is not read from, needs no lemma of its own. -/
theorem exec_yardKept (c : Instr) : YardKept s (exec c s) := by
  cases c with
  | accept port grade need tier plate folio lane => exact yardKept_accept _ _ _ _ _ _ _
  | handover port t e => exact yardKept_handover _ _ _
  | hold q t e => exact yardKept_hold _ _ _
  | resolveStored q t e => exact yardKept_resolveStored _ _ _
  | resolveMoveTo q t z i e => exact yardKept_resolveMoveTo _ _ _ _ _
  | resolveWaiting q t e => exact yardKept_resolveWaiting _ _ _
  | retire q t e => exact yardKept_retire _ _ _
  | getRecord q t e =>
    show YardKept s (execGetRecord q t e s)
    exact yardKept_desk _ _ (keepsYard_deskRecord _ _ _ fun _ _ => keepsYard_report _)
  | amend q t plate folio e => exact yardKept_amend _ _ _ _ _
  | findPlate q plate start =>
    show YardKept s (execFindPlate q plate start s)
    exact yardKept_desk _ _ (by split <;> simp)
  | findFolio q folio start =>
    show YardKept s (execFindFolio q folio start s)
    exact yardKept_desk _ _ (by split <;> simp)
  | list q start filter => exact yardKept_list _ _ _
  | setParkLimit q v =>
    show YardKept s (execSetParkLimit q v s)
    exact yardKept_desk _ _ (keepsYard_ranged _ _ _ _ fun _ => rfl)
  | enableStall q z i => exact yardKept_enableStall _ _ _
  | disableStall q z i => exact yardKept_disableStall _ _ _
  | openZone q z => exact yardKept_openZone _ _
  | closeZone q z => exact yardKept_closeZone _ _
  | setZoneFlags q z night spill =>
    show YardKept s (execSetZoneFlags q z night spill s)
    exact yardKept_desk _ _ (by split <;> simp)
  | setPreference q tier n zones => exact yardKept_setPreference _ _ _ _
  | setPair q z =>
    show YardKept s (execSetPair q z s)
    exact yardKept_desk _ _ (by simp [State.setPaired])
  | unpair q z =>
    show YardKept s (execUnpair q z s)
    exact yardKept_desk _ _ (by simp [State.setPaired])
  | setSlot q n g =>
    show YardKept s (execSetSlot q n g s)
    exact yardKept_desk _ _ (by simp [yard_regrade])
  | setStallSlot q z i n =>
    show YardKept s (execSetStallSlot q z i n s)
    exact yardKept_desk _ _ (by simp)
  | readZone q z =>
    show YardKept s (execReadZone q z s)
    exact yardKept_desk _ _ (by simp)
  | readStall q z i =>
    show YardKept s (execReadStall q z i s)
    exact yardKept_desk _ _ (by simp)
  | readWaitList q =>
    show YardKept s (execReadWaitList q s)
    exact yardKept_desk _ _ (by simp)
  | setSilenceTime q v =>
    show YardKept s (execSetSilenceTime q v s)
    exact yardKept_desk _ _ (keepsYard_ranged _ _ _ _ fun _ => rfl)
  | setWithdrawal q z on =>
    show YardKept s (execSetWithdrawal q z on s)
    exact yardKept_desk _ _ (by split <;> simp)
  | setWindowTime q v =>
    show YardKept s (execSetWindowTime q v s)
    exact yardKept_desk _ _ (keepsYard_ranged _ _ _ _ fun _ => rfl)
  | setCustodyLimit q v =>
    show YardKept s (execSetCustodyLimit q v s)
    exact yardKept_desk _ _ (keepsYard_ranged _ _ _ _ fun _ => rfl)
  | beginPanelService q p =>
    show YardKept s (execBeginPanelService q p s)
    exact yardKept_desk _ _ (by simp [yard_setPanelService])
  | endPanelService q p =>
    show YardKept s (execEndPanelService q p s)
    exact yardKept_desk _ _ (by simp [yard_setPanelService])
  | readHook q h => exact yardKept_readHook _ _
  | call port t tier due e => exact yardKept_call _ _ _ _ _
  | cancelCall port t e => exact yardKept_cancelCall _ _ _
  | setLeadTime q z v => exact yardKept_setLeadTime _ _ _
  | readLeadTimes q =>
    show YardKept s (execReadLeadTimes q s)
    exact yardKept_desk _ _ (by simp)
  | readQueue q start =>
    show YardKept s (execReadQueue q start s)
    exact yardKept_desk _ _ (by split <;> simp)
  | setAckTime q v =>
    show YardKept s (execSetAckTime q v s)
    exact yardKept_desk _ _ (keepsYard_ranged _ _ _ _ fun _ => rfl)
  | readRoster q =>
    show YardKept s (execReadRoster q s)
    exact yardKept_desk _ _ (by simp)
  | enableBay q b =>
    show YardKept s (execEnableBay q b s)
    exact yardKept_desk _ _ (by simp [State.setBay])
  | disableBay q b =>
    show YardKept s (execDisableBay q b s)
    exact yardKept_desk _ _ (by simp [State.setBay])
  | setBayFlags q b night =>
    show YardKept s (execSetBayFlags q b night s)
    exact yardKept_desk _ _ (by split <;> simp [State.setBay])
  | setDwellTime q v =>
    show YardKept s (execSetDwellTime q v s)
    exact yardKept_desk _ _ (keepsYard_ranged _ _ _ _ fun _ => rfl)
  | clearLane q l => exact yardKept_clearLane _ _
  | readKerb q =>
    show YardKept s (execReadKerb q s)
    exact yardKept_desk _ _ (by simp)
  | captureSite q site0 site1 => exact yardKept_captureSite _ _ _
  | readStatus q =>
    show YardKept s (execReadStatus q s)
    exact yardKept_desk _ _ (by simp)
  | readAttention q =>
    show YardKept s (execReadAttention q s)
    exact yardKept_desk _ _ (by simp)
  | clearAttention q causes => exact yardKept_clearAttention _ _
  | setAttentionEnables q enables master => exact yardKept_setAttentionEnables _ _ _
  | defineZone q z n =>
    show YardKept s (execDefineZone q z n s)
    exact yardKept_desk _ _ (by simp [yard_defineZone])
  | defineFixedStall q z i attr g => exact yardKept_defineFixedStall _ _ _ _ _
  | definePanel q p => exact yardKept_definePanel _ _
  | defineBays q bays => exact yardKept_defineBays _ _
  | freezeLayout q => exact yardKept_freezeLayout _
  | setServiceState q state => exact yardKept_setServiceState _ _
  | clearSite q confirm => exact yardKept_clearSite _ _
  | setClock q v =>
    show YardKept s (execSetClock q v s)
    exact yardKept_desk _ _ (keepsYard_of_same fun _ => rfl)
  | setChainMask q zones => exact yardKept_setChainMask _ _
  | restart q confirm => exact yardKept_restart _ _
  | deskBadFrame bytes =>
    show YardKept s (execDeskBadFrame bytes s)
    exact yardKept_same (by split <;> rfl)
  | deskUnknownCommand q code => exact yardKept_deskUnknown _ _
  | deskIgnoredTransaction bytes =>
    show YardKept s (execDeskIgnoredTransaction bytes s)
    exact yardKept_same rfl
  | signOn hs n => exact yardKept_signOn _ _
  | signOff hs => exact yardKept_signOff _
  | takeBreak hs => exact yardKept_takeBreak _
  | ready hs => exact yardKept_ready _
  | parked hs t => exact yardKept_parked _ _
  | ack hs t =>
    show YardKept s (execAck hs t s)
    exact yardKept_ticket _ _ _ fun a _ hr => keepsYard_ackPlan a hr
  | decline hs t =>
    show YardKept s (execDecline hs t s)
    exact yardKept_ticket _ _ _ fun a r _ => keepsYard_declinePlan a r
  | abandon hs t => exact yardKept_abandon _ _
  | keyAgain hs t =>
    show YardKept s (execKeyAgain hs t s)
    exact yardKept_ticket _ _ _ fun a r _ => keepsYard_keyAgainPlan a r
  | staged hs t b => exact yardKept_staged _ _ _
  | repark hs t => exact yardKept_repark _ _
  | handsetFrameDropped bytes =>
    show YardKept s (execHandsetFrameDropped bytes s)
    exact yardKept_same rfl
  | handsetUnknownKind hs kind => exact yardKept_handsetUnknown _ _
  | handsetFrameSent =>
    show YardKept s (execHandsetFrameSent s)
    exact yardKept_event_same fun _ => rfl
  | zoneReport z occupied check => exact yardKept_zoneReport _ _ _
  | silenceTimerExpiry z =>
    show YardKept s (execSilenceTimerExpiry z s)
    exact yardKept_event_same fun _ => yard_silence z
  | hookLoaded p i tag =>
    show YardKept s (execHookLoaded p i tag s)
    exact yardKept_event fun _ => yardKeeps_loadHook _ _
  | hookEmptied p i latched =>
    show YardKept s (execHookEmptied p i latched s)
    exact yardKept_event fun _ => yardKeeps_emptyHook _ _
  | latchDone p i latch =>
    show YardKept s (execLatchDone p i latch s)
    exact yardKept_event fun _ => yardKeeps_confirmLatch _ _
  | cabinetMessageDropped bytes =>
    show YardKept s (execCabinetMessageDropped bytes s)
    exact yardKept_same rfl
  | latchRepeat h =>
    show YardKept s (execLatchRepeat h s)
    exact yardKept_event_same fun _ => yard_resendLatch _ h
  | windowTimerExpiry h =>
    show YardKept s (execWindowTimerExpiry h s)
    exact yardKept_event fun _ => yardKeeps_expireWindow h
  | keyWarningPoint h =>
    show YardKept s (execKeyWarningPoint h s)
    exact yardKept_event_same fun _ => yard_warnKey _ h
  | custodyLimitReached h =>
    show YardKept s (execCustodyLimitReached h s)
    exact yardKept_event_same fun _ => yard_overdueKey _ h
  | parkLimitReached t =>
    show YardKept s (execParkLimitReached t s)
    exact yardKept_event_same fun _ => yard_lateInbound _ t
  | ackTimerExpiry a => exact yardKept_ackTimerExpiry _
  | dwellTimerExpiry b =>
    show YardKept s (execDwellTimerExpiry b s)
    exact yardKept_event_same fun _ => yard_expireDwell _ b
  | driveOffTimerExpiry b =>
    show YardKept s (execDriveOffTimerExpiry b s)
    exact yardKept_event fun _ => yardKeeps_driveOff b
  | recoveryTimerExpiry =>
    show YardKept s (execRecoveryTimerExpiry s)
    exact yardKept_event_same fun _ => rfl
  | elapsedSecond => exact yardKept_elapsedSecond
  | laneLoopChange l level => exact yardKept_laneLoopChange _ _
  | bayLoopChange b level => exact yardKept_bayLoopChange _ _
  | chainLoad =>
    show YardKept s (execChainLoad s)
    exact yardKept_event_same fun _ => yard_permitsChanged _ _
  | powerOn backup =>
    show YardKept s (execPowerOn backup s)
    exact yardKept_next (yardKeeps_applyPower backup)
  | mainSupplyLost =>
    show YardKept s (execMainSupplyLost s)
    exact yardKept_same rfl
  | mainSupplyReturn => exact yardKept_mainSupplyReturn
  | resetNAsserted =>
    show YardKept s (execResetNAsserted s)
    exact yardKept_same rfl
  | resetNReleased => exact yardKept_resetNReleased
  | backupSupplyLost =>
    show YardKept s (execBackupSupplyLost s)
    exact yardKept_same rfl
  | chainClkRisingEdge level =>
    show YardKept s (execChainClkRisingEdge level s)
    exact yardKept_event_same fun _ => rfl

/-- The step runs the front command, with the rest of the list left to run. -/
theorem step_keepsYard {t : State} (hstep : step s = .next t) : s.yard.Keeps (TableSound s) t.yard := by
  unfold step at hstep
  split at hstep
  · cases hstep; exact .refl
  next c rest _ => exact exec_yardKept (s := { s with pending := rest }) c t hstep

/-- Settles O56: the order is half of what every step keeps of the yard. -/
theorem everyStepKeepsTheQueueInOrder : Obligations.EveryStepKeepsTheQueueInOrder := by
  intro s t hs hstep
  obtain ⟨hordered, _⟩ := step_keepsYard hstep
  exact hordered hs

/-- Settles O60: the agreement and the wait list make the yard sound, every step keeps it sound, and a sound yard of a sound
table is in agreement. -/
theorem everyStepKeepsTheJobQueueInAgreement : Obligations.EveryStepKeepsTheJobQueueInAgreement := by
  intro s t htable hwait hjobs hstep
  obtain ⟨_, hsound⟩ := step_keepsYard hstep
  exact jobsAgree_of_sound (everyStepKeepsTheTable s t htable hstep) (hsound htable (yard_sound_of_agree hwait hjobs))

end Sys2Proof.Machine
end

section
/-! The idle list (R113): the place an attendant takes in it, and what each of the three changes of an attendant's state leaves
of the list and of the attendant. -/

namespace Sys2Proof.Machine

variable {s : State} {a b : Nat}

/-! ### The place at the front -/

/-- An attendant's idle-since as R113 compares it: a number, 0 where there is none. -/
def State.sinceOf (s : State) (b : Nat) : Nat := (((s.attendant b).idleSince).getD 0).toNat

/-- An attendant that returns to the front stands behind those with an idle-since no later than its own, and before the first
one with a later one. -/
theorem insertIdle_splits (s : State) (a : Nat) (since : Time) (l : List Nat) :
    ∃ before after, l = before ++ after ∧ s.insertIdle a since l = before ++ a :: after ∧
      (∀ b ∈ before, s.sinceOf b ≤ since.toNat) ∧ ∀ b ∈ after.head?, since.toNat < s.sinceOf b := by
  induction l with
  | nil => exact ⟨[], [], rfl, rfl, by simp, by simp⟩
  | cons b bs ih =>
    unfold State.insertIdle
    split
    next hlater => exact ⟨[], b :: bs, rfl, rfl, by simp, by simpa [State.sinceOf] using hlater⟩
    next hnot =>
      obtain ⟨before, after, rfl, hinsert, hbefore, hafter⟩ := ih
      refine ⟨b :: before, after, rfl, by rw [hinsert]; rfl, fun x hx => ?_, hafter⟩
      rcases List.mem_cons.mp hx with rfl | hx
      · exact Nat.le_of_not_lt hnot
      · exact hbefore x hx

theorem insertIdle_perm (s : State) (a : Nat) (since : Time) (l : List Nat) : (s.insertIdle a since l).Perm (a :: l) := by
  obtain ⟨before, after, rfl, hinsert, -, -⟩ := insertIdle_splits s a since l
  rw [hinsert]
  exact List.perm_middle

/-! ### The attendant and the list after a change -/

section

variable (s a)

theorem idle_idleBack : (s.idleBack a).dr.idle = s.dr.idle.filter (· != a) ++ [a] := rfl

theorem idle_idleFront :
    (s.idleFront a).dr.idle = s.insertIdle a (s.attendant a).keptSince (s.dr.idle.filter (· != a)) := rfl

theorem idle_leaveIdle (st : AttendantState) : (s.leaveIdle a st).dr.idle = s.dr.idle.filter (· != a) := rfl

end

theorem attendant_idleBack (h : a < s.dr.attendants.length) : (s.idleBack a).attendant a =
    { s.attendant a with state := .idle, idleSince := some s.sa.elapsed, keptSince := s.sa.elapsed, ack := none } :=
  attendant_modAttendant_self s a _ h

theorem attendant_idleFront (h : a < s.dr.attendants.length) : (s.idleFront a).attendant a =
    { s.attendant a with state := .idle, idleSince := some (s.attendant a).keptSince, ack := none } :=
  attendant_modAttendant_self s a (fun e => { e with state := .idle, idleSince := some e.keptSince, ack := none }) h

theorem attendant_idleBack_other (h : a ≠ b) : (s.idleBack a).attendant b = s.attendant b :=
  attendant_modAttendant_other s a b _ h

theorem attendant_idleFront_other (h : a ≠ b) : (s.idleFront a).attendant b = s.attendant b :=
  attendant_modAttendant_other s a b (fun e => { e with state := .idle, idleSince := some e.keptSince, ack := none }) h

theorem attendant_leaveIdle_other (st : AttendantState) (h : a ≠ b) : (s.leaveIdle a st).attendant b = s.attendant b :=
  attendant_modAttendant_other s a b _ h

@[simp] theorem length_modAttendant (s : State) (a : Nat) (f : Attendant → Attendant) :
    (s.modAttendant a f).dr.attendants.length = s.dr.attendants.length := List.length_modify _ _ _

end Sys2Proof.Machine
end

section
/-! SIGN_ON, SIGN_OFF, BREAK and READY (R114 to R116), check by check, and the idle list as they leave it (R113). -/

namespace Sys2Proof.Machine

open Sys2Proof.Safety

variable {s : State} {h : Handset} {a : Nat}

/-! ### The plans -/

/-- SIGN_OFF of the attendant (R115). -/
def State.signOffPlan (s : State) (a : Nat) : Plan :=
  match (s.attendant a).state with
  | .idle => done fun q => q.signOff a
  | .away => done fun q => q.signOff a
  | _ => refuse .busy

/-- BREAK of the attendant (R116). -/
def State.breakPlan (s : State) (a : Nat) : Plan :=
  match (s.attendant a).state with
  | .idle => done fun q => q.leaveIdle a .away
  | .away => refuse .already
  | _ => refuse .busy

/-- READY of the attendant (R116). -/
def State.readyPlan (s : State) (a : Nat) : Plan :=
  match (s.attendant a).state with
  | .away => done fun q => q.idleBack a
  | .idle => refuse .already
  | _ => refuse .busy

theorem exec_signOn (s : State) (h : Handset) (n : Nat) : exec (.signOn h n) s =
    handsetMessage h 0x01 none (fun s => if !siteOk h then refuse .badField else s.signOnPlan h.identity n) s := rfl

theorem exec_signOff (s : State) (h : Handset) :
    exec (.signOff h) s = handsetMessage h 0x02 none (fun s => s.fromSender h [] s.signOffPlan) s := rfl

theorem exec_takeBreak (s : State) (h : Handset) :
    exec (.takeBreak h) s = handsetMessage h 0x03 none (fun s => s.fromSender h [] s.breakPlan) s := rfl

theorem exec_ready (s : State) (h : Handset) :
    exec (.ready h) s = handsetMessage h 0x04 none (fun s => s.fromSender h [] s.readyPlan) s := rfl

/-! ### A site above 3 (log entry 16) -/

theorem siteOk_iff (h : Handset) : siteOk h = true ↔ h.site ≤ 3 := by simp [siteOk]

theorem fromSender_badSite (hsent : SentBy s h a) (hsite : 3 < h.site) (own : Nat → Plan) :
    s.fromSender h [] own = refuse .badField := by
  obtain ⟨-, -, hbound⟩ := hsent
  have hbad : siteOk h = false := by simpa [siteOk] using hsite
  simp [State.fromSender, State.boundSender, hbound, hbad, refuseWith, refuse]

theorem rosterMessages_badSite (hsent : SentBy s h a) (hsite : 3 < h.site) :
    HandsetAnswers (.signOff h) s .badField none [] id ∧ HandsetAnswers (.takeBreak h) s .badField none [] id ∧
      HandsetAnswers (.ready h) s .badField none [] id := by
  have hplan := fromSender_badSite hsent hsite
  obtain ⟨hrun, hadmits, -⟩ := hsent
  exact ⟨handsetAnswers_of_plan rfl (exec_signOff s h) hrun hadmits (hplan _),
    handsetAnswers_of_plan rfl (exec_takeBreak s h) hrun hadmits (hplan _),
    handsetAnswers_of_plan rfl (exec_ready s h) hrun hadmits (hplan _)⟩

theorem signOn_badSite (hrun : s.running = true) (hadmits : s.siteAdmits h = true) (hsite : 3 < h.site) (n : Nat) :
    HandsetAnswers (.signOn h n) s .badField none [] id :=
  handsetAnswers_of_plan (p := refuse .badField) rfl (exec_signOn s h n) hrun hadmits (by simp [siteOk, hsite])

/-! ### SIGN_ON (R114) -/

/-- With a site that holds a value SIGN_ON is ruled by its own checks, in their order. -/
theorem signOn_ruled (hrun : s.running = true) (hadmits : s.siteAdmits h = true) (hsite : h.site ≤ 3) (n : Nat) :
    let here : Prop := s.signedOn n = true ∧ (s.attendant n).handset = some h.identity
    let taken : Prop := s.signedOn n = true ∨ s.boundTo? h.identity ≠ none
    (31 < n → HandsetAnswers (.signOn h n) s .badField none [] id) ∧
    (n ≤ 31 → here → HandsetAnswers (.signOn h n) s .already none [] id) ∧
    (n ≤ 31 → ¬here → taken → HandsetAnswers (.signOn h n) s .busy none [] id) ∧
    (n ≤ 31 → ¬taken →
      HandsetAnswers (.signOn h n) s .done none [.half (s.keysOut n)] fun q =>
        (q.modAttendant n fun e => { e with handset := some h.identity }).idleBack n) := by
  intro here taken
  have answers {p : Plan} (hp : s.signOnPlan h.identity n = p) :
      HandsetAnswers (.signOn h n) s p.answer (none <|> p.issued) p.fields p.effect :=
    handsetAnswers_of_plan rfl (exec_signOn s h n) hrun hadmits (by simpa [siteOk, hsite] using hp)
  have known (hn : n ≤ 31) : ¬Config.attendants ≤ n := by show ¬32 ≤ n; omega
  refine ⟨fun hn => answers (p := refuse .badField) (if_pos hn), fun hn hhere => ?_, fun hn hhere htaken => ?_,
    fun hn htaken => ?_⟩
  · refine answers (p := refuse .already) ?_
    obtain ⟨hon, hhandset⟩ := hhere
    simp [State.signOnPlan, known hn, hon, hhandset]
  · refine answers (p := refuse .busy) ?_
    have hbusy : s.signedOn n = true ∨ (s.boundTo? h.identity).isSome = true :=
      htaken.imp_right Option.isSome_iff_ne_none.mpr
    have hnot : ¬(s.signedOn n = true ∧ (s.attendant n).handset = some h.identity) := hhere
    simp [State.signOnPlan, known hn, hnot, hbusy]
  · obtain ⟨hoff, hfree⟩ := not_or.mp htaken
    have hplan : s.signOnPlan h.identity n =
        { answer := .done, fields := [.half (s.keysOut n)]
          effect := fun q => (q.modAttendant n fun e => { e with handset := some h.identity }).idleBack n } := by
      simp [State.signOnPlan, known hn, hoff, not_not.mp hfree]
    exact answers hplan

/-! ### SIGN_OFF, BREAK and READY (R115, R116) -/

theorem signOffPlan_free (hst : (s.attendant a).state = .idle ∨ (s.attendant a).state = .away) :
    s.signOffPlan a = done fun q => q.signOff a := by
  rcases hst with hst | hst <;> simp only [State.signOffPlan, hst]

theorem breakPlan_idle (hst : (s.attendant a).state = .idle) : s.breakPlan a = done fun q => q.leaveIdle a .away := by
  simp only [State.breakPlan, hst]

theorem breakPlan_away (hst : (s.attendant a).state = .away) : s.breakPlan a = refuse .already := by
  simp only [State.breakPlan, hst]

theorem readyPlan_idle (hst : (s.attendant a).state = .idle) : s.readyPlan a = refuse .already := by
  simp only [State.readyPlan, hst]

theorem readyPlan_away (hst : (s.attendant a).state = .away) : s.readyPlan a = done fun q => q.idleBack a := by
  simp only [State.readyPlan, hst]

/-- An attendant with work in hand is refused all three (R115, R116). -/
theorem rosterPlans_busy (hidle : (s.attendant a).state ≠ .idle) (haway : (s.attendant a).state ≠ .away) :
    s.signOffPlan a = refuse .busy ∧ s.breakPlan a = refuse .busy ∧ s.readyPlan a = refuse .busy := by
  unfold State.signOffPlan State.breakPlan State.readyPlan
  cases hst : (s.attendant a).state with
  | idle => exact absurd hst hidle
  | away => exact absurd hst haway
  | off => exact ⟨rfl, rfl, rfl⟩
  | parking => exact ⟨rfl, rfl, rfl⟩
  | offered => exact ⟨rfl, rfl, rfl⟩
  | fetching => exact ⟨rfl, rfl, rfl⟩
  | moving => exact ⟨rfl, rfl, rfl⟩

section

variable {p : Plan} (hheard : HeardFrom s h a)

include hheard

theorem signOff_answers (hp : s.signOffPlan a = p) :
    HandsetAnswers (.signOff h) s p.answer (none <|> p.issued) p.fields p.effect :=
  handsetAnswers_of_plan rfl (exec_signOff s h) hheard.1 hheard.2.1 ((fromSender_heard hheard _ _).trans hp)

theorem takeBreak_answers (hp : s.breakPlan a = p) :
    HandsetAnswers (.takeBreak h) s p.answer (none <|> p.issued) p.fields p.effect :=
  handsetAnswers_of_plan rfl (exec_takeBreak s h) hheard.1 hheard.2.1 ((fromSender_heard hheard _ _).trans hp)

theorem ready_answers (hp : s.readyPlan a = p) :
    HandsetAnswers (.ready h) s p.answer (none <|> p.issued) p.fields p.effect :=
  handsetAnswers_of_plan rfl (exec_ready s h) hheard.1 hheard.2.1 ((fromSender_heard hheard _ _).trans hp)

end

/-- The three messages of an attendant that is signed on, by its state. -/
theorem rosterMessages_ruled (hheard : HeardFrom s h a) :
    let st := (s.attendant a).state
    let off (q : State) : State := (q.leaveIdle a .off).modAttendant a fun e => { e with handset := none }
    (st = .idle ∨ st = .away → HandsetAnswers (.signOff h) s .done none [] off) ∧
    (st = .idle →
      HandsetAnswers (.takeBreak h) s .done none [] (fun q => q.leaveIdle a .away) ∧
      HandsetAnswers (.ready h) s .already none [] id) ∧
    (st = .away →
      HandsetAnswers (.takeBreak h) s .already none [] id ∧
      HandsetAnswers (.ready h) s .done none [] fun q => q.idleBack a) ∧
    (st ≠ .idle → st ≠ .away →
      HandsetAnswers (.signOff h) s .busy none [] id ∧ HandsetAnswers (.takeBreak h) s .busy none [] id ∧
      HandsetAnswers (.ready h) s .busy none [] id) := by
  refine ⟨fun hst => signOff_answers hheard (signOffPlan_free hst),
    fun hidle => ⟨takeBreak_answers hheard (breakPlan_idle hidle), ready_answers hheard (readyPlan_idle hidle)⟩,
    fun haway => ⟨takeBreak_answers hheard (breakPlan_away haway), ready_answers hheard (readyPlan_away haway)⟩,
    fun hidle haway => ?_⟩
  obtain ⟨hoff, hbreak, hready⟩ := rosterPlans_busy hidle haway
  exact ⟨signOff_answers hheard hoff, takeBreak_answers hheard hbreak, ready_answers hheard hready⟩

/-- Settles O34: the messages by their checks, then the two ways into the idle list and the way out of it. -/
theorem rosterMessagesMoveTheAttendantInTheIdleList : Obligations.RosterMessagesMoveTheAttendantInTheIdleList := by
  refine ⟨fun s h => ⟨fun hsite => ⟨fun hrun hadmits n => signOn_badSite hrun hadmits hsite n,
      fun a hsent => rosterMessages_badSite hsent hsite⟩,
    fun hrun hadmits hsite n => signOn_ruled hrun hadmits hsite n, fun a hheard => rosterMessages_ruled hheard⟩,
    fun s a ha => ⟨?_, ?_, fun st => ?_⟩⟩
  · exact ⟨idle_idleBack s a, by simp [attendant_idleBack ha]⟩
  · obtain ⟨before, after, hothers, hinsert, hbefore, hafter⟩ :=
      insertIdle_splits s a (s.attendant a).keptSince (s.dr.idle.filter (· != a))
    exact ⟨⟨before, after, hothers, (idle_idleFront s a).trans hinsert, hbefore, hafter⟩, by simp [attendant_idleFront ha]⟩
  · exact ⟨idle_leaveIdle s a st, by simp [ha]⟩

end Sys2Proof.Machine
end

section
/-! One offer of the arbiter, and the look that makes offers until no pair is left (R118, R119, R151). -/

namespace Sys2Proof.Machine

open Sys2Proof.Safety

variable {s : State} {e : Entry} {a : Nat} {r : Record}

/-! ### One offer -/

/-- An offer before its OFFER is sent: the entry, the attendant, and its timer. -/
def State.offering (s : State) (e : Entry) (a : Nat) : State :=
  ((s.modEntry e.ticket fun g => { g with status := .offered, attendant := some a }).leaveIdle a .offered).modAttendant a
    fun x => { x with ack := some (Timer.start s.dr.ackTime) }

theorem offer_some (hr : s.record? e.ticket = some r) :
    s.offer e a = (s.offering e a).sendTo a 0x82 (s.offerFields r e) := by
  simp only [State.offer, hr]
  rfl

/-- The roster after an offer, whether or not its OFFER finds room (R155). -/
theorem offer_dr (s : State) (e : Entry) (a : Nat) : (s.offer e a).dr = (s.offering e a).dr := by
  cases hr : s.record? e.ticket with
  | none => simp only [State.offer, hr]; rfl
  | some r => rw [offer_some hr]; simp

/-- An offer takes the attendant off the idle list. -/
theorem idle_offer (s : State) (e : Entry) (a : Nat) : (s.offer e a).dr.idle = s.dr.idle.filter (· != a) := by
  rw [offer_dr]; rfl

theorem attendant_offering (ha : a < s.dr.attendants.length) : (s.offering e a).attendant a =
    { s.attendant a with state := .offered, idleSince := none, ack := some (Timer.start s.dr.ackTime) } := by
  unfold State.offering
  generalize hq : (s.modEntry e.ticket fun g => { g with status := .offered, attendant := some a }) = q
  have hdr : q.dr = s.dr := by rw [← hq]; rfl
  have hlen : a < q.dr.attendants.length := by rw [hdr]; exact ha
  rw [attendant_modAttendant_self _ a _ (by simpa using hlen), attendant_leaveIdle_self q a .offered hlen,
    attendant_congr hdr]

theorem entry?_offering (he : s.entry? e.ticket = some e) :
    (s.offering e a).entry? e.ticket = some { e with status := .offered, attendant := some a } := by
  simp [State.offering, he]

/-- OFFER joins the transmit buffer where there is room (R150, R155). -/
theorem sendTo_tx_of_room {q : State} {identity : Nat} (hon : (q.attendant a).state ≠ .off)
    (hhandset : (q.attendant a).handset = some identity) (hroom : q.lk.tx.length < 64) (kind : Nat) (body : List Value) :
    (q.sendTo a kind body).lk.tx = q.lk.tx ++
      [{ site := if q.lk.siteFixed then q.lk.siteId else 0, identity := identity, kind := kind, req := 0, body := body }] := by
  have hframe := sendTo_tx (s := q) a kind body (Nat.le_of_lt hroom)
  rw [hframe, List.take_of_length_le]
  · simp [State.frameTo, hon, hhandset]
  · simpa [State.frameTo, hon, hhandset] using hroom

/-! ### The loop -/

/-- No ready entry or no eligible attendant is left. -/
def State.NoPair (s : State) : Prop :=
  (∀ e ∈ s.jq.entries, s.ready e = false) ∨ ∀ a ∈ s.dr.idle, s.eligible a = false

/-- The first pair is one of a ready entry and an eligible attendant of the idle list, or there is none. -/
theorem pair_or_noPair (s : State) :
    (∃ e a, s.jq.entries.find? s.ready = some e ∧ s.dr.idle.find? s.eligible = some a ∧ a ∈ s.dr.idle) ∨
      (s.NoPair ∧ ∀ n, s.lookLoop n = s) := by
  have stops (h : s.jq.entries.find? s.ready = none ∨ s.dr.idle.find? s.eligible = none) (n : Nat) : s.lookLoop n = s := by
    cases n with
    | zero => rfl
    | succ n =>
      unfold State.lookLoop
      split
      next he ha => rcases h with h | h <;> simp_all
      · rfl
  cases he : s.jq.entries.find? s.ready with
  | none => exact .inr ⟨.inl fun e hmem => by simpa using List.find?_eq_none.mp he e hmem, stops (.inl he)⟩
  | some e =>
    cases ha : s.dr.idle.find? s.eligible with
    | none => exact .inr ⟨.inr fun a hmem => by simpa using List.find?_eq_none.mp ha a hmem, stops (.inr ha)⟩
    | some a => exact .inl ⟨e, a, rfl, rfl, List.mem_of_find?_eq_some ha⟩

theorem lookLoop_pair (he : s.jq.entries.find? s.ready = some e) (ha : s.dr.idle.find? s.eligible = some a) (n : Nat) :
    s.lookLoop (n + 1) = (s.offer e a).lookLoop n := by
  simp only [State.lookLoop, he, ha]

/-- Each offer shortens the idle list. -/
theorem length_idle_offer (ha : a ∈ s.dr.idle) : (s.offer e a).dr.idle.length < s.dr.idle.length := by
  rw [idle_offer]
  exact List.length_filter_lt_length_iff_exists.mpr ⟨a, ha, by simp⟩

/-- As many rounds as the idle list is long are enough, and more change nothing. -/
theorem lookLoop_enough (n : Nat) : ∀ {s : State} {m : Nat}, s.dr.idle.length ≤ n → s.dr.idle.length ≤ m →
    s.lookLoop n = s.lookLoop m ∧ (s.lookLoop n).NoPair := by
  induction n with
  | zero =>
    intro s m hn _
    rcases pair_or_noPair s with ⟨e, a, -, -, hmem⟩ | ⟨hnone, hloop⟩
    · rw [List.length_eq_zero_iff.mp (Nat.le_zero.mp hn)] at hmem
      cases hmem
    · rw [hloop, hloop]; exact ⟨rfl, hnone⟩
  | succ n ih =>
    intro s m hn hm
    rcases pair_or_noPair s with ⟨e, a, he, ha, hmem⟩ | ⟨hnone, hloop⟩
    · have hshorter := length_idle_offer (e := e) hmem
      obtain ⟨m, rfl⟩ : ∃ k, m = k + 1 := Nat.exists_eq_succ_of_ne_zero (by omega)
      rw [lookLoop_pair he ha, lookLoop_pair he ha]
      exact ih (by omega) (by omega)
    · rw [hloop, hloop]; exact ⟨rfl, hnone⟩

theorem look_of_dispatching (h : s.dispatching = true) : s.look = s.lookLoop s.dr.idle.length := if_pos h

/-- A look with a first pair offers it and looks again (R119). -/
theorem look_pair (h : s.dispatching = true) (he : s.jq.entries.find? s.ready = some e)
    (ha : s.dr.idle.find? s.eligible = some a) : s.look = (s.offer e a).look := by
  have hmem := List.mem_of_find?_eq_some ha
  have hshorter := length_idle_offer (e := e) hmem
  have hstill : (s.offer e a).dispatching = true := by simpa [State.dispatching] using h
  obtain ⟨n, hn⟩ : ∃ n, s.dr.idle.length = n + 1 := Nat.exists_eq_succ_of_ne_zero (by omega)
  rw [look_of_dispatching h, hn, lookLoop_pair he ha, look_of_dispatching hstill]
  exact (lookLoop_enough n (by omega) le_rfl).1

/-- Settles O50: the look's equation, its end and its states; then one offer. -/
theorem lookOffersUntilNoPairIsLeft : Obligations.LookOffersUntilNoPairIsLeft := by
  refine ⟨fun s => ⟨fun hstate => ?_, fun hopen hnight => ?_⟩, fun s e a r he hr ha => ?_⟩
  · have hdispatching : s.dispatching = true := (dispatching_iff s).mpr hstate
    refine ⟨fun e a he ha => look_pair hdispatching he ha, ?_⟩
    rw [look_of_dispatching hdispatching]
    exact (lookLoop_enough _ le_rfl le_rfl).2
  · have hnot : ¬s.dispatching = true := fun h => ((dispatching_iff s).mp h).elim hopen hnight
    exact if_neg hnot
  · have hattendant : (s.offer e a).attendant a = (s.offering e a).attendant a :=
      congrFun (attendant_congr (offer_dr s e a)) a
    intro q
    refine ⟨?_, ?_, ?_, ?_, idle_offer s e a, by simp [q], by simp [q], fun identity hhandset hroom => ?_⟩
    · have hentry : q.entry? = (s.offering e a).entry? := entry?_congr (by simp only [q]; rw [offer_some hr]; simp)
      rw [hentry, entry?_offering he]
    · rw [hattendant, attendant_offering ha]
    · rw [hattendant, attendant_offering ha]
    · rw [hattendant, attendant_offering ha]; rfl
    · simp only [q]
      rw [offer_some hr]
      exact sendTo_tx_of_room (q := s.offering e a) (by simp [attendant_offering ha])
        (by simpa [attendant_offering ha] using hhandset) hroom _ _

end Sys2Proof.Machine
end

section
/-! The crew (R111, R113): the idle list against the attendants' states, and the attendants that records, entries and hooks name.
First what a change of a table asks, then what the roster's own operations keep. -/

namespace Sys2Proof.Machine

open Sys2Proof.Safety

/-! ### The invariant, block by block -/

/-- The attendant named, if any, is on the roster (R111). -/
def OnRoster (o : Option Nat) : Prop := ∀ a, o = some a → a < 32

theorem onRoster_none : OnRoster none := nofun

theorem onRoster_some {a : Nat} (ha : a < 32) : OnRoster (some a) := by rintro _ ⟨⟩; exact ha

/-- The idle list is exactly the IDLE attendants, each once (R113). -/
structure Roster.Exact (d : Roster) : Prop where
  length : d.attendants.length = 32
  nodup : d.idle.Nodup
  idle : ∀ a, a ∈ d.idle ↔ (d.attendants.getD a Attendant.off).state = .idle

/-- The invariant of R111 and R113, by the block that each part is read from. -/
structure Crewed (s : State) : Prop where
  roster : s.dr.Exact
  records : ∀ r ∈ s.ct.records, OnRoster r.attendant
  entries : ∀ e ∈ s.jq.entries, OnRoster e.attendant
  hooks : ∀ k ∈ s.allHooks, OnRoster k.attendant

theorem crewed_iff_idleListExact {s : State} : Crewed s ↔ IdleListExact s :=
  ⟨fun ⟨⟨hlen, hnodup, hidle⟩, hrecords, hentries, hhooks⟩ => ⟨hlen, hnodup, hidle, hrecords, hentries, hhooks⟩,
    fun ⟨hlen, hnodup, hidle, hrecords, hentries, hhooks⟩ => ⟨⟨hlen, hnodup, hidle⟩, hrecords, hentries, hhooks⟩⟩

variable {s q : State} {t a n : Nat}

namespace Crewed

/-- What changes none of the four tables keeps the crew. -/
theorem of_same (h : Crewed s) (hdr : q.dr = s.dr := by simp) (hct : q.ct.records = s.ct.records := by simp)
    (hjq : q.jq.entries = s.jq.entries := by simp) (hkc : q.kc.panels = s.kc.panels := by simp) : Crewed q := by
  obtain ⟨hroster, hrecords, hentries, hhooks⟩ := h
  refine ⟨hdr ▸ hroster, hct ▸ hrecords, hjq ▸ hentries, ?_⟩
  rwa [State.allHooks, hkc]

theorem ite {c : Prop} [Decidable c] {p : State} (hp : Crewed p) (hq : Crewed q) : Crewed (if c then p else q) := by
  split
  · exact hp
  · exact hq

theorem serveDue (h : Crewed s) : Crewed s.serveDue := h.of_same

theorem lookDue (h : Crewed s) : Crewed s.lookDue := h.of_same

theorem serveIf (b : Bool) (h : Crewed s) : Crewed (s.serveIf b) := h.of_same

theorem lookIf (b : Bool) (h : Crewed s) : Crewed (s.lookIf b) := h.of_same

theorem raise (c : Cause) (x : Option Nat) (h : Crewed s) : Crewed (s.raise c x) := h.of_same

theorem setLink (h : Crewed s) (z : Nat) (x : ZoneLink) : Crewed (s.setLink z x) := h.of_same

theorem modStall (h : Crewed s) (z i : Nat) (f : Stall → Stall) : Crewed (s.modStall z i f) := h.of_same

theorem resetRuns (o : Option StallId) (h : Crewed s) : Crewed (s.resetRuns o) := h.of_same

theorem joinWaitList (h : Crewed s) (t : Nat) : Crewed (s.joinWaitList t) := h.of_same

theorem leaveWaitList (h : Crewed s) (t : Nat) : Crewed (s.leaveWaitList t) := h.of_same

theorem freeBay (h : Crewed s) (b : Option Nat) : Crewed (s.freeBay b) := h.of_same

theorem modBay (h : Crewed s) (b : Nat) (f : Bay → Bay) : Crewed (s.modBay b f) := h.of_same

theorem sendTo (h : Crewed s) (a kind : Nat) (body : List Value) : Crewed (s.sendTo a kind body) := h.of_same

theorem sendWithdrawn (h : Crewed s) (a t reason : Nat) : Crewed (s.sendWithdrawn a t reason) := h.of_same

/-! ### Who is on the roster -/

theorem of_idle (h : Crewed s) (ha : a ∈ s.dr.idle) : a < 32 := by
  by_contra hlt
  have hout : s.dr.attendants.length ≤ a := by rw [h.roster.length]; omega
  have hidle := (h.roster.idle a).mp ha
  simp [List.getD_eq_getElem?_getD, List.getElem?_eq_none hout, Attendant.off] at hidle

theorem of_record (h : Crewed s) {r : Record} (hr : s.record? t = some r) : OnRoster r.attendant :=
  h.records r (List.mem_of_find?_eq_some hr)

theorem of_entry (h : Crewed s) {e : Entry} (he : s.entry? t = some e) : OnRoster e.attendant :=
  h.entries e (List.mem_of_find?_eq_some he)

/-- A hook that a lookup gives is one of the layout's. -/
theorem mem_allHooks {k : Hook} (hk : s.hook? n = some k) : k ∈ s.allHooks := by
  have hp := panel_of_hook s hk
  simp only [State.hook?, State.panel, List.getD_eq_getElem?_getD, List.getElem?_eq_getElem hp, Option.getD_some] at hk
  exact List.mem_flatMap.mpr ⟨_, List.getElem_mem hp, List.mem_of_getElem? hk⟩

theorem of_hook (h : Crewed s) {k : Hook} (hk : s.hook? n = some k) : OnRoster k.attendant := h.hooks k (mem_allHooks hk)

theorem keyHolder (h : Crewed s) (r : Record) : OnRoster (s.keyHolder r) := by
  unfold State.keyHolder
  split
  next k hk =>
    split
    · exact h.of_hook hk
    · exact onRoster_none
  · exact onRoster_none

/-! ### Records -/

theorem modRecord (h : Crewed s) (t : Nat) {f : Record → Record}
    (hf : ∀ r, OnRoster r.attendant → OnRoster (f r).attendant) : Crewed (s.modRecord t f) := by
  refine ⟨h.roster, fun r hr => ?_, h.entries, h.hooks⟩
  obtain ⟨x, hx, rfl⟩ := List.mem_map.mp hr
  split
  · exact hf x (h.records x hx)
  · exact h.records x hx

/-- The record names the attendant, or nobody. -/
theorem named (h : Crewed s) (t : Nat) {f : Record → Record} {o : Option Nat} (ho : OnRoster o)
    (hf : ∀ r, (f r).attendant = o) : Crewed (s.modRecord t f) :=
  h.modRecord t fun r _ => (hf r).symm ▸ ho

theorem freed (h : Crewed s) (t : Nat) : Crewed (s.modRecord t Record.freed) := h.named t onRoster_none fun _ => rfl

theorem addRecord (h : Crewed s) {r : Record} (hr : OnRoster r.attendant) : Crewed (s.addRecord r) := by
  refine ⟨h.roster, fun x hx => ?_, h.entries, h.hooks⟩
  rcases (mem_insertRecord r x _).mp hx with rfl | hx
  · exact hr
  · exact h.records x hx

theorem dropRecord (h : Crewed s) (t : Nat) : Crewed (s.dropRecord t) :=
  ⟨h.roster, fun r hr => h.records r (List.mem_of_mem_filter hr), h.entries, h.hooks⟩

theorem setState (h : Crewed s) (t : Nat) (st : RecordState) : Crewed (s.setState t st) := by
  unfold State.setState
  exact resetRuns _ (h.modRecord t fun _ hr => hr)

theorem holdStall (h : Crewed s) (t : Nat) (y : StallId) : Crewed (s.holdStall t y) :=
  (h.modStall _ _ _).modRecord t fun _ hr => hr

theorem releaseStall (h : Crewed s) (t : Nat) : Crewed (s.releaseStall t) := by
  unfold State.releaseStall
  split
  · exact h
  · exact serveDue (modRecord (h.modStall _ _ _) t fun _ hr => hr)

theorem noteFallback (h : Crewed s) (t : Nat) (b : Bool) : Crewed (s.noteFallback t b) := by
  unfold State.noteFallback
  split
  · exact h.modRecord t fun _ hr => hr
  · exact h

theorem compareGrade (h : Crewed s) (x : Stall) : Crewed (s.compareGrade x) := by
  unfold State.compareGrade
  split
  · exact h
  next r _ =>
    have hflag (b : Bool) : Crewed (s.modRecord r.ticket fun q => { q with flags := { q.flags with misfit := b } }) :=
      h.modRecord _ fun _ hr => hr
    split
    · split
      · exact h
      · exact (hflag true).raise _ _
    · split
      · exact hflag false
      · exact h

theorem enterWaiting (h : Crewed s) (t : Nat) : Crewed (s.enterWaiting t) :=
  (h.setState t .waiting).joinWaitList t

/-! ### Entries -/

theorem setEntries (h : Crewed s) {l : List Entry} (hl : ∀ e ∈ l, OnRoster e.attendant) : Crewed (s.setEntries l) :=
  ⟨h.roster, h.records, hl, h.hooks⟩

theorem modEntry (h : Crewed s) (t : Nat) {f : Entry → Entry} (hf : ∀ e, OnRoster e.attendant → OnRoster (f e).attendant) :
    Crewed (s.modEntry t f) := by
  refine h.setEntries fun e he => ?_
  obtain ⟨x, hx, rfl⟩ := List.mem_map.mp he
  split
  · exact hf x (h.entries x hx)
  · exact h.entries x hx

theorem addEntry (h : Crewed s) {e : Entry} (he : OnRoster e.attendant) : Crewed (s.addEntry e) := by
  have hjoined : Crewed (s.setEntries (insertEntry e s.jq.entries)) := h.setEntries fun x hx => by
    rcases (mem_insertEntry e x _).mp hx with rfl | hx
    · exact he
    · exact h.entries x hx
  exact hjoined.of_same

theorem removeEntry (h : Crewed s) (t : Nat) : Crewed (s.removeEntry t) := by
  unfold State.removeEntry
  split
  · exact h
  · exact ((h.setEntries fun e he => h.entries e (List.mem_of_mem_filter he)).serveDue).lookIf _

theorem requeue (h : Crewed s) (t : Nat) : Crewed (s.requeue t) :=
  lookDue (h.modEntry t fun _ _ => onRoster_none)

theorem upgradeEntry (h : Crewed s) (t tier : Nat) : Crewed (s.upgradeEntry t tier) := by
  unfold State.upgradeEntry
  split
  · exact h
  next e he =>
    refine (h.setEntries fun x hx => ?_).lookDue
    rcases (mem_insertEntry _ x _).mp hx with rfl | hx
    · exact h.of_entry (e := e) he
    · exact h.entries x (List.mem_of_mem_filter hx)

/-! ### Hooks -/

theorem mem_modify {α : Type} {l : List α} {i : Nat} {f : α → α} {x : α} (hx : x ∈ l.modify i f) :
    x ∈ l ∨ ∃ y ∈ l, x = f y := by
  obtain ⟨j, hj⟩ := List.mem_iff_getElem?.mp hx
  rw [List.getElem?_modify] at hj
  obtain ⟨y, hy, rfl⟩ := Option.map_eq_some_iff.mp hj
  split
  · exact .inr ⟨y, List.mem_of_getElem? hy, rfl⟩
  · exact .inl (List.mem_of_getElem? hy)

theorem modPanel (h : Crewed s) (p : Nat) {f : Panel → Panel}
    (hf : ∀ x : Panel, (∀ k ∈ x.hooks, OnRoster k.attendant) → ∀ k ∈ (f x).hooks, OnRoster k.attendant) :
    Crewed (s.modPanel p f) := by
  refine ⟨h.roster, h.records, h.entries, fun k hk => ?_⟩
  have hpanel (x : Panel) (hx : x ∈ s.kc.panels) (k : Hook) (hk : k ∈ x.hooks) : OnRoster k.attendant :=
    h.hooks k (List.mem_flatMap.mpr ⟨x, hx, hk⟩)
  obtain ⟨x, hx, hk⟩ := List.mem_flatMap.mp hk
  rcases mem_modify hx with hx | ⟨y, hy, rfl⟩
  · exact hpanel x hx k hk
  · exact hf y (hpanel y hy) k hk

theorem modHook (h : Crewed s) (n : Nat) {f : Hook → Hook} (hf : ∀ k, OnRoster k.attendant → OnRoster (f k).attendant) :
    Crewed (s.modHook n f) := by
  refine h.modPanel _ fun x hx k hk => ?_
  rcases mem_modify hk with hk | ⟨y, hy, rfl⟩
  · exact hx k hk
  · exact hf y (hx y hy)

theorem sendLatch (h : Crewed s) (n : Nat) (p : Latch) : Crewed (s.sendLatch n p) := by
  have hpending : Crewed (s.modHook n fun k =>
      { k with latch := some p, repeatTimer := some (Timer.start Config.latchRepeat) }) := h.modHook n fun _ hk => hk
  exact hpending.of_same rfl rfl rfl rfl

theorem updHook (h : Crewed s) (n : Nat) {f : Hook → Hook} (hf : ∀ k, OnRoster k.attendant → OnRoster (f k).attendant) :
    Crewed (s.updHook n f) := by
  unfold State.updHook
  split
  · exact h
  · dsimp only
    split
    · exact (h.modHook n hf).lookIf _
    · exact ((h.modHook n hf).sendLatch n _).lookIf _

theorem bindHook (h : Crewed s) (n t : Nat) : Crewed (s.bindHook n t) := h.updHook n fun _ hk => hk

theorem unbindHook (h : Crewed s) (n t : Nat) : Crewed (s.unbindHook n t) := by
  have hfreed : Crewed (s.modHook n (Hook.freed t)) := h.modHook n fun _ _ => onRoster_none
  unfold State.unbindHook
  split
  · exact h
  · dsimp only
    split
    · exact (hfreed.sendLatch n _).lookIf _
    · exact hfreed.lookIf _

theorem requestWindow (h : Crewed s) (n : Nat) (ha : a < 32) : Crewed (s.requestWindow n a) := by
  unfold State.requestWindow
  split
  · exact h
  · split
    · exact h.updHook n fun _ _ => onRoster_some ha
    · exact h.updHook n fun _ _ => onRoster_some ha
    · exact h

theorem endWindow (h : Crewed s) (n : Nat) : Crewed (s.endWindow n) := by
  have hended : Crewed (s.updHook n Hook.windowEnded) := h.updHook n fun _ _ => onRoster_none
  unfold State.endWindow
  split
  · exact h
  · split
    · split
      · exact hended
      · split
        · exact h.updHook n fun _ hk => hk
        · exact h
    · split
      · exact hended
      · exact h
    · exact h

theorem reparkHook (h : Crewed s) (n : Nat) (ha : a < 32) : Crewed (s.reparkHook n a) := by
  unfold State.reparkHook
  split
  · exact h.updHook n fun _ _ => onRoster_some ha
  · exact h.requestWindow n ha
  · exact h

/-! ### Attendants -/

/-- One attendant changes, and the idle list in the place of that attendant alone. -/
theorem moves (h : Crewed s) (a : Nat) (hlen : q.dr.attendants.length = s.dr.attendants.length) (hnodup : q.dr.idle.Nodup)
    (hself : a ∈ q.dr.idle ↔ (q.attendant a).state = .idle)
    (hother : ∀ b, b ≠ a → (b ∈ q.dr.idle ↔ b ∈ s.dr.idle) ∧ (q.attendant b).state = (s.attendant b).state)
    (hct : q.ct = s.ct := by simp) (hjq : q.jq = s.jq := by simp) (hkc : q.kc = s.kc := by simp) : Crewed q := by
  obtain ⟨⟨hlength, -, hidle⟩, hrecords, hentries, hhooks⟩ := h
  refine ⟨⟨hlen.trans hlength, hnodup, fun b => ?_⟩, hct ▸ hrecords, hjq ▸ hentries, by rwa [State.allHooks, hkc]⟩
  by_cases hb : b = a
  · rw [hb]; exact hself
  · obtain ⟨hmem, hstate⟩ := hother b hb
    exact hmem.trans ((hidle b).trans (Iff.of_eq (congrArg (· = AttendantState.idle) hstate.symm)))

theorem idleBack (h : Crewed s) (ha : a < 32) : Crewed (s.idleBack a) := by
  have hlt : a < s.dr.attendants.length := h.roster.length.symm ▸ ha
  refine h.moves a (List.length_modify _ _ _) ?_ ?_ fun b hb => ?_
  · rw [idle_idleBack]
    exact List.nodup_append.mpr ⟨h.roster.nodup.filter _, List.nodup_singleton a, by simp⟩
  · simp [attendant_idleBack hlt]
  · simp [attendant_idleBack_other hb.symm, hb]

theorem idleFront (h : Crewed s) (ha : a < 32) : Crewed (s.idleFront a) := by
  have hlt : a < s.dr.attendants.length := h.roster.length.symm ▸ ha
  have hperm : (s.idleFront a).dr.idle.Perm (a :: s.dr.idle.filter (· != a)) := insertIdle_perm _ _ _ _
  refine h.moves a (List.length_modify _ _ _) ?_ ?_ fun b hb => ?_
  · exact hperm.nodup_iff.mpr (List.nodup_cons.mpr ⟨by simp, h.roster.nodup.filter _⟩)
  · simp [hperm.mem_iff, attendant_idleFront hlt]
  · simp [hperm.mem_iff, attendant_idleFront_other hb.symm, hb]

/-- An attendant that is not on the roster is not in the list either. -/
theorem leaveIdle (h : Crewed s) (a : Nat) {st : AttendantState} (hst : st ≠ .idle) : Crewed (s.leaveIdle a st) := by
  refine h.moves a (List.length_modify _ _ _) ?_ ?_ fun b hb => ?_
  · exact h.roster.nodup.filter _
  · have hnot : ((s.leaveIdle a st).attendant a).state ≠ .idle := by
      by_cases hlt : a < s.dr.attendants.length
      · simpa [hlt] using hst
      · have hout : (s.leaveIdle a st).attendant a = Attendant.off := by
          simp [State.leaveIdle, State.attendant, State.modAttendant, List.getD_eq_getElem?_getD, Nat.le_of_not_lt hlt]
        simp [hout, Attendant.off]
    simp [hnot]
  · simp [attendant_leaveIdle_other st hb.symm, hb]

/-- A roster entry changes without its state. -/
theorem modAttendant (h : Crewed s) (a : Nat) {f : Attendant → Attendant} (hf : ∀ x, (f x).state = x.state) :
    Crewed (s.modAttendant a f) := by
  have hstate (b : Nat) : ((s.modAttendant a f).attendant b).state = (s.attendant b).state := by
    simp only [State.attendant, State.modAttendant, List.getD_eq_getElem?_getD, List.getElem?_modify]
    cases s.dr.attendants[b]? with
    | none => rfl
    | some x => by_cases hb : a = b <;> simp [hb, hf]
  exact h.moves a (List.length_modify _ _ _) h.roster.nodup ((h.roster.idle a).trans (by rw [hstate]; rfl))
    fun b _ => ⟨.rfl, hstate b⟩

end Crewed

end Sys2Proof.Machine
end


section
/-! The transitions of the Custody Table, the arbiter and the reports keep the crew (R9 to R20, R51, R60 to R88, R113, R119). -/

namespace Sys2Proof.Machine

open Sys2Proof.Safety

variable {s : State} {t a n : Nat} {r : Record} {k : Hook}

namespace Crewed

/-! ### Attendants of a job that ends -/

theorem suspendJob (h : Crewed s) (ha : a < 32) (t : Nat) : Crewed (s.suspendJob a t) := (h.sendWithdrawn a t 1).idleBack ha

theorem withdrawOffer (h : Crewed s) (ha : a < 32) (t : Nat) : Crewed (s.withdrawOffer a t) :=
  (h.sendWithdrawn a t 0).idleFront ha

theorem dropEntry (h : Crewed s) (t : Nat) : Crewed (s.dropEntry t) := by
  unfold State.dropEntry
  split
  · exact h
  next e he =>
    have hremoved := h.removeEntry t
    split
    next ha => exact hremoved.withdrawOffer (h.of_entry he _ ha) t
    next ha => exact hremoved.suspendJob (h.of_entry he _ ha) t
    · exact hremoved

theorem startParking (h : Crewed s) (o : Option Nat) : Crewed (s.startParking o) := by
  cases o with
  | none => exact h
  | some a => exact h.leaveIdle a (by decide)

theorem lapseAttendant (h : Crewed s) (t : Nat) (o : Option Nat) : Crewed (s.lapseAttendant t o) := by
  cases o with
  | none => exact h
  | some a => exact (h.sendWithdrawn a t 2).leaveIdle a (by decide)

/-! ### Storing, marks and the key's return (R9, R10) -/

theorem storedJob (h : Crewed s) (t : Nat) {o : Option Nat} (ho : OnRoster o) : Crewed (s.storedJob t o) := by
  have hstored := h.setState t .stored
  have hentry : Crewed (if (s.setState t .stored).hasEntry t .move then (s.setState t .stored).removeEntry t
      else s.setState t .stored) := by
    split
    · exact hstored.removeEntry t
    · exact hstored
  unfold State.storedJob
  cases o with
  | none => exact hentry
  | some a => exact hentry.idleBack (ho a rfl)

theorem enterStored (h : Crewed s) (t : Nat) : Crewed (s.enterStored t) := by
  cases hr : s.record? t with
  | none => simpa only [State.enterStored, hr] using h
  | some r =>
    have hfreed := (h.storedJob t (h.of_record hr)).freed t
    rw [enterStored_eq hr]
    split
    · exact (hfreed.setState t .called).lookDue
    · exact hfreed

theorem setMarks (h : Crewed s) (t : Nat) (park key : Bool) : Crewed (s.setMarks t park key) := by
  unfold State.setMarks
  split
  · exact h.enterStored t
  · exact h.modRecord t fun _ hr => hr

theorem parkConfirmed (h : Crewed s) (t : Nat) : Crewed (s.parkConfirmed t) := by
  unfold State.parkConfirmed
  split
  · exact h
  · split
    · exact h.setMarks t _ _
    · exact h

theorem keyHome (h : Crewed s) (t : Nat) : Crewed (s.keyHome t) := by
  have hback : Crewed (s.keyIsBack t) := lookIf _ (h.modRecord t fun _ hr => hr)
  cases hr : s.record? t with
  | none => simpa only [State.keyHome, hr] using h
  | some r =>
    rw [keyHome_eq hr]
    split
    · split
      · exact hback
      · exact hback.setMarks t _ _
    · exact hback.serveDue
    · exact hback.freed t
    · exact hback

theorem keyTaken (h : Crewed s) (t : Nat) (ha : a < 32) : Crewed (s.keyTaken t a) := by
  unfold State.keyTaken
  split
  · exact h
  · split
    · exact h.named t (onRoster_some ha) fun _ => rfl
    · exact h

/-! ### Jobs undone and records set aside (R15, R19, R20) -/

theorem undoJob (h : Crewed s) (t : Nat) (st : RecordState) : Crewed (s.undoJob t st) :=
  ((h.setState t st).freed t).requeue t

theorem windowLapsed (h : Crewed s) (t : Nat) : Crewed (s.windowLapsed t) := by
  unfold State.windowLapsed
  split
  · exact h
  · split
    · exact (h.undoJob t .called).lapseAttendant t _
    · split
      · exact (h.undoJob t .granted).lapseAttendant t _
      · exact h
    · exact h

theorem suspendParker (h : Crewed s) (hr : OnRoster r.attendant) : Crewed (s.suspendParker r) := by
  unfold State.suspendParker
  split
  next a _ ha =>
    split
    · exact h
    · exact h.suspendJob (hr a ha) _
  · exact h

theorem suspend (h : Crewed s) (t : Nat) (why : SuspendReason) : Crewed (s.suspend t why) := by
  cases hr : s.record? t with
  | none => simpa only [State.suspend, hr] using h
  | some r =>
    have hloose : Crewed (s.cutLoose t r) :=
      ((((h.suspendParker (h.of_record hr)).dropEntry t).leaveWaitList t).endWindow r.hook)
    rw [suspend_eq hr]
    exact (hloose.setState t .suspended).named t (h.keyHolder r) fun _ => rfl

theorem keyForced (h : Crewed s) (t : Nat) : Crewed (s.keyForced t) := by
  unfold State.keyForced
  split
  · exact h
  · split
    · exact h
    · exact h.modRecord t fun _ hr => hr
    · exact h.suspend t _

/-! ### Keys removed and windows lapsed (R76, R77, R82, R88) -/

theorem takeKey (h : Crewed s) (n : Nat) (hk : OnRoster k.attendant) : Crewed (s.takeKey n k) := by
  have htaken : Crewed (s.updHook n (Hook.taken s.kc.custodyLimit)) := h.updHook n fun _ hx => hx
  unfold State.takeKey
  split
  next a _ ha => exact htaken.keyTaken _ (hk a ha)
  · exact htaken

theorem forceKey (h : Crewed s) (n : Nat) (k : Hook) : Crewed (s.forceKey n k) := by
  have hout : Crewed (s.updHook n Hook.forcedOut) := h.updHook n fun _ _ => onRoster_none
  unfold State.forceKey
  split
  · exact (hout.keyForced _).raise _ _
  · exact hout

theorem completeLapse (h : Crewed s) (n : Nat) (k : Hook) : Crewed (s.completeLapse n k) := by
  have hsecond : Crewed (s.updHook n Hook.secondLapse) := h.updHook n fun _ _ => onRoster_none
  unfold State.completeLapse
  split
  · exact h.updHook n fun _ hx => hx
  · split
    · exact hsecond.windowLapsed _
    · exact hsecond

theorem serviceKey (h : Crewed s) (n : Nat) (k : Hook) : Crewed (s.serviceKey n k) := by
  have hout : Crewed (s.updHook n (Hook.servedOut (k.phase == .running))) := h.updHook n fun x _ => by
    unfold Hook.servedOut
    split <;> exact onRoster_none
  unfold State.serviceKey
  split
  · exact hout
  next t _ =>
    have haway : Crewed ((s.updHook n (Hook.servedOut (k.phase == .running))).modRecord t fun q =>
      { q with flags := { q.flags with keyAway := true } }) := hout.modRecord t fun _ hr => hr
    exact ite (haway.windowLapsed t) haway

/-! ### The messages of a panel and the timers of a hook (R71 to R74, R77, R84) -/

theorem mishung (h : Crewed s) (n tag : Nat) : Crewed (s.mishung n tag) := raise _ _ (h.updHook n fun _ hk => hk)

theorem loadHook (h : Crewed s) (n tag : Nat) : Crewed (s.loadHook n tag) := by
  have hhung : Crewed ((s.updHook n Hook.hung).keyHome tag) := keyHome (h.updHook n fun _ _ => onRoster_none) tag
  have hmishung := h.mishung n tag
  unfold State.loadHook
  split
  · exact h
  · split
    · exact h
    · exact h
    · exact h
    · exact hmishung
    · split
      · exact hhung
      · exact hmishung
    · split
      · exact hhung
      · exact hmishung

theorem emptyHook (h : Crewed s) (n : Nat) (latched : Bool) : Crewed (s.emptyHook n latched) := by
  unfold State.emptyHook
  split
  · exact h
  next k hk =>
    split
    · exact h.updHook n fun _ hx => hx
    · split
      · exact h.forceKey n k
      · exact h.takeKey n (h.of_hook hk)
    · split
      · exact h.serviceKey n k
      · exact h.forceKey n k
    · exact h

theorem confirmLatch (h : Crewed s) (n : Nat) (p : Latch) : Crewed (s.confirmLatch n p) := by
  have hdone : Crewed (s.latchDone n) := h.updHook n fun _ hx => hx
  unfold State.confirmLatch
  split
  · exact h
  next k _ =>
    split
    · dsimp only
      split
      · split
        · exact hdone.completeLapse n k
        · exact hdone.updHook n fun _ _ => onRoster_none
        · exact hdone
      · exact hdone
    · exact h

theorem expireWindow (h : Crewed s) (n : Nat) : Crewed (s.expireWindow n) := by
  unfold State.expireWindow
  split
  · exact h
  next k _ =>
    split
    · split
      · exact h.completeLapse n k
      · exact h.updHook n fun _ hx => hx
    · exact h.completeLapse n k
    · exact h.updHook n fun _ hx => hx

theorem resendLatch (h : Crewed s) (n : Nat) : Crewed (s.resendLatch n) := by
  unfold State.resendLatch
  split
  · exact h
  · exact h.sendLatch n _

theorem warnKey (h : Crewed s) (n : Nat) : Crewed (s.warnKey n) := by
  have hwarned : Crewed (s.updHook n fun q => { q with warned := true }) := h.updHook n fun _ hx => hx
  unfold State.warnKey
  split
  · exact h
  · dsimp only
    split
    · exact hwarned
    · split
      · exact (hwarned.raise _ _).sendTo _ _ _
      · exact hwarned.raise _ _

theorem overdueKey (h : Crewed s) (n : Nat) : Crewed (s.overdueKey n) := by
  have hoverdue : Crewed (s.updHook n fun q => { q with overdue := true }) := h.updHook n fun _ hx => hx
  unfold State.overdueKey
  split
  · exact h
  · dsimp only
    split
    · exact hoverdue
    · exact raise _ _ (hoverdue.modRecord _ fun _ hr => hr)

theorem foldl {α : Type} {f : State → α → State} (l : List α) (h : Crewed s) (hf : ∀ q x, Crewed q → Crewed (f q x)) :
    Crewed (l.foldl f s) :=
  List.foldlRecOn l f (motive := Crewed) h fun q hq x _ => hf q x hq

theorem setPanelService (h : Crewed s) (p : Nat) (b : Bool) : Crewed (s.setPanelService p b) := by
  refine foldl _ (h.modPanel p fun _ hx => hx) fun q i hq => ?_
  split
  · exact hq
  · split
    · exact hq
    · exact hq.sendLatch _ _

/-! ### The end of custody, and staging (R16, R17) -/

theorem retireRecord (h : Crewed s) (t : Nat) : Crewed (s.retireRecord t) := by
  unfold State.retireRecord
  split
  · exact h
  next r _ => exact (((h.releaseStall t).freeBay r.bay).unbindHook r.hook t).dropRecord t

theorem driveOff (h : Crewed s) (b : Nat) : Crewed (s.driveOff b) := by
  have hstopped : Crewed (s.modBay b fun x => { x with driveOff := none }) := h.modBay b _
  unfold State.driveOff
  dsimp only
  split
  · exact hstopped
  next t _ =>
    have hraised := hstopped.raise .driveOff (some t)
    split
    · exact hraised.retireRecord t
    · exact hraised

theorem stagedIn (h : Crewed s) (t b n : Nat) : Crewed (s.stagedIn t b n) := by
  have hbay : Crewed (s.inBay t b) := named ((h.modBay b _).setState t .staged) t onRoster_none fun _ => rfl
  exact ((hbay.releaseStall t).removeEntry t).updHook n fun _ hx => hx

theorem stagedOk (h : Crewed s) (t b : Nat) : Crewed (s.stagedOk t b) := by
  cases hr : s.record? t with
  | none => simpa only [State.stagedOk, hr] using h
  | some r =>
    have hin := h.stagedIn t b r.hook
    rw [stagedOk_eq hr]
    split
    next a ha => exact hin.idleBack (h.of_record hr a ha)
    · exact hin

/-! ### The serving pass, the look and the end of an event (R51, R52, R119) -/

theorem grant (h : Crewed s) (r : Record) (y : StallId) (fallback : Bool) : Crewed (s.grant r y fallback) := by
  have hgranting : Crewed (s.granting r y fallback) :=
    (((h.leaveWaitList r.ticket).holdStall r.ticket y).setState r.ticket .granted).noteFallback r.ticket fallback
  rw [grant_eq]
  exact (hgranting.addEntry (e := r.moveEntry s.sa.clock) onRoster_none).of_same

theorem servePass (h : Crewed s) : Crewed s.servePass :=
  serveList_induction (P := Crewed) h fun _ r y fallback _ _ hq => hq.grant r y fallback

theorem offer (h : Crewed s) (e : Entry) (ha : a < 32) : Crewed (s.offer e a) := by
  have hoffering : Crewed (s.offering e a) :=
    modAttendant (leaveIdle (h.modEntry e.ticket fun _ _ => onRoster_some ha) a (by decide)) a fun _ => rfl
  unfold State.offer
  dsimp only
  split
  · exact hoffering
  · exact hoffering.sendTo a _ _

/-- An offer goes to an attendant of the idle list, so to one on the roster. -/
theorem lookLoop (h : Crewed s) (m : Nat) : Crewed (s.lookLoop m) := by
  induction m generalizing s with
  | zero => exact h
  | succ m ih =>
    unfold State.lookLoop
    split
    next e a _ ha => exact ih (h.offer e (h.of_idle (List.mem_of_find?_eq_some ha)))
    · exact h

theorem finish (h : Crewed s) : Crewed s.finish := by
  have hserve : Crewed s.serveStep := by
    unfold State.serveStep
    split
    · exact h.servePass
    · exact h
  have hlook : Crewed s.serveStep.lookStep := by
    unfold State.lookStep State.look
    split
    · split
      · exact hserve.lookLoop _
      · exact hserve
    · exact hserve
  exact hlook.of_same rfl rfl rfl rfl

/-! ### Zone reports and silence (R58 to R66) -/

theorem stallEmpty (h : Crewed s) (t z : Nat) : Crewed (s.stallEmpty t z) := (h.suspend t .stallEmpty).raise _ _

theorem heldVacant (h : Crewed s) (z i : Nat) (x : Stall) (t : Nat) : Crewed (s.heldVacant z i x t) := by
  have hsensed : Crewed (s.modStall z i fun x => { x with sensed := .vacant, vacantRun := runUp x.vacantRun }) :=
    h.modStall z i _
  unfold State.heldVacant
  dsimp only
  split
  · split
    · exact hsensed.releaseStall t
    · exact hsensed.stallEmpty t z
    · exact hsensed.stallEmpty t z
    · exact hsensed
  · exact hsensed

theorem freeOccupied (h : Crewed s) (z i : Nat) (x : Stall) : Crewed (s.freeOccupied z i x) := by
  unfold State.freeOccupied
  dsimp only
  split
  · exact (modStall (h.modStall z i _) z i _).raise _ _
  · exact h.modStall z i _

theorem takeStall (h : Crewed s) (z : Nat) (occupied : BitVec 96) (i : Nat) : Crewed (State.takeStall z occupied s i) := by
  unfold State.takeStall
  split
  · exact h
  next x _ =>
    split
    · exact (h.modStall z i _).parkConfirmed _
    · exact h.heldVacant z i x _
    · exact h.freeOccupied z i x
    · exact (h.modStall z i _).serveIf _

theorem takeReport (h : Crewed s) (z : Nat) (occupied : BitVec 96) : Crewed (s.takeReport z occupied) :=
  foldl (s := s.hearZone z) _ (h.setLink z _ |>.serveIf _) fun _ i hq => hq.takeStall z occupied i

end Crewed

end Sys2Proof.Machine
end

section
/-! The effects of the single commands, of the second and of the restart keep the crew (R8 to R25, R79, R98 to R102, R114 to R116,
R129, R184). -/

namespace Sys2Proof.Machine

open Sys2Proof.Safety

variable {s q : State} {t a n : Nat} {r : Record}

/-! ### Whole tables -/

/-- A roster whose attendants are all OFF has an empty idle list (R129). -/
theorem Roster.exact_of_off {d : Roster} (hlen : d.attendants.length = 32) (hoff : ∀ x ∈ d.attendants, x = Attendant.off)
    (hidle : d.idle = []) : d.Exact := by
  refine ⟨hlen, by simp [hidle], fun a => ?_⟩
  have hstate : d.attendants.getD a Attendant.off = Attendant.off := by
    rw [List.getD_eq_getElem?_getD]
    cases hx : d.attendants[a]? with
    | none => rfl
    | some x => exact hoff x (List.mem_of_getElem? hx)
  rw [hidle, hstate]
  simp [Attendant.off]

/-- A second changes no attendant's state. -/
theorem Roster.Exact.of_map {d e : Roster} (h : d.Exact) {f : Attendant → Attendant} (hf : ∀ x, (f x).state = x.state)
    (hmap : e.attendants = d.attendants.map f) (hidle : e.idle = d.idle) : e.Exact := by
  refine ⟨by rw [hmap, List.length_map, h.length], hidle ▸ h.nodup, fun a => ?_⟩
  have hstate : (e.attendants.getD a Attendant.off).state = (d.attendants.getD a Attendant.off).state := by
    rw [hmap, List.getD_eq_getElem?_getD, List.getD_eq_getElem?_getD, List.getElem?_map]
    cases d.attendants[a]? with
    | none => rfl
    | some x => exact hf x
  rw [hidle, hstate]
  exact h.idle a

/-- An attendant that a handset is bound to is on the roster (R111). -/
theorem boundTo?_lt {i : Nat} (ha : s.boundTo? i = some a) : a < 32 :=
  List.mem_range.mp (List.mem_of_find?_eq_some ha)

namespace Crewed

/-- Every hook of the cabinet changes. -/
theorem hooks_of_map (h : Crewed s) {f : Hook → Hook} {g : Panel → Panel} (hkc : q.kc.panels = s.kc.panels.map g)
    (hg : ∀ x, (g x).hooks = x.hooks.map f) (hf : ∀ k, OnRoster k.attendant → OnRoster (f k).attendant) :
    ∀ k ∈ q.allHooks, OnRoster k.attendant := by
  intro k hk
  rw [State.allHooks, hkc, List.flatMap_map] at hk
  obtain ⟨x, hx, hxk⟩ := List.mem_flatMap.mp hk
  rw [hg] at hxk
  obtain ⟨y, hy, rfl⟩ := List.mem_map.mp hxk
  exact hf y (h.hooks y (List.mem_flatMap.mpr ⟨x, hx, hy⟩))

/-- The roster, the queue and the cabinet at power-on: no attendant is IDLE, no entry and no hook names one. -/
theorem of_powerOn (hrecords : ∀ r ∈ q.ct.records, OnRoster r.attendant) (hdr : q.dr = .powerOn) (hjq : q.jq = .powerOn)
    (hkc : q.kc.panels = Cabinet.powerOn.panels) : Crewed q := by
  refine ⟨?_, hrecords, ?_, fun k hk => ?_⟩
  · rw [hdr]
    exact Roster.exact_of_off rfl (fun x hx => List.eq_of_mem_replicate hx) rfl
  · rw [hjq]
    simp [JobQueue.powerOn]
  · rw [State.allHooks, hkc] at hk
    simp [Cabinet.powerOn, Panel.absent] at hk

theorem clearSite (h : Crewed s) : Crewed s.clearSite := of_powerOn h.records rfl rfl rfl

theorem applyPower (s : State) (backup : Bool) : Crewed (s.applyPower backup) :=
  of_powerOn (by simp [State.applyPower, State.poweredOn, Custody.powerOn]) rfl rfl rfl

theorem tickSecond (h : Crewed s) : Crewed s.tickSecond := by
  refine ⟨h.roster.of_map (f := fun x => { x with ack := x.ack.map Timer.tick }) (fun _ => rfl) rfl rfl, fun r hr => ?_,
    h.entries, ?_⟩
  · obtain ⟨x, hx, rfl⟩ := List.mem_map.mp hr
    exact h.records x hx
  · exact h.hooks_of_map (f := Hook.tick) (g := fun p => { p with hooks := p.hooks.map Hook.tick }) rfl (fun _ => rfl)
      fun _ hk => hk

/-! ### The restart (R184) -/

theorem volatileReset (h : Crewed s) : Crewed s.volatileReset := by
  refine ⟨Roster.exact_of_off ?_ (fun x hx => ?_) rfl, h.records, by simp [State.volatileReset],
    h.hooks_of_map (f := Hook.restart) (g := Panel.restart) rfl (fun _ => rfl) fun k hk => ?_⟩
  · exact (List.length_map _).trans h.roster.length
  · obtain ⟨_, -, rfl⟩ := List.mem_map.mp hx
    rfl
  · unfold Hook.restart
    dsimp only
    split
    · exact onRoster_none
    · exact hk

/-- A reconciled record keeps its attendant, or names that of its hook, or nobody (R25). -/
theorem reconcile_onRoster {limit : Nat} {out hadMove : Bool} {holder : Option Nat} (hr : OnRoster r.attendant)
    (hholder : OnRoster holder) : OnRoster (r.reconcile limit out holder hadMove).attendant := by
  unfold Record.reconcile
  dsimp only
  split
  · split
    · exact hholder
    · exact onRoster_none
  · split
    · exact onRoster_none
    · exact onRoster_none
  · exact hr
  · exact onRoster_none

theorem reconcile (h : Crewed s) (before : List Entry) : Crewed (s.reconcile before) := by
  refine ⟨h.roster, fun r hr => ?_, h.entries, h.hooks⟩
  obtain ⟨x, hx, rfl⟩ := List.mem_map.mp hr
  exact reconcile_onRoster (h.records x hx) (h.keyHolder x)

/-- A rebuilt entry is QUEUED and names nobody (R110). -/
theorem rebuilt_attendant {now : Time} {e : Entry} (he : r.rebuilt now = some e) : e.attendant = none := by
  unfold Record.rebuilt at he
  split at he <;> cases he <;> rfl

theorem rebuild (h : Crewed s) : Crewed s.rebuild := by
  refine h.setEntries fun e he => ?_
  rw [(perm_insertAll _ []).mem_iff, List.append_nil] at he
  obtain ⟨r, -, hr⟩ := List.mem_filterMap.mp he
  exact rebuilt_attendant hr ▸ onRoster_none

theorem restartCustodies (h : Crewed s) : Crewed s.restartCustodies := by
  refine ⟨h.roster, h.records, h.entries, h.hooks_of_map (f := s.restartCustody)
    (g := fun p => { p with hooks := p.hooks.map s.restartCustody }) rfl (fun _ => rfl) fun k hk => ?_⟩
  unfold State.restartCustody
  split <;> exact hk

theorem endRecovery (h : Crewed s) : Crewed s.endRecovery := h.of_same rfl rfl rfl rfl

theorem beginRecovery (h : Crewed s) : Crewed s.beginRecovery := by
  unfold State.beginRecovery
  exact ite h (ite h.endRecovery (h.of_same rfl rfl rfl rfl))

theorem warmRestart (h : Crewed s) : Crewed s.warmRestart := by
  have hrestarted : Crewed s.restarted := ((h.volatileReset.reconcile _).rebuild.restartCustodies).beginRecovery
  have hserved : Crewed (if restartServes s s.restarted then s.restarted.servePass else s.restarted) :=
    ite hrestarted.servePass hrestarted
  exact hserved.of_same rfl rfl rfl rfl

theorem heardInRecovery (h : Crewed s) (z : Nat) : Crewed (s.heardInRecovery z) := by
  unfold State.heardInRecovery
  split
  · exact h
  · exact ite h.endRecovery (h.of_same rfl rfl rfl rfl)

/-! ### Calls (R13, R98, R101) -/

theorem leaveForCall (h : Crewed s) (r : Record) : Crewed (s.leaveForCall r) := by
  unfold State.leaveForCall
  split
  · exact (h.leaveWaitList _).setState _ _
  · exact ((h.dropEntry _).releaseStall _).setState _ _
  · exact h
  · exact h.setState _ _

theorem newCall (h : Crewed s) (r : Record) (c : CallField) : Crewed (s.newCall r c) := by
  have hset : Crewed ((s.leaveForCall r).setCall r.ticket c) := modRecord (h.leaveForCall r) _ fun _ hr => hr
  rw [newCall_eq]
  exact hset.addEntry onRoster_none

theorem upgradeCall (h : Crewed s) (t tier : Nat) : Crewed (s.upgradeCall t tier) :=
  modRecord (h.upgradeEntry t tier) _ fun _ hr => hr

theorem uncall (h : Crewed s) (t : Nat) : Crewed (s.uncall t) := modRecord (h.dropEntry t) _ fun _ hr => hr

theorem cancelCall (h : Crewed s) (r : Record) : Crewed (s.cancelCall r) := by
  have huncalled := h.uncall r.ticket
  by_cases hcalled : r.state = .called
  · by_cases hstall : r.stall = none
    · rw [cancelCall_waiting hcalled hstall]
      exact (huncalled.enterWaiting _).serveDue
    · rw [cancelCall_stored hcalled hstall]
      exact huncalled.setState _ _
  · rw [cancelCall_stays hcalled]
    exact huncalled

/-! ### ACCEPT and REPARK (R8, R18) -/

theorem takeArrival (h : Crewed s) (l : Option Nat) : Crewed (s.takeArrival l) := by
  cases l <;> exact h.of_same rfl rfl rfl rfl

theorem setCounter (h : Crewed s) (t : Nat) : Crewed { s with ct := { s.ct with counter := t } } := h.of_same rfl rfl rfl rfl

/-- The record created names the sender, or nobody. -/
theorem newRecord_onRoster (s : State) (f : Arrival) (hook : Nat) (found : Bool) {sender : Option Nat}
    (hsender : OnRoster sender) : OnRoster (s.newRecord f hook found sender).attendant := by
  cases found
  · exact onRoster_none
  · exact hsender

theorem enrol (h : Crewed s) (f : Arrival) (hook : Nat) (found : Bool) {sender : Option Nat} (hsender : OnRoster sender) :
    Crewed (s.enrol f hook found sender) := by
  have hadded := (h.takeArrival f.lane).addRecord (newRecord_onRoster s f hook found hsender)
  exact (hadded.setCounter s.nextTicket).bindHook hook s.nextTicket

theorem acceptCar (h : Crewed s) (f : Arrival) (hook : Nat) (found : Option (StallId × Bool)) {sender : Option Nat}
    (hsender : OnRoster sender) : Crewed (s.acceptCar f hook found sender) := by
  cases found with
  | none =>
    rw [acceptCar_none]
    exact (h.enrol f hook false hsender).joinWaitList _
  | some p =>
    rw [acceptCar_some]
    exact (((h.enrol f hook true hsender).holdStall _ _).noteFallback _ _).startParking _

theorem reparked (h : Crewed s) (r : Record) (ha : a < 32) : Crewed (s.reparked r a) := by
  have hleft : Crewed ((s.freeBay r.bay).modRecord r.ticket Record.leftBay) := (h.freeBay r.bay).modRecord _ fun _ hr => hr
  exact hleft.reparkHook r.hook ha

theorem reparkCar (h : Crewed s) (r : Record) (ha : a < 32) (found : Option (StallId × Bool)) :
    Crewed (s.reparkCar r a found) := by
  have hreparked := h.reparked r ha
  cases found with
  | none =>
    rw [reparkCar_none]
    exact hreparked.enterWaiting _
  | some p =>
    have hheld := ((hreparked.setState r.ticket .inbound).holdStall r.ticket p.1).noteFallback r.ticket p.2
    rw [reparkCar_some]
    exact startParking (hheld.named _ (onRoster_some ha) fun _ => rfl) _

/-! ### Replies to an offer, ABANDON and KEY_AGAIN (R14, R15, R79, R102) -/

theorem acked (h : Crewed s) (r : Record) (kind : JobKind) (ha : a < 32) : Crewed (s.acked r kind a) := by
  have hnamed (st : RecordState) :
      Crewed ((s.setState r.ticket st).modRecord r.ticket fun q => { q with attendant := some a }) :=
    (h.setState r.ticket st).named _ (onRoster_some ha) fun _ => rfl
  unfold State.acked
  split
  · exact (hnamed .fetching).requestWindow _ ha
  · exact (hnamed .inbound).requestWindow _ ha
  · exact h

theorem takeJob (h : Crewed s) (r : Record) (e : Entry) (ha : a < 32) : Crewed (s.takeJob r e a) := by
  have htaken : Crewed (s.modEntry r.ticket fun g => { g with status := .taken }) := h.modEntry _ fun _ he => he
  have hworking : e.kind.working ≠ .idle := by cases e.kind <;> simp [JobKind.working]
  exact (htaken.leaveIdle a hworking).acked r e.kind ha

theorem ackTimeout (h : Crewed s) (a : Nat) : Crewed (s.ackTimeout a) := by
  unfold State.ackTimeout
  dsimp only
  split
  · exact (h.leaveIdle a (by decide)).raise _ _
  · exact ((h.requeue _).leaveIdle a (by decide)).raise _ _

theorem keyAgain (h : Crewed s) (n count windowTime : Nat) (ha : a < 32) :
    Crewed (s.updHook n (Hook.openFor a count windowTime)) :=
  h.updHook n fun _ _ => onRoster_some ha

/-! ### Signing on and off (R114, R115) -/

theorem signOn (h : Crewed s) (identity : Nat) (ha : a < 32) :
    Crewed ((s.modAttendant a fun e => { e with handset := some identity }).idleBack a) :=
  idleBack (h.modAttendant a fun _ => rfl) ha

theorem signOff (h : Crewed s) (a : Nat) : Crewed (s.signOff a) :=
  modAttendant (h.leaveIdle a (by decide)) a fun _ => rfl

/-! ### RESOLVE, settings and timers -/

theorem clearSuspension (h : Crewed s) (t : Nat) : Crewed (s.clearSuspension t) := h.named t onRoster_none fun _ => rfl

theorem placeInStray (h : Crewed s) (r : Record) (y : StallId) (x : Stall) : Crewed (s.placeInStray r y x) := by
  have hplaced : Crewed ((((s.releaseStall r.ticket).holdStall r.ticket y).modStall y.zone y.index fun y =>
      { y with stray := false }).noteFallback r.ticket (r.need == .charger && x.attr != .charger)) :=
    (((h.releaseStall _).holdStall _ _).modStall _ _ _).noteFallback _ _
  exact ite (raise _ _ (hplaced.modRecord _ fun _ hr => hr)) hplaced

theorem regrade (h : Crewed s) (m g : Nat) : Crewed (s.regrade m g) := by
  have hset : Crewed { s with sm := { s.sm with gradeSlots := s.sm.gradeSlots.set m g } } := h.of_same
  exact (hset.foldl _ fun _ x hq => hq.compareGrade x).serveDue

theorem setAckTime (h : Crewed s) (v : Nat) : Crewed { s with dr := { s.dr with ackTime := v } } :=
  ⟨⟨h.roster.length, h.roster.nodup, h.roster.idle⟩, h.records, h.entries, h.hooks⟩

theorem loadPermits (h : Crewed s) : Crewed s.loadPermits :=
  lookIf _ (serveIf _ (h.of_same rfl rfl rfl rfl))

theorem defineZone (h : Crewed s) (z m : Nat) : Crewed (s.defineZone z m) := by
  have hzone : Crewed (s.modZone z fun _ => Zone.created m) := h.of_same
  unfold State.defineZone
  dsimp only
  split
  · exact hzone.of_same
  · exact hzone.of_same

theorem definePanel (h : Crewed s) (p : Nat) : Crewed (s.modPanel p fun _ => Panel.created) :=
  h.modPanel p fun _ _ _ hk => List.eq_of_mem_replicate hk ▸ onRoster_none

theorem lateInbound (h : Crewed s) (t : Nat) : Crewed (s.lateInbound t) := raise _ _ (h.modRecord t fun _ hr => hr)

theorem expireDwell (h : Crewed s) (b : Nat) : Crewed (s.expireDwell b) := by
  have hstopped : Crewed (s.modBay b fun x => { x with dwell := none }) := h.modBay b _
  unfold State.expireDwell
  dsimp only
  split
  · exact hstopped
  · exact raise _ _ (hstopped.modRecord _ fun _ hr => hr)

end Crewed

end Sys2Proof.Machine
end

section
/-! Every command keeps the crew: first the ports and the events in general, then the plans and the commands that change a table of
it. -/

namespace Sys2Proof.Machine

open Sys2Proof.Safety

/-! ### Plans, ports and events -/

/-- The state an outcome answers, if any, has a crew where `s` has. -/
def CrewKept (s : State) (o : Host.Outcome State Fault Refusal) : Prop := ∀ t, o = .next t → Crewed s → Crewed t

/-- The plan's effect keeps the crew of any state: what it asks of an attendant stands in the plan itself. -/
def Plan.KeepsCrew (p : Plan) : Prop := ∀ q, Crewed q → Crewed (p.effect q)

variable {s : State}

@[simp] theorem keepsCrew_refuse (a : Answer) : (refuse a).KeepsCrew := fun _ => id

@[simp] theorem keepsCrew_refuseWith (blank : List Value) (a : Answer) : (refuseWith blank a).KeepsCrew := fun _ => id

@[simp] theorem keepsCrew_report (fields : List Value) : (report fields).KeepsCrew := fun _ => id

theorem keepsCrew_done {f : State → State} : (done f).KeepsCrew ↔ ∀ q, Crewed q → Crewed (f q) := .rfl

/-- A plan that writes none of the four tables. -/
theorem keepsCrew_of_same {p : Plan} (hdr : ∀ q, (p.effect q).dr = q.dr) (hct : ∀ q, (p.effect q).ct.records = q.ct.records)
    (hjq : ∀ q, (p.effect q).jq.entries = q.jq.entries) (hkc : ∀ q, (p.effect q).kc.panels = q.kc.panels) : p.KeepsCrew :=
  fun q h => h.of_same (hdr q) (hct q) (hjq q) (hkc q)

@[simp] theorem keepsCrew_doneSame (f : State → State) (hdr : ∀ q, (f q).dr = q.dr) (hct : ∀ q, (f q).ct.records = q.ct.records)
    (hjq : ∀ q, (f q).jq.entries = q.jq.entries) (hkc : ∀ q, (f q).kc.panels = q.kc.panels) : (done f).KeepsCrew :=
  keepsCrew_of_same hdr hct hjq hkc

@[simp] theorem keepsCrew_ite (c : Prop) [Decidable c] (p q : Plan) :
    (if c then p else q).KeepsCrew ↔ (c → p.KeepsCrew) ∧ (¬c → q.KeepsCrew) := by
  split <;> simp_all

theorem keepsCrew_ranged (lo hi v : Nat) {f : State → State} (hf : ∀ q, Crewed q → Crewed (f q)) :
    (ranged lo hi v f).KeepsCrew := by
  simp [ranged, keepsCrew_done.mpr hf]

@[simp] theorem keepsCrew_layoutCommand (p : Plan) (h : p.KeepsCrew) : (s.layoutCommand p).KeepsCrew := by
  simp [State.layoutCommand, h]

@[simp] theorem keepsCrew_onZone (z : Nat) (p : Plan) (h : p.KeepsCrew) : (s.onZone z p).KeepsCrew := by
  simp [State.onZone, h]

@[simp] theorem keepsCrew_onBay (b : Nat) (own : Bay → Plan) (h : ∀ x, (own x).KeepsCrew) : (s.onBay b own).KeepsCrew := by
  simp [State.onBay, h]

@[simp] theorem keepsCrew_onStall (z i : Nat) (own : Stall → Plan) (h : ∀ x, (own x).KeepsCrew) :
    (s.onStall z i own).KeepsCrew := by
  unfold State.onStall; split <;> simp [h]

theorem keepsCrew_deskRecord (t e : Nat) (ok : Bool) {own : Record → Plan} (h : ∀ r, (own r).KeepsCrew) :
    (s.deskRecord t e ok own).KeepsCrew := by
  unfold State.deskRecord
  split
  · simp
  · split
    · simp
    · split
      · simp
      · simp [h]

/-- A sender is an attendant that a handset is bound to, so one on the roster (R111, R127). -/
theorem keepsCrew_boundSender (hs : Handset) (blank : List Value) {own : Nat → Plan} (h : ∀ a < 32, (own a).KeepsCrew) :
    (s.boundSender hs blank own).KeepsCrew := by
  unfold State.boundSender
  split
  · simp
  next a ha => exact h a (boundTo?_lt ha)

theorem keepsCrew_fromSender (hs : Handset) (blank : List Value) {own : Nat → Plan} (h : ∀ a < 32, (own a).KeepsCrew) :
    (s.fromSender hs blank own).KeepsCrew :=
  keepsCrew_boundSender hs blank fun a ha => by simp [h a ha]

theorem keepsCrew_handsetRecord (t : Nat) (ok : Bool) (blank : List Value) {own : Record → Plan} (h : ∀ r, (own r).KeepsCrew) :
    (s.handsetRecord t ok blank own).KeepsCrew := by
  unfold State.handsetRecord
  split
  · simp
  · split
    · simp
    · exact h _

theorem keepsCrew_actingOnly (a : Nat) (r : Record) {p : Plan} (h : p.KeepsCrew) : (s.actingOnly a r p).KeepsCrew := by
  simp [State.actingOnly, h]

theorem crewKept_next {t : State} (h : Crewed s → Crewed t) : CrewKept s (.next t) := by
  rintro q ⟨⟩; exact h

theorem crewKept_desk {plan : State → Plan} (req code : Nat) (hp : (plan s).KeepsCrew) :
    CrewKept s (deskCommand req code plan s) := by
  refine crewKept_next fun h => ?_
  split
  · exact (hp s.begin (h.of_same rfl rfl rfl rfl)).finish.of_same rfl rfl rfl rfl
  · exact h

theorem crewKept_handset {plan : State → Plan} (hs : Handset) (kind : Nat) (ticket : Option Nat) (hp : (plan s).KeepsCrew) :
    CrewKept s (handsetMessage hs kind ticket plan s) := by
  refine crewKept_next fun h => ?_
  have hbegun : Crewed s.begin := h.of_same rfl rfl rfl rfl
  split
  · exact (hp _ (hbegun.of_same (by simp [State.sendResult]) (by simp [State.sendResult]) (by simp [State.sendResult])
      (by simp [State.sendResult]))).finish
  · exact h

theorem crewKept_ticket {own : State → Nat → Record → Plan} (hs : Handset) (kind t : Nat)
    (hp : ∀ a < 32, ∀ r, (own s a r).KeepsCrew) : CrewKept s (handsetTicket hs kind t own s) :=
  crewKept_handset hs kind (some t) (keepsCrew_fromSender hs [] fun a ha => keepsCrew_handsetRecord t true [] (hp a ha))

theorem crewKept_event {occurs : State → Bool} {f : State → State} (hf : ∀ q, Crewed q → Crewed (f q)) :
    CrewKept s (event occurs f s) := by
  refine crewKept_next fun h => ?_
  split
  · exact (hf s.begin (h.of_same rfl rfl rfl rfl)).finish
  · exact h

theorem crewKept_event_same {occurs : State → Bool} {f : State → State} (hdr : ∀ q, (f q).dr = q.dr)
    (hct : ∀ q, (f q).ct.records = q.ct.records) (hjq : ∀ q, (f q).jq.entries = q.jq.entries)
    (hkc : ∀ q, (f q).kc.panels = q.kc.panels) : CrewKept s (event occurs f s) :=
  crewKept_event fun q h => h.of_same (hdr q) (hct q) (hjq q) (hkc q)

/-! ### Plans of single commands -/

theorem keepsCrew_callPlan (tier : Option Nat) (due : Option Time) (source : Source) (r : Record) :
    (s.callPlan tier due source r).KeepsCrew := by
  have hnew (c : CallField) : (done fun q => q.newCall r c).KeepsCrew := fun _ h => h.newCall r c
  have hupgrade (k : Nat) : (done fun q => q.upgradeCall r.ticket k).KeepsCrew := fun _ h => h.upgradeCall _ k
  unfold State.callPlan
  dsimp only
  split
  · simp
  · split
    · split
      · exact hnew _
      · split
        · simp
        · simp [hupgrade]
    · simp [hnew]

theorem keepsCrew_cancelPlan (r : Record) : (s.cancelPlan r).KeepsCrew := by
  have hcancel : (done fun q => q.cancelCall r).KeepsCrew := fun _ h => h.cancelCall r
  unfold State.cancelPlan
  split
  · simp
  · simp [hcancel]

theorem keepsCrew_retire (t : Nat) : (done fun q => q.retireRecord t).KeepsCrew := fun _ h => h.retireRecord t

theorem keepsCrew_handoverPlan (r : Record) : (handoverPlan r).KeepsCrew := by
  simp [handoverPlan, keepsCrew_retire]

theorem keepsCrew_acceptPlan {sender : Option Nat} (hsender : OnRoster sender) (fields : Option Arrival)
    (returns : Option (Nat × Nat × Nat) → Option StallId → List Value) : (s.acceptPlan sender fields returns).KeepsCrew := by
  unfold State.acceptPlan
  dsimp only
  split
  · simp
  split
  · simp
  split
  · simp
  split
  · simp
  split
  · simp
  · exact fun _ h => h.acceptCar _ _ _ hsender

theorem keepsCrew_ackPlan {a : Nat} (ha : a < 32) (r : Record) : (s.ackPlan a r).KeepsCrew := by
  have htake (e : Entry) : (done fun q => q.takeJob r e a).KeepsCrew := fun _ h => h.takeJob r e ha
  unfold State.ackPlan
  split
  · simp
  · split <;> simp [htake]

theorem keepsCrew_declinePlan {a : Nat} (ha : a < 32) (r : Record) : (s.declinePlan a r).KeepsCrew := by
  have hdecline : (done fun q => (q.requeue r.ticket).idleBack a).KeepsCrew := fun _ h => (h.requeue _).idleBack ha
  unfold State.declinePlan
  split
  · simp
  · split <;> simp [hdecline]

theorem keepsCrew_keyAgainPlan {a : Nat} (ha : a < 32) (r : Record) : (s.keyAgainPlan a r).KeepsCrew := by
  have hopen : (done fun q => q.updHook r.hook (Hook.openFor a 1 q.kc.windowTime)).KeepsCrew :=
    fun _ h => h.keyAgain _ _ _ ha
  unfold State.keyAgainPlan
  split
  · simp
  · simp [hopen]

theorem keepsCrew_reparkPlan {a : Nat} (ha : a < 32) (r : Record) : (s.reparkPlan a r).KeepsCrew := by
  unfold State.reparkPlan
  simp only [keepsCrew_ite, keepsCrew_refuseWith, implies_true, true_and]
  exact fun _ _ _ _ _ h => h.reparkCar r ha _

/-- SIGN_ON refuses a roster number above 31 (R114). -/
theorem keepsCrew_signOnPlan (identity n : Nat) : (s.signOnPlan identity n).KeepsCrew := by
  unfold State.signOnPlan
  simp only [keepsCrew_ite, keepsCrew_refuse, implies_true, true_and]
  exact fun hn _ _ _ h => h.signOn identity (Nat.lt_of_not_le hn)

theorem keepsCrew_signOffPlan (a : Nat) : (s.signOffPlan a).KeepsCrew := by
  have hoff : (done fun q => q.signOff a).KeepsCrew := fun _ h => h.signOff a
  unfold State.signOffPlan
  split
  · exact hoff
  · exact hoff
  · simp

theorem keepsCrew_breakPlan (a : Nat) : (s.breakPlan a).KeepsCrew := by
  unfold State.breakPlan
  split
  · exact fun _ h => h.leaveIdle a (by decide)
  · simp
  · simp

theorem keepsCrew_readyPlan {a : Nat} (ha : a < 32) : (s.readyPlan a).KeepsCrew := by
  unfold State.readyPlan
  split
  · exact fun _ h => h.idleBack ha
  · simp
  · simp

/-! ### Commands that move a record, an entry or an attendant -/

theorem crewKept_accept (port : Port) (grade need tier : Nat) (plate : PlateField) (folio : OptWord) (lane : Nat) :
    CrewKept s (execAccept port grade need tier plate folio lane s) := by
  unfold execAccept
  cases port with
  | desk req => exact crewKept_desk _ _ (keepsCrew_acceptPlan onRoster_none _ _)
  | handset hs =>
    refine crewKept_handset _ _ _ (keepsCrew_boundSender _ _ fun a ha => ?_)
    simp [keepsCrew_acceptPlan (onRoster_some ha)]

theorem crewKept_handover (port : Port) (t e : Nat) : CrewKept s (execHandover port t e s) := by
  unfold execHandover
  cases port with
  | desk req => exact crewKept_desk _ _ (keepsCrew_deskRecord _ _ _ keepsCrew_handoverPlan)
  | handset hs => exact crewKept_ticket _ _ _ fun _ _ => keepsCrew_handoverPlan

theorem crewKept_hold (req t e : Nat) : CrewKept s (execHold req t e s) := by
  refine crewKept_desk _ _ (keepsCrew_deskRecord _ _ _ fun r => ?_)
  split
  · simp
  · simp
  · exact fun _ h => h.suspend t _

theorem crewKept_retire (req t e : Nat) : CrewKept s (execRetire req t e s) :=
  crewKept_desk _ _ (keepsCrew_deskRecord _ _ _ fun r => by simp [keepsCrew_retire])

theorem crewKept_resolveStored (req t e : Nat) : CrewKept s (execResolveStored req t e s) := by
  refine crewKept_desk _ _ (keepsCrew_deskRecord _ _ _ fun r => ?_)
  simp only [keepsCrew_ite, keepsCrew_refuse, implies_true, true_and]
  exact fun _ _ _ _ h => (h.setState _ _).clearSuspension _

theorem crewKept_resolveMoveTo (req t z i e : Nat) : CrewKept s (execResolveMoveTo req t z i e s) := by
  refine crewKept_desk _ _ (keepsCrew_deskRecord _ _ _ fun r => ?_)
  split
  · simp
  · split
    · simp
    · simp only [keepsCrew_ite, keepsCrew_refuse, implies_true, true_and]
      exact fun _ _ _ h => (((h.placeInStray r _ _).setState _ _).clearSuspension _).serveDue

theorem crewKept_resolveWaiting (req t e : Nat) : CrewKept s (execResolveWaiting req t e s) := by
  refine crewKept_desk _ _ (keepsCrew_deskRecord _ _ _ fun r => ?_)
  simp only [keepsCrew_ite, keepsCrew_refuse, implies_true, true_and]
  exact fun _ _ _ _ h => (((h.releaseStall _).clearSuspension _).enterWaiting _).serveDue

theorem crewKept_amend (req t : Nat) (plate : Option PlateField) (folio : Option OptWord) (e : Nat) :
    CrewKept s (execAmend req t plate folio e s) :=
  crewKept_desk _ _ (keepsCrew_deskRecord _ _ _ fun _ _ h => h.modRecord _ fun _ hr => hr)

theorem crewKept_call (port : Port) (t tier : Nat) (due : OptWord) (e : Nat) : CrewKept s (execCall port t tier due e s) := by
  unfold execCall
  cases port with
  | desk req => exact crewKept_desk _ _ (keepsCrew_deskRecord _ _ _ (keepsCrew_callPlan _ _ _))
  | handset hs =>
    exact crewKept_handset _ _ _ (keepsCrew_fromSender _ _ fun a _ => keepsCrew_handsetRecord _ _ _ fun r =>
      keepsCrew_actingOnly a r (keepsCrew_callPlan _ _ _ r))

theorem crewKept_cancelCall (port : Port) (t e : Nat) : CrewKept s (execCancelCall port t e s) := by
  unfold execCancelCall
  cases port with
  | desk req => exact crewKept_desk _ _ (keepsCrew_deskRecord _ _ _ keepsCrew_cancelPlan)
  | handset hs => exact crewKept_ticket _ _ _ fun a _ r => keepsCrew_actingOnly a r (keepsCrew_cancelPlan r)

theorem crewKept_signOn (hs : Handset) (n : Nat) : CrewKept s (execSignOn hs n s) :=
  crewKept_handset _ _ _ (by simp [keepsCrew_signOnPlan])

theorem crewKept_parked (hs : Handset) (t : Nat) : CrewKept s (execParked hs t s) := by
  refine crewKept_ticket _ _ _ fun a _ r => keepsCrew_actingOnly a r ?_
  simp only [keepsCrew_ite, keepsCrew_refuse, implies_true, true_and]
  exact fun _ _ _ h => h.setMarks t _ _

theorem crewKept_abandon (hs : Handset) (t : Nat) : CrewKept s (execAbandon hs t s) := by
  refine crewKept_ticket _ _ _ fun a ha r => keepsCrew_actingOnly a r ?_
  simp only [keepsCrew_ite, keepsCrew_refuse, implies_true, true_and]
  exact fun _ _ _ h => (h.undoJob t _).idleBack ha

theorem crewKept_staged (hs : Handset) (t b : Nat) : CrewKept s (execStaged hs t b s) := by
  refine crewKept_handset _ _ _ (keepsCrew_fromSender _ _ fun a _ => keepsCrew_handsetRecord _ _ _ fun r =>
    keepsCrew_actingOnly a r ?_)
  simp only [keepsCrew_ite, keepsCrew_refuse, implies_true, true_and]
  exact fun _ _ _ _ h => h.stagedOk t b

theorem crewKept_repark (hs : Handset) (t : Nat) : CrewKept s (execRepark hs t s) :=
  crewKept_handset _ _ _ (keepsCrew_fromSender _ _ fun _ ha => keepsCrew_handsetRecord _ _ _ (keepsCrew_reparkPlan ha))

/-! ### Layout, settings, restarts, supplies and lines -/

theorem crewKept_definePanel (req p : Nat) : CrewKept s (execDefinePanel req p s) := by
  refine crewKept_desk _ _ (keepsCrew_layoutCommand _ ?_)
  simp only [keepsCrew_ite, keepsCrew_refuse, implies_true, true_and]
  exact fun _ _ _ h => h.definePanel p

theorem crewKept_clearSite (req confirm : Nat) : CrewKept s (execClearSite req confirm s) := by
  refine crewKept_desk _ _ ?_
  simp only [keepsCrew_ite, keepsCrew_refuse, implies_true, true_and]
  exact fun _ _ _ _ h => h.clearSite

theorem crewKept_restart (req confirm : Nat) : CrewKept s (execRestart req confirm s) := by
  unfold execRestart
  split
  · refine crewKept_next fun h => ?_
    have hbegun : Crewed s.begin := h.of_same rfl rfl rfl rfl
    exact hbegun.warmRestart.ite h
  · exact crewKept_desk _ _ (keepsCrew_refuse _)

theorem crewKept_deskUnknown (req code : Nat) : CrewKept s (execDeskUnknownCommand req code s) := by
  unfold execDeskUnknownCommand
  split
  · exact crewKept_next id
  · exact crewKept_desk _ _ (keepsCrew_refuse _)

theorem crewKept_handsetUnknown (hs : Handset) (kind : Nat) : CrewKept s (execHandsetUnknownKind hs kind s) := by
  unfold execHandsetUnknownKind
  split
  · exact crewKept_next id
  · exact crewKept_handset _ _ _ (keepsCrew_refuse _)

theorem crewKept_zoneReport (z : Nat) (occupied : BitVec 96) (check : Nat) :
    CrewKept s (execZoneReport z occupied check s) := by
  refine crewKept_next fun h => ?_
  have hbegun : Crewed s.begin := h.of_same rfl rfl rfl rfl
  exact ((hbegun.takeReport z occupied).finish.heardInRecovery z).ite h

theorem crewKept_elapsedSecond : CrewKept s (execElapsedSecond s) := by
  refine crewKept_next fun h => ?_
  have hbegun : Crewed s.begin := h.of_same rfl rfl rfl rfl
  exact hbegun.tickSecond.finish.ite (h.ite (h.of_same rfl rfl rfl rfl))

theorem crewKept_mainSupplyReturn : CrewKept s (execMainSupplyReturn s) := by
  refine crewKept_next fun h => ?_
  have hpowered : Crewed (s.setPower true s.pw.backup s.pw.resetAsserted) := h.of_same rfl rfl rfl rfl
  exact (Crewed.applyPower s _).ite (hpowered.ite hpowered.warmRestart)

theorem crewKept_resetNReleased : CrewKept s (execResetNReleased s) := by
  refine crewKept_next fun h => ?_
  have hreleased : Crewed (s.setPower s.pw.main s.pw.backup false) := h.of_same rfl rfl rfl rfl
  split
  · exact hreleased.warmRestart
  · exact hreleased

/-- The input's level stands whether or not the controller takes the event (R130, R134). -/
theorem crewKept_laneLoop (l : Nat) (level : Bool) : CrewKept s (execLaneLoopChange l level s) := by
  have hevent : CrewKept { s with pw := { s.pw with lanes := s.pw.lanes.set l level } } (execLaneLoopChange l level s) := by
    unfold execLaneLoopChange
    exact crewKept_event fun _ h => h.of_same rfl rfl rfl rfl
  exact fun t ht h => hevent t ht (h.of_same rfl rfl rfl rfl)

theorem crewKept_bayLoop (b : Nat) (level : Bool) : CrewKept s (execBayLoopChange b level s) := by
  have hevent : CrewKept { s with pw := { s.pw with bays := s.pw.bays.set b level } } (execBayLoopChange b level s) := by
    unfold execBayLoopChange
    exact crewKept_event fun _ h => h.of_same rfl rfl rfl rfl
  exact fun t ht h => hevent t ht (h.of_same rfl rfl rfl rfl)

theorem crewKept_setStallSlot (req z i n : Nat) : CrewKept s (execSetStallSlot req z i n s) := by
  refine crewKept_desk _ _ (keepsCrew_onStall _ _ _ fun x => ?_)
  simp only [keepsCrew_ite, keepsCrew_refuse, implies_true, true_and]
  exact fun _ _ _ _ h => (h.modStall z i _).compareGrade _

theorem crewKept_list (req start filter : Nat) : CrewKept s (execList req start filter s) := by
  refine crewKept_desk _ _ ?_
  split
  · exact keepsCrew_of_same (fun _ => rfl) (fun _ => rfl) (fun _ => rfl) fun _ => rfl
  · simp

theorem crewKept_readHook (req n : Nat) : CrewKept s (execReadHook req n s) := by
  refine crewKept_desk _ _ ?_
  split
  · simp
  · split <;> simp

theorem crewKept_setServiceState (req st : Nat) : CrewKept s (execSetServiceState req st s) := by
  refine crewKept_desk _ _ ?_
  split
  · simp
  · split <;> simp [State.changeService]

theorem crewKept_captureSite (req : Nat) (site0 site1 : Bool) : CrewKept s (execCaptureSite req site0 site1 s) := by
  refine crewKept_desk _ _ ?_
  split <;> exact keepsCrew_of_same (fun _ => rfl) (fun _ => rfl) (fun _ => rfl) fun _ => rfl

end Sys2Proof.Machine
end

section
/-! Every step keeps the idle list exact and every attendant named on the roster (O57). -/

namespace Sys2Proof.Machine

open Sys2Proof.Safety

variable {s : State}

/-- A command that only answers, or writes none of the four tables, needs no lemma of its own. -/
theorem exec_crewKept (c : Instr) : CrewKept s (exec c s) := by
  cases c with
  | accept port grade need tier plate folio lane => exact crewKept_accept _ _ _ _ _ _ _
  | handover port t e => exact crewKept_handover _ _ _
  | hold q t e => exact crewKept_hold _ _ _
  | resolveStored q t e => exact crewKept_resolveStored _ _ _
  | resolveMoveTo q t z i e => exact crewKept_resolveMoveTo _ _ _ _ _
  | resolveWaiting q t e => exact crewKept_resolveWaiting _ _ _
  | retire q t e => exact crewKept_retire _ _ _
  | getRecord q t e =>
    show CrewKept s (execGetRecord q t e s)
    exact crewKept_desk _ _ (keepsCrew_deskRecord _ _ _ fun _ => keepsCrew_report _)
  | amend q t plate folio e => exact crewKept_amend _ _ _ _ _
  | findPlate q plate start =>
    show CrewKept s (execFindPlate q plate start s)
    exact crewKept_desk _ _ (by split <;> simp)
  | findFolio q folio start =>
    show CrewKept s (execFindFolio q folio start s)
    exact crewKept_desk _ _ (by split <;> simp)
  | list q start filter => exact crewKept_list _ _ _
  | setParkLimit q v =>
    show CrewKept s (execSetParkLimit q v s)
    exact crewKept_desk _ _ (keepsCrew_ranged _ _ _ fun _ h => h.of_same rfl rfl rfl rfl)
  | enableStall q z i => exact (crewKept_desk _ _ (by simp) : CrewKept s (execEnableStall q z i s))
  | disableStall q z i => exact (crewKept_desk _ _ (by simp) : CrewKept s (execDisableStall q z i s))
  | openZone q z => exact (crewKept_desk _ _ (by simp) : CrewKept s (execOpenZone q z s))
  | closeZone q z => exact (crewKept_desk _ _ (by simp) : CrewKept s (execCloseZone q z s))
  | setZoneFlags q z night spill =>
    show CrewKept s (execSetZoneFlags q z night spill s)
    exact crewKept_desk _ _ (by split <;> simp)
  | setPreference q tier n zones =>
    show CrewKept s (execSetPreference q tier n zones s)
    exact crewKept_desk _ _ (by split <;> simp)
  | setPair q z => exact (crewKept_desk _ _ (by simp [State.setPaired]) : CrewKept s (execSetPair q z s))
  | unpair q z => exact (crewKept_desk _ _ (by simp [State.setPaired]) : CrewKept s (execUnpair q z s))
  | setSlot q n g =>
    show CrewKept s (execSetSlot q n g s)
    have hregrade : (done fun x => x.regrade n g).KeepsCrew := fun _ h => h.regrade n g
    exact crewKept_desk _ _ (by simp [hregrade])
  | setStallSlot q z i n => exact crewKept_setStallSlot _ _ _ _
  | readZone q z => exact (crewKept_desk _ _ (by simp) : CrewKept s (execReadZone q z s))
  | readStall q z i => exact (crewKept_desk _ _ (by simp) : CrewKept s (execReadStall q z i s))
  | readWaitList q => exact (crewKept_desk _ _ (by simp) : CrewKept s (execReadWaitList q s))
  | setSilenceTime q v =>
    show CrewKept s (execSetSilenceTime q v s)
    exact crewKept_desk _ _ (keepsCrew_ranged _ _ _ fun _ h => h.of_same rfl rfl rfl rfl)
  | setWithdrawal q z on => exact (crewKept_desk _ _ (by split <;> simp) : CrewKept s (execSetWithdrawal q z on s))
  | setWindowTime q v =>
    show CrewKept s (execSetWindowTime q v s)
    exact crewKept_desk _ _ (keepsCrew_ranged _ _ _ fun _ h => h.of_same rfl rfl rfl rfl)
  | setCustodyLimit q v =>
    show CrewKept s (execSetCustodyLimit q v s)
    exact crewKept_desk _ _ (keepsCrew_ranged _ _ _ fun _ h => h.of_same rfl rfl rfl rfl)
  | beginPanelService q p =>
    show CrewKept s (execBeginPanelService q p s)
    have hbegin : (done fun x => x.setPanelService p true).KeepsCrew := fun _ h => h.setPanelService p true
    exact crewKept_desk _ _ (by simp [hbegin])
  | endPanelService q p =>
    show CrewKept s (execEndPanelService q p s)
    have hend : (done fun x => (x.setPanelService p false).lookDue).KeepsCrew := fun _ h => (h.setPanelService p false).lookDue
    exact crewKept_desk _ _ (by simp [hend])
  | readHook q h => exact crewKept_readHook _ _
  | call port t tier due e => exact crewKept_call _ _ _ _ _
  | cancelCall port t e => exact crewKept_cancelCall _ _ _
  | setLeadTime q z v => exact (crewKept_desk _ _ (by simp) : CrewKept s (execSetLeadTime q z v s))
  | readLeadTimes q => exact (crewKept_desk _ _ (by simp) : CrewKept s (execReadLeadTimes q s))
  | readQueue q start => exact (crewKept_desk _ _ (by split <;> simp) : CrewKept s (execReadQueue q start s))
  | setAckTime q v =>
    show CrewKept s (execSetAckTime q v s)
    exact crewKept_desk _ _ (keepsCrew_ranged _ _ _ fun _ h => h.setAckTime v)
  | readRoster q => exact (crewKept_desk _ _ (by simp) : CrewKept s (execReadRoster q s))
  | enableBay q b => exact (crewKept_desk _ _ (by simp [State.setBay]) : CrewKept s (execEnableBay q b s))
  | disableBay q b => exact (crewKept_desk _ _ (by simp [State.setBay]) : CrewKept s (execDisableBay q b s))
  | setBayFlags q b night =>
    show CrewKept s (execSetBayFlags q b night s)
    exact crewKept_desk _ _ (by split <;> simp [State.setBay])
  | setDwellTime q v =>
    show CrewKept s (execSetDwellTime q v s)
    exact crewKept_desk _ _ (keepsCrew_ranged _ _ _ fun _ h => h.of_same rfl rfl rfl rfl)
  | clearLane q l => exact (crewKept_desk _ _ (by simp) : CrewKept s (execClearLane q l s))
  | readKerb q => exact (crewKept_desk _ _ (by simp) : CrewKept s (execReadKerb q s))
  | captureSite q site0 site1 => exact crewKept_captureSite _ _ _
  | readStatus q => exact (crewKept_desk _ _ (by simp) : CrewKept s (execReadStatus q s))
  | readAttention q => exact (crewKept_desk _ _ (by simp) : CrewKept s (execReadAttention q s))
  | clearAttention q causes => exact (crewKept_desk _ _ (by simp) : CrewKept s (execClearAttention q causes s))
  | setAttentionEnables q enables master =>
    show CrewKept s (execSetAttentionEnables q enables master s)
    exact crewKept_desk _ _ (by split <;> simp)
  | defineZone q z n =>
    show CrewKept s (execDefineZone q z n s)
    have hdefine : (done fun x => x.defineZone z n).KeepsCrew := fun _ h => h.defineZone z n
    exact crewKept_desk _ _ (keepsCrew_layoutCommand _ (by simp [hdefine]))
  | defineFixedStall q z i attr g =>
    show CrewKept s (execDefineFixedStall q z i attr g s)
    exact crewKept_desk _ _ (keepsCrew_layoutCommand _ (by split <;> simp))
  | definePanel q p => exact crewKept_definePanel _ _
  | defineBays q bays => exact (crewKept_desk _ _ (by simp) : CrewKept s (execDefineBays q bays s))
  | freezeLayout q => exact (crewKept_desk _ _ (by simp) : CrewKept s (execFreezeLayout q s))
  | setServiceState q state => exact crewKept_setServiceState _ _
  | clearSite q confirm => exact crewKept_clearSite _ _
  | setClock q v => exact (crewKept_desk _ _ (by simp) : CrewKept s (execSetClock q v s))
  | setChainMask q zones =>
    show CrewKept s (execSetChainMask q zones s)
    exact crewKept_desk _ _ (by simp [State.permitsChanged])
  | restart q confirm => exact crewKept_restart _ _
  | deskBadFrame bytes =>
    show CrewKept s (execDeskBadFrame bytes s)
    exact crewKept_next fun h => by split; exacts [h.of_same rfl rfl rfl rfl, h]
  | deskUnknownCommand q code => exact crewKept_deskUnknown _ _
  | deskIgnoredTransaction bytes => exact (crewKept_next id : CrewKept s (execDeskIgnoredTransaction bytes s))
  | signOn hs n => exact crewKept_signOn _ _
  | signOff hs =>
    show CrewKept s (execSignOff hs s)
    exact crewKept_handset _ _ _ (keepsCrew_fromSender _ _ fun a _ => keepsCrew_signOffPlan a)
  | takeBreak hs =>
    show CrewKept s (execTakeBreak hs s)
    exact crewKept_handset _ _ _ (keepsCrew_fromSender _ _ fun a _ => keepsCrew_breakPlan a)
  | ready hs =>
    show CrewKept s (execReady hs s)
    exact crewKept_handset _ _ _ (keepsCrew_fromSender _ _ fun _ ha => keepsCrew_readyPlan ha)
  | parked hs t => exact crewKept_parked _ _
  | ack hs t => exact (crewKept_ticket _ _ _ fun _ ha r => keepsCrew_ackPlan ha r : CrewKept s (execAck hs t s))
  | decline hs t => exact (crewKept_ticket _ _ _ fun _ ha r => keepsCrew_declinePlan ha r : CrewKept s (execDecline hs t s))
  | abandon hs t => exact crewKept_abandon _ _
  | keyAgain hs t =>
    exact (crewKept_ticket _ _ _ fun _ ha r => keepsCrew_keyAgainPlan ha r : CrewKept s (execKeyAgain hs t s))
  | staged hs t b => exact crewKept_staged _ _ _
  | repark hs t => exact crewKept_repark _ _
  | handsetFrameDropped bytes => exact (crewKept_next id : CrewKept s (execHandsetFrameDropped bytes s))
  | handsetUnknownKind hs kind => exact crewKept_handsetUnknown _ _
  | handsetFrameSent =>
    show CrewKept s (execHandsetFrameSent s)
    exact crewKept_event_same (fun _ => rfl) (fun _ => rfl) (fun _ => rfl) fun _ => rfl
  | zoneReport z occupied check => exact crewKept_zoneReport _ _ _
  | silenceTimerExpiry z =>
    show CrewKept s (execSilenceTimerExpiry z s)
    exact crewKept_event_same (fun _ => rfl) (fun _ => rfl) (fun _ => rfl) fun _ => rfl
  | hookLoaded p i tag =>
    show CrewKept s (execHookLoaded p i tag s)
    exact crewKept_event fun _ h => h.loadHook _ _
  | hookEmptied p i latched =>
    show CrewKept s (execHookEmptied p i latched s)
    exact crewKept_event fun _ h => h.emptyHook _ _
  | latchDone p i latch =>
    show CrewKept s (execLatchDone p i latch s)
    exact crewKept_event fun _ h => h.confirmLatch _ _
  | cabinetMessageDropped bytes => exact (crewKept_next id : CrewKept s (execCabinetMessageDropped bytes s))
  | latchRepeat n => exact (crewKept_event fun _ h => h.resendLatch n : CrewKept s (execLatchRepeat n s))
  | windowTimerExpiry n => exact (crewKept_event fun _ h => h.expireWindow n : CrewKept s (execWindowTimerExpiry n s))
  | keyWarningPoint n => exact (crewKept_event fun _ h => h.warnKey n : CrewKept s (execKeyWarningPoint n s))
  | custodyLimitReached n => exact (crewKept_event fun _ h => h.overdueKey n : CrewKept s (execCustodyLimitReached n s))
  | parkLimitReached t => exact (crewKept_event fun _ h => h.lateInbound t : CrewKept s (execParkLimitReached t s))
  | ackTimerExpiry a => exact (crewKept_event fun _ h => h.ackTimeout a : CrewKept s (execAckTimerExpiry a s))
  | dwellTimerExpiry b => exact (crewKept_event fun _ h => h.expireDwell b : CrewKept s (execDwellTimerExpiry b s))
  | driveOffTimerExpiry b => exact (crewKept_event fun _ h => h.driveOff b : CrewKept s (execDriveOffTimerExpiry b s))
  | recoveryTimerExpiry => exact (crewKept_event fun _ h => h.endRecovery : CrewKept s (execRecoveryTimerExpiry s))
  | elapsedSecond => exact crewKept_elapsedSecond
  | laneLoopChange l level => exact crewKept_laneLoop _ _
  | bayLoopChange b level => exact crewKept_bayLoop _ _
  | chainLoad =>
    show CrewKept s (execChainLoad s)
    exact crewKept_event fun _ h => h.loadPermits
  | powerOn backup => exact (crewKept_next fun _ => .applyPower s backup : CrewKept s (execPowerOn backup s))
  | mainSupplyLost =>
    show CrewKept s (execMainSupplyLost s)
    exact crewKept_next fun h => h.of_same rfl rfl rfl rfl
  | mainSupplyReturn => exact crewKept_mainSupplyReturn
  | resetNAsserted =>
    show CrewKept s (execResetNAsserted s)
    exact crewKept_next fun h => h.of_same rfl rfl rfl rfl
  | resetNReleased => exact crewKept_resetNReleased
  | backupSupplyLost =>
    show CrewKept s (execBackupSupplyLost s)
    exact crewKept_next fun h => h.of_same rfl rfl rfl rfl
  | chainClkRisingEdge level =>
    show CrewKept s (execChainClkRisingEdge level s)
    exact crewKept_event_same (fun _ => rfl) (fun _ => rfl) (fun _ => rfl) fun _ => rfl

/-- The step runs the front command, with the rest of the list left to run. -/
theorem step_keepsCrew {t : State} (hstep : step s = .next t) (h : Crewed s) : Crewed t := by
  unfold step at hstep
  split at hstep
  · cases hstep; exact h
  next c rest _ =>
    exact exec_crewKept (s := { s with pending := rest }) c t hstep (h.of_same rfl rfl rfl rfl)

/-- Settles O57: the idle list is the crew's, and every command keeps the crew. -/
theorem everyStepKeepsTheIdleListExact : Obligations.EveryStepKeepsTheIdleListExact := fun _ _ h hstep =>
  crewed_iff_idleListExact.mp (step_keepsCrew hstep (crewed_iff_idleListExact.mpr h))

end Sys2Proof.Machine
end

section
/-! What the shared operations do to the links: the site identity stays (R146), and the frames that join the transmit buffer
stand behind those it held and are the controller's own, none a RESULT (R150, R155). -/

namespace Sys2Proof.Machine

open Sys2Proof.Safety

/-! ### Links that grow -/

/-- The site identity and whether it is fixed (R146). -/
def Links.site (b : Links) : Nat × Bool := (b.siteId, b.siteFixed)

/-- The site identity stays, and the frames that have joined the transmit buffer are none of them a RESULT. -/
structure Links.Grown (b c : Links) : Prop where
  site : c.site = b.site
  frames : ∃ rest, c.tx = b.tx ++ rest ∧ ∀ g ∈ rest, g.kind ≠ 0x81

@[simp] theorem Links.Grown.refl (b : Links) : b.Grown b := ⟨rfl, [], by simp⟩

theorem Links.Grown.of_same {b c : Links} (hsite : c.site = b.site) (htx : c.tx = b.tx) : b.Grown c :=
  ⟨hsite, [], by simp [htx]⟩

theorem Links.Grown.trans {a b c : Links} (h : a.Grown b) (h' : b.Grown c) : a.Grown c := by
  obtain ⟨hsite, rest, htx, hkinds⟩ := h
  obtain ⟨hsite', rest', htx', hkinds'⟩ := h'
  refine ⟨hsite'.trans hsite, rest ++ rest', by rw [htx', htx, List.append_assoc], fun g hg => ?_⟩
  exact (List.mem_append.mp hg).elim (hkinds g) (hkinds' g)

/-- No setting changed, so the site identity did not (R146). -/
theorem site_of_settings {q s : State} (h : settings q = settings s) : q.lk.site = s.lk.site := by
  have hsite (x : State) : (settings x).lk.site = x.lk.site := rfl
  rw [← hsite q, h, hsite]

variable (s : State)

@[simp] theorem site_pushFrame (f : HandsetFrame) : (s.pushFrame f).lk.site = s.lk.site :=
  site_of_settings (settings_pushFrame s f)

/-! ### Messages on the controller's own account (R150 to R153) -/

theorem grown_pushFrame {f : HandsetFrame} (hf : f.kind ≠ 0x81) : s.lk.Grown (s.pushFrame f).lk := by
  refine ⟨site_pushFrame s f, ?_⟩
  unfold State.pushFrame
  split
  · exact ⟨[f], rfl, by simpa using hf⟩
  · exact ⟨[], by simp⟩

theorem grown_sendTo (a : Nat) {kind : Nat} (hkind : kind ≠ 0x81) (body : List Value) :
    s.lk.Grown (s.sendTo a kind body).lk := by
  unfold State.sendTo
  split
  · exact grown_pushFrame s hkind
  · exact .refl _

theorem grown_sendWithdrawn (a t reason : Nat) : s.lk.Grown (s.sendWithdrawn a t reason).lk :=
  grown_sendTo s a (by decide) _

theorem grown_withdrawOffer (a t : Nat) : s.lk.Grown (s.withdrawOffer a t).lk := grown_sendWithdrawn s a t 0

theorem grown_suspendJob (a t : Nat) : s.lk.Grown (s.suspendJob a t).lk := grown_sendWithdrawn s a t 1

/-- The attendant of a dropped entry is told, by the entry's status (R124). -/
theorem grown_dropEntry (t : Nat) : s.lk.Grown (s.dropEntry t).lk := by
  unfold State.dropEntry
  split
  · exact .refl _
  · split
    · simpa using grown_withdrawOffer (s.removeEntry t) _ t
    · simpa using grown_suspendJob (s.removeEntry t) _ t
    · simp

theorem grown_suspendParker (r : Record) : s.lk.Grown (s.suspendParker r).lk := by
  unfold State.suspendParker
  split
  · split
    · exact .refl _
    · exact grown_suspendJob s _ _
  · exact .refl _

theorem grown_suspend (t : Nat) (why : SuspendReason) : s.lk.Grown (s.suspend t why).lk := by
  cases hr : s.record? t with
  | none => simp [State.suspend, hr]
  | some r =>
    obtain ⟨-, -, hlk, -, -⟩ := suspend_frame hr why
    rw [hlk]
    exact (grown_suspendParker s r).trans (grown_dropEntry _ t)

/-! ### The end of an event (R50, R118, R151, R153) -/

theorem grown_announceGrant (r : Record) (st : StallId) : s.lk.Grown (s.announceGrant r st).lk := by
  unfold State.announceGrant
  generalize List.range Config.attendants = l
  induction l generalizing s with
  | nil => exact .refl _
  | cons a l ih => exact (grown_sendTo s a (by decide) _).trans (ih _)

theorem grown_grant (r : Record) (st : StallId) (fallback : Bool) : s.lk.Grown (s.grant r st fallback).lk := by
  rw [grant_eq]
  simpa using grown_announceGrant ((s.granting r st fallback).addEntry (r.moveEntry s.sa.clock)) r st

theorem grown_servePass : s.lk.Grown s.servePass.lk :=
  serveList_induction (P := fun q => s.lk.Grown q.lk) (.refl _) fun q r st fallback _ _ h =>
    h.trans (grown_grant q r st fallback)

theorem grown_offer (e : Entry) (a : Nat) : s.lk.Grown (s.offer e a).lk := by
  unfold State.offer
  dsimp only
  split
  · simp
  · simpa using grown_sendTo (((s.modEntry e.ticket fun g => { g with status := .offered, attendant := some a }).leaveIdle a
      .offered).modAttendant a fun x => { x with ack := some (Timer.start s.dr.ackTime) }) a (by decide) _

theorem grown_lookLoop (n : Nat) : s.lk.Grown (s.lookLoop n).lk := by
  induction n generalizing s with
  | zero => exact .refl _
  | succ n ih =>
    unfold State.lookLoop
    split
    · exact (grown_offer s _ _).trans (ih _)
    · exact .refl _

theorem grown_look : s.lk.Grown s.look.lk := by
  unfold State.look
  split
  · exact grown_lookLoop s _
  · exact .refl _

theorem grown_serveStep : s.lk.Grown s.serveStep.lk := by
  unfold State.serveStep
  split
  · exact grown_servePass s
  · exact .refl _

theorem grown_lookStep : s.lk.Grown s.lookStep.lk := by
  unfold State.lookStep
  split
  · exact grown_look s
  · exact .refl _

theorem grown_finish : s.lk.Grown s.finish.lk := (grown_serveStep s).trans (grown_lookStep _)

/-! ### The effects of single commands -/

theorem grown_newCall (r : Record) (c : CallField) : s.lk.Grown (s.newCall r c).lk := by
  have hleave : s.lk.Grown (s.leaveForCall r).lk := by
    unfold State.leaveForCall
    split
    · simp
    · simpa using grown_dropEntry s r.ticket
    · exact .refl _
    · simp
  simpa [newCall_eq, State.setCall] using hleave

theorem grown_cancelCall (r : Record) : s.lk.Grown (s.cancelCall r).lk := by
  unfold State.cancelCall
  dsimp only
  split <;> simpa using grown_dropEntry s r.ticket

@[simp] theorem State.upgradeCall_lk (t tier : Nat) : (s.upgradeCall t tier).lk = s.lk := by simp [State.upgradeCall]

@[simp] theorem State.takeArrival_lk (l : Option Nat) : (s.takeArrival l).lk = s.lk := by cases l <;> rfl

@[simp] theorem State.acceptCar_lk (f : Arrival) (hook : Nat) (found : Option (StallId × Bool)) (sender : Option Nat) :
    (s.acceptCar f hook found sender).lk = s.lk := by
  unfold State.acceptCar
  dsimp only
  split <;> simp

@[simp] theorem State.takeJob_lk (r : Record) (e : Entry) (a : Nat) : (s.takeJob r e a).lk = s.lk := by
  unfold State.takeJob State.acked
  split <;> simp

@[simp] theorem State.reparkCar_lk (r : Record) (a : Nat) (found : Option (StallId × Bool)) :
    (s.reparkCar r a found).lk = s.lk := by
  unfold State.reparkCar
  dsimp only
  split <;> simp

@[simp] theorem State.signOff_lk (a : Nat) : (s.signOff a).lk = s.lk := rfl

end Sys2Proof.Machine
end

section
/-! Every handset message as a plan under its header: what its effect adds to the transmit buffer, and the check of its sender
(R147 to R149, R155). -/

namespace Sys2Proof.Machine

open Sys2Proof.Safety

/-! ### Plans whose effect grows the links -/

/-- Whatever state the plan's effect is applied to, it keeps the site identity and adds no RESULT. -/
def Plan.Grows (p : Plan) : Prop := ∀ q : State, q.lk.Grown (p.effect q).lk

variable {s : State}

@[simp] theorem grows_refuse (a : Answer) : (refuse a).Grows := fun _ => .refl _

@[simp] theorem grows_refuseWith (blank : List Value) (a : Answer) : (refuseWith blank a).Grows := fun _ => .refl _

@[simp] theorem grows_report (fields : List Value) : (report fields).Grows := fun _ => .refl _

@[simp] theorem grows_done (f : State → State) : (done f).Grows ↔ ∀ q : State, q.lk.Grown (f q).lk := .rfl

@[simp] theorem grows_ite (c : Prop) [Decidable c] (p q : Plan) :
    (if c then p else q).Grows ↔ (c → p.Grows) ∧ (¬c → q.Grows) := by
  split <;> simp_all

theorem grows_boundSender (h : Handset) (blank : List Value) {own : Nat → Plan} (hown : ∀ a, (own a).Grows) :
    (s.boundSender h blank own).Grows := by
  unfold State.boundSender
  split
  · simp
  · exact hown _

theorem grows_fromSender (h : Handset) (blank : List Value) {own : Nat → Plan} (hown : ∀ a, (own a).Grows) :
    (s.fromSender h blank own).Grows :=
  grows_boundSender h blank fun a => by simp [hown a]

theorem grows_handsetRecord (t : Nat) (ok : Bool) (blank : List Value) {own : Record → Plan} (hown : ∀ r, (own r).Grows) :
    (s.handsetRecord t ok blank own).Grows := by
  unfold State.handsetRecord
  split
  · simp
  · split
    · simp
    · exact hown _

theorem grows_actingOnly (a : Nat) (r : Record) {p : Plan} (hp : p.Grows) : (s.actingOnly a r p).Grows := by
  simp [State.actingOnly, hp]

/-- A message that names a ticket comes to its own plan past the checks of R127 and R148. -/
theorem grows_ticket (h : Handset) (t : Nat) (ok : Bool) (blank : List Value) {own : Nat → Record → Plan}
    (hown : ∀ a r, (own a r).Grows) : (s.fromSender h blank fun a => s.handsetRecord t ok blank (own a)).Grows :=
  grows_fromSender h blank fun a => grows_handsetRecord t ok blank (hown a)

/-! ### The plans of the single commands -/

theorem grows_callPlan (tier : Option Nat) (due : Option Time) (source : Source) (r : Record) :
    (s.callPlan tier due source r).Grows := by
  have hnew (c : CallField) : (done fun q => q.newCall r c).Grows := fun q => grown_newCall q r c
  unfold State.callPlan
  dsimp only
  split
  · simp
  · split
    · split
      · exact hnew _
      · split <;> simp
    · simp [-grows_done, hnew]

theorem grows_cancelPlan (r : Record) : (s.cancelPlan r).Grows := by
  have hcancel : (done fun q => q.cancelCall r).Grows := fun q => grown_cancelCall q r
  unfold State.cancelPlan
  split
  · simp
  · simp [-grows_done, hcancel]

theorem grows_handoverPlan (r : Record) : (handoverPlan r).Grows := by simp [handoverPlan]

theorem grows_acceptPlan (sender : Option Nat) (fields : Option Arrival)
    (returns : Option (Nat × Nat × Nat) → Option StallId → List Value) : (s.acceptPlan sender fields returns).Grows := by
  unfold State.acceptPlan
  dsimp only
  split
  · simp
  split
  · simp
  split
  · simp
  split
  · simp
  split
  · simp
  · intro q; simp

theorem grows_ackPlan (a : Nat) (r : Record) : (s.ackPlan a r).Grows := by
  unfold State.ackPlan
  split
  · simp
  · split <;> simp

theorem grows_declinePlan (a : Nat) (r : Record) : (s.declinePlan a r).Grows := by
  unfold State.declinePlan
  split
  · simp
  · split <;> simp

theorem grows_keyAgainPlan (a : Nat) (r : Record) : (s.keyAgainPlan a r).Grows := by
  unfold State.keyAgainPlan
  split <;> simp

theorem grows_parkedPlan (t : Nat) (r : Record) : (parkedPlan t r).Grows := by simp [parkedPlan]

theorem grows_abandonPlan (t a : Nat) (r : Record) : (abandonPlan t a r).Grows := by simp [abandonPlan]

theorem grows_stagedPlan (t b : Nat) (r : Record) : (s.stagedPlan t b r).Grows := by simp [State.stagedPlan]

theorem grows_reparkPlan (a : Nat) (r : Record) : (s.reparkPlan a r).Grows := by
  unfold State.reparkPlan
  simp only [grows_ite, grows_refuseWith, implies_true, true_and]
  intro _ _ _ _ q
  simp

theorem grows_signOnPlan (identity n : Nat) : (s.signOnPlan identity n).Grows := by
  unfold State.signOnPlan
  simp only [grows_ite, grows_refuse, implies_true, true_and]
  intro _ _ _ q
  simp

theorem grows_signOffPlan (a : Nat) : (s.signOffPlan a).Grows := by
  unfold State.signOffPlan
  split <;> simp

theorem grows_breakPlan (a : Nat) : (s.breakPlan a).Grows := by
  unfold State.breakPlan
  split <;> simp

theorem grows_readyPlan (a : Nat) : (s.readyPlan a).Grows := by
  unfold State.readyPlan
  split <;> simp

/-! ### Every handset message -/

/-- A message with the header is the plan of its kind, and the plan's effect adds no RESULT. -/
theorem exec_of_handsetHeader {c : Instr} {h : Handset} {k : Nat} (hc : handsetHeader c = some (h, k)) :
    ∃ (ticket : Option Nat) (plan : State → Plan),
      (∀ s, exec c s = handsetMessage h k ticket plan s) ∧ ∀ s, (plan s).Grows := by
  unfold handsetHeader at hc
  split at hc <;> cases hc
  case h_1 roster => exact ⟨_, _, fun s => exec_signOn s h roster, fun s => by simp [grows_signOnPlan]⟩
  case h_2 => exact ⟨_, _, fun s => exec_signOff s h, fun s => grows_fromSender h [] grows_signOffPlan⟩
  case h_3 => exact ⟨_, _, fun s => exec_takeBreak s h, fun s => grows_fromSender h [] grows_breakPlan⟩
  case h_4 => exact ⟨_, _, fun s => exec_ready s h, fun s => grows_fromSender h [] grows_readyPlan⟩
  case h_5 =>
    exact ⟨_, _, fun s => exec_accept_handset s h _ _ _ _ _ _,
      fun s => grows_boundSender h _ fun a => by simp [grows_acceptPlan]⟩
  case h_6 t =>
    exact ⟨_, _, fun s => exec_parked s h t,
      fun s => grows_ticket h t true [] fun a r => grows_actingOnly a r (grows_parkedPlan t r)⟩
  case h_7 t _ _ _ =>
    exact ⟨_, _, fun _ => rfl, fun s => grows_ticket h t _ [] fun a r => grows_actingOnly a r (grows_callPlan _ _ _ r)⟩
  case h_8 t e =>
    exact ⟨_, _, fun s => exec_cancelCall_handset s h t e,
      fun s => grows_ticket h t true [] fun a r => grows_actingOnly a r (grows_cancelPlan r)⟩
  case h_9 t => exact ⟨_, _, fun s => exec_ack s h t, fun s => grows_ticket h t true [] grows_ackPlan⟩
  case h_10 t => exact ⟨_, _, fun s => exec_decline s h t, fun s => grows_ticket h t true [] grows_declinePlan⟩
  case h_11 t =>
    exact ⟨_, _, fun s => exec_abandon s h t,
      fun s => grows_ticket h t true [] fun a r => grows_actingOnly a r (grows_abandonPlan t a r)⟩
  case h_12 t => exact ⟨_, _, fun s => exec_keyAgain s h t, fun s => grows_ticket h t true [] grows_keyAgainPlan⟩
  case h_13 t bay =>
    exact ⟨_, _, fun s => exec_staged s h t bay,
      fun s => grows_ticket h t _ [] fun a r => grows_actingOnly a r (grows_stagedPlan t bay r)⟩
  case h_14 t e =>
    exact ⟨_, _, fun s => exec_handover_handset s h t e, fun s => grows_ticket h t true [] fun _ => grows_handoverPlan⟩
  case h_15 t => exact ⟨_, _, fun s => exec_repark s h t, fun s => grows_ticket h t true _ grows_reparkPlan⟩

/-- The check of the sender comes first in every message but SIGN_ON (R148). -/
theorem exec_boundSender_of_handsetHeader {c : Instr} {h : Handset} {k : Nat} (hc : handsetHeader c = some (h, k))
    (hk : k ≠ 1) :
    ∃ (ticket : Option Nat) (blank : List Value) (own : State → Nat → Plan),
      ∀ s, exec c s = handsetMessage h k ticket (fun s => s.boundSender h blank (own s)) s := by
  unfold handsetHeader at hc
  split at hc <;> cases hc
  case h_1 => exact absurd rfl hk
  all_goals exact ⟨_, _, _, fun _ => rfl⟩

end Sys2Proof.Machine
end

section
/-! The handset port's answers (R145, R147 to R149, R155), and what reaches no command at either port (R157, R158, R187). -/

namespace Sys2Proof.Machine

open Sys2Proof.Safety

variable {s : State} {h : Handset} {k : Nat} {ticket : Option Nat} {plan : State → Plan}

/-! ### The RESULT of a message (R149, R155) -/

/-- The site filter passes every message until the identity is fixed, and then those of its own site (R147). -/
theorem siteAdmits_iff : s.siteAdmits h = true ↔ s.lk.siteFixed = false ∨ h.site = s.lk.siteId := by
  simp [State.siteAdmits]

/-- The RESULT of a message, its body the kind, the outcome, the ticket and the fields (11.4). -/
def resultFrame (h : Handset) (k : Nat) (a : Answer) (ticket : Option Nat) (fields : List Value) : HandsetFrame :=
  { site := h.site, identity := h.identity, kind := 0x81, req := h.req
    body := [.byte k, .byte a.code, .optTicket ticket] ++ fields }

theorem sendResult_of_room (hroom : s.lk.tx.length < 64) (a : Answer) (fields : List Value) :
    s.begin.sendResult h k a ticket fields =
      { s.begin with lk := { s.lk with tx := s.lk.tx ++ [resultFrame h k a ticket fields] } } :=
  if_pos hroom

theorem handsetMessage_filtered (hadmits : s.siteAdmits h = false) : handsetMessage h k ticket plan s = .next s := by
  simp [handsetMessage, hadmits]

/-- RESULT goes first, and what the effect and the end of the event add behind it is no RESULT (R155). -/
theorem handsetMessage_answered (hrun : s.running = true) (hadmits : s.siteAdmits h = true)
    (hroom : s.lk.tx.length < 64) (hgrows : (plan s).Grows) :
    ∃ t rest, handsetMessage h k ticket plan s = .next t ∧
      t.lk.tx = s.lk.tx ++
        resultFrame h k (plan s).answer (ticket <|> (plan s).issued) (plan s).fields :: rest ∧
      ∀ g ∈ rest, g.kind ≠ 0x81 := by
  generalize hresult : resultFrame h k (plan s).answer (ticket <|> (plan s).issued) (plan s).fields = f
  have hsent : s.begin.sendResult h k (plan s).answer (ticket <|> (plan s).issued) (plan s).fields =
      { s.begin with lk := { s.lk with tx := s.lk.tx ++ [f] } } := by
    rw [sendResult_of_room hroom, hresult]
  obtain ⟨rest, htx, hkinds⟩ :=
    ((hgrows { s.begin with lk := { s.lk with tx := s.lk.tx ++ [f] } }).trans (grown_finish _)).frames
  refine ⟨_, rest, by rw [handsetMessage, hsent, hrun, hadmits], ?_, hkinds⟩
  simpa using htx

/-- A refusal is its RESULT alone. -/
theorem handsetMessage_refused {blank : List Value} {a : Answer} (hrun : s.running = true) (hadmits : s.siteAdmits h = true)
    (hplan : plan s = refuseWith blank a) :
    handsetMessage h k ticket plan s = .next (s.begin.sendResult h k a ticket blank) := by
  have hend : (s.begin.sendResult h k a ticket blank).finish = s.begin.sendResult h k a ticket blank :=
    finish_of_clear (by simp [State.sendResult])
  have hticket : (ticket <|> (none : Option Nat)) = ticket := by cases ticket <;> rfl
  simp [handsetMessage, hrun, hadmits, hplan, refuseWith, hend, hticket]

/-- Settles O7: a message is the plan of its kind, RESULT goes first, and no effect sends another. -/
theorem handsetMessagesAreAnsweredOnce : Obligations.HandsetMessagesAreAnsweredOnce := by
  intro c s h k hrun hc
  obtain ⟨ticket, plan, hexec, hgrows⟩ := exec_of_handsetHeader hc
  rw [hexec]
  refine ⟨fun hfixed hsite => handsetMessage_filtered ?_, fun hadmits hroom => ?_⟩
  · simp [State.siteAdmits, hfixed, hsite]
  · obtain ⟨t, rest, hnext, htx, hkinds⟩ :=
      handsetMessage_answered (ticket := ticket) (k := k) hrun (siteAdmits_iff.mpr hadmits) hroom (hgrows s)
    exact ⟨t, _, rest, hnext, htx, rfl, rfl, rfl, rfl, rfl, hkinds⟩

/-! ### What reaches no command -/

/-- A kind that 11.2 does not list has no field length. -/
theorem handsetFieldLength_of_unknown (hk : handsetKind k = false) : handsetFieldLength k = none := by
  unfold handsetFieldLength
  split
  case h_16 => rfl
  all_goals exact absurd hk (by decide)

/-- A code that 11.2 does not list has no field length. -/
theorem deskFieldLength_of_unknown {code : Nat} (hcode : deskCode code = false) : deskFieldLength code = none := by
  unfold deskFieldLength
  split
  case h_62 => rfl
  all_goals exact absurd hcode (by decide)

theorem exec_handsetUnknownKind (hrun : s.running = true) (hk : handsetKind k = false) (hadmits : s.siteAdmits h = true) :
    exec (.handsetUnknownKind h k) s = .next (s.begin.sendResult h k .badField none []) := by
  have hnone := handsetFieldLength_of_unknown hk
  have hport : exec (.handsetUnknownKind h k) s = handsetMessage h k none (fun _ => refuse .badField) s :=
    if_neg (by simp [hnone])
  rw [hport, handsetMessage_refused hrun hadmits rfl]

theorem exec_deskUnknownCommand {code : Nat} (hrun : s.running = true) (hcode : deskCode code = false) (q : Nat) :
    exec (.deskUnknownCommand q code) s = .next (s.begin.respond (some (q, code)) .badField []) := by
  have hnone := deskFieldLength_of_unknown hcode
  have hport : exec (.deskUnknownCommand q code) s = deskCommand q code (fun _ => refuse .badField) s :=
    if_neg (by simp [hnone])
  rw [hport, deskCommand, hrun, if_pos rfl]
  exact congrArg (fun t : State => Host.Outcome.next (t.respond (some (q, code)) .badField [])) (finish_begin s)

theorem exec_handsetFrameSent (s : State) : exec .handsetFrameSent s =
    event (fun s => !s.lk.tx.isEmpty) (fun s => { s with lk := { s.lk with tx := s.lk.tx.tail } }) s := rfl

theorem exec_handsetFrameSent_cons {f : HandsetFrame} {rest : List HandsetFrame} (hrun : s.running = true)
    (htx : s.lk.tx = f :: rest) :
    exec .handsetFrameSent s = .next { s.begin with lk := { s.lk with tx := rest } } := by
  have htaken := eventLeaves_of_occurs (exec_handsetFrameSent s) hrun (by simp [htx])
  rw [EventLeaves, finish_of_clear rfl] at htaken
  simpa [htx] using htaken

/-- A message from a handset that is bound to no attendant is its RESULT alone, NOT_SIGNED_ON (R148). -/
theorem exec_of_unbound {c : Instr} (hrun : s.running = true) (hc : handsetHeader c = some (h, k)) (hk : k ≠ 1)
    (hadmits : s.siteAdmits h = true) (hunbound : s.boundTo? h.identity = none) :
    ∃ ticket blank, exec c s = .next (s.begin.sendResult h k .notSignedOn ticket blank) := by
  obtain ⟨ticket, blank, own, hexec⟩ := exec_boundSender_of_handsetHeader hc hk
  refine ⟨ticket, blank, ?_⟩
  rw [hexec, handsetMessage_refused hrun hadmits]
  simp [State.boundSender, hunbound]

/-- Settles O8: the frames at the handset port, the transactions at the desk port, and the sender that is not signed on. -/
theorem portsAnswerWhatReachesNoCommand : Obligations.PortsAnswerWhatReachesNoCommand := by
  refine ⟨fun s hrun => ⟨fun _ => rfl, fun h k hk hadmits => exec_handsetUnknownKind hrun hk hadmits,
      fun f rest htx => exec_handsetFrameSent_cons hrun htx,
      fun htx => exec_of_not_occurs (exec_handsetFrameSent s) (by simp [htx])⟩,
    fun s hrun => ⟨fun bytes hhead hbad => ?_, fun q code hcode => exec_deskUnknownCommand hrun hcode q, fun _ => rfl⟩,
    fun c s h k hrun hc hk hadmits hunbound hroom => ?_⟩
  · exact congrArg Host.Outcome.next (if_pos ⟨hrun, hhead, hbad⟩)
  · obtain ⟨ticket, blank, hexec⟩ := exec_of_unbound hrun hc hk hadmits hunbound
    rw [sendResult_of_room hroom] at hexec
    exact ⟨_, hexec, rfl, ticket, blank, rfl⟩

end Sys2Proof.Machine
end

section
/-! CAPTURE SITE (R146), and the site identity through the ports and the events. -/

namespace Sys2Proof.Machine

open Sys2Proof.Safety

variable {s : State}

/-! ### CAPTURE SITE -/

/-- The straps are sampled where no identity is fixed (R146). -/
def State.capturePlan (s : State) (site0 site1 : Bool) : Plan :=
  if s.lk.siteFixed then { answer := .already, fields := [.byte s.lk.siteId], effect := id }
  else
    { answer := .done, fields := [.byte (strapValue site0 site1)]
      effect := fun q =>
        { q with
          lk := { q.lk with siteId := strapValue site0 site1, siteFixed := true }
          pw := { q.pw with site0 := site0, site1 := site1 } } }

theorem exec_captureSite (s : State) (q : Nat) (site0 site1 : Bool) :
    exec (.captureSite q site0 site1) s = deskCommand q 0x60 (fun s => s.capturePlan site0 site1) s := rfl

theorem capturePlan_fixed (hfixed : s.lk.siteFixed = true) (site0 site1 : Bool) :
    s.capturePlan site0 site1 = { answer := .already, fields := [.byte s.lk.siteId], effect := id } :=
  if_pos hfixed

theorem captureSite_already (hrun : s.running = true) (hfixed : s.lk.siteFixed = true) (q : Nat) (site0 site1 : Bool) :
    DeskReports (.captureSite q site0 site1) s .already [.byte s.lk.siteId] :=
  deskReports_of_plan rfl (exec_captureSite s q site0 site1) hrun (capturePlan_fixed hfixed site0 site1) rfl

theorem captureSite_samples (hrun : s.running = true) (hopen : s.lk.siteFixed = false) (q : Nat) (site0 site1 : Bool) :
    DeskLeaves (.captureSite q site0 site1) s
      { s.begin with
        lk := { s.lk with siteId := strapValue site0 site1, siteFixed := true }
        pw := { s.pw with site0 := site0, site1 := site1 } }
      .done [.byte (strapValue site0 site1)] :=
  deskLeaves_of_plan rfl (exec_captureSite s q site0 site1) hrun (if_neg (by simp [hopen])) rfl

/-! ### Plans of desk commands that grow the links -/

theorem grows_ranged (lo hi v : Nat) {f : State → State} (hf : ∀ q : State, q.lk.Grown (f q).lk) :
    (ranged lo hi v f).Grows := by
  simp [ranged, hf]

theorem grows_layoutCommand {p : Plan} (hp : p.Grows) : (s.layoutCommand p).Grows := by
  simp [State.layoutCommand, hp]

@[simp] theorem grows_onZone (z : Nat) {p : Plan} (hp : p.Grows) : (s.onZone z p).Grows := by
  simp [State.onZone, hp]

@[simp] theorem grows_onBay (b : Nat) {own : Bay → Plan} (hown : ∀ x, (own x).Grows) : (s.onBay b own).Grows := by
  simp [State.onBay, hown]

@[simp] theorem grows_onStall (z i : Nat) {own : Stall → Plan} (hown : ∀ x, (own x).Grows) : (s.onStall z i own).Grows := by
  unfold State.onStall
  split <;> simp [hown]

theorem grows_deskRecord (t e : Nat) (ok : Bool) {own : Record → Plan} (hown : ∀ r, (own r).Grows) :
    (s.deskRecord t e ok own).Grows := by
  unfold State.deskRecord
  split
  · simp
  · split
    · simp
    · split
      · simp
      · simp [hown]

/-! ### Effects of the other desk commands -/

@[simp] theorem State.placeInStray_lk (s : State) (r : Record) (st : StallId) (x : Stall) :
    (s.placeInStray r st x).lk = s.lk := by
  unfold State.placeInStray
  dsimp only
  split <;> simp

@[simp] theorem State.clearSuspension_lk (s : State) (t : Nat) : (s.clearSuspension t).lk = s.lk := rfl

@[simp] theorem State.regrade_lk (s : State) (n g : Nat) : (s.regrade n g).lk = s.lk :=
  foldl_leaves _ State.lk State.compareGrade (fun q x => by simp) _

@[simp] theorem State.relatch_lk (s : State) (p : Nat) (x : Panel) (b : Bool) (i : Nat) : (s.relatch p x b i).lk = s.lk := by
  rcases relatch_cases p x b s i with ⟨k, -, -, hq⟩ | ⟨-, hq⟩
  · rw [hq]; simp
  · rw [hq]

@[simp] theorem State.setPanelService_lk (s : State) (p : Nat) (b : Bool) : (s.setPanelService p b).lk = s.lk := by
  rw [setPanelService_eq, foldl_leaves _ State.lk _ fun q i => q.relatch_lk p (s.panel p) b i]
  simp

@[simp] theorem State.setBay_lk (s : State) (b : Nat) (f : Bay → Bay) : (s.setBay b f).lk = s.lk := by simp [State.setBay]

@[simp] theorem State.setPaired_lk (s : State) (z : Nat) (b : Bool) : (s.setPaired z b).lk = s.lk := by simp [State.setPaired]

@[simp] theorem State.permitsChanged_lk (s before : State) : (s.permitsChanged before).lk = s.lk := by
  simp [State.permitsChanged]

@[simp] theorem State.changeService_lk (s : State) (st : ServiceState) : (s.changeService st).lk = s.lk := by
  simp [State.changeService]

@[simp] theorem State.defineZone_lk (s : State) (z n : Nat) : (s.defineZone z n).lk = s.lk := by
  unfold State.defineZone
  dsimp only
  split <;> simp

/-- The mask is no part of what a frame or the site identity reads. -/
theorem grown_setMask (q : State) (m : BitVec 12) : q.lk.Grown ({ q.lk with mask := m } : Links) := .of_same rfl rfl

end Sys2Proof.Machine
end

section
/-! Every step but a power-on keeps a captured site identity (R146). -/

namespace Sys2Proof.Machine

open Sys2Proof.Safety

variable {s : State}

/-! ### The ports and the events -/

/-- The state an outcome answers, if any, has the site identity of `s`. -/
def SiteKept (s : State) (o : Host.Outcome State Fault Refusal) : Prop := ∀ t, o = .next t → t.lk.site = s.lk.site

theorem siteKept_next {t : State} (h : t.lk.site = s.lk.site) : SiteKept s (.next t) := by
  rintro q ⟨⟩; exact h

@[simp] theorem site_finish (s : State) : s.finish.lk.site = s.lk.site := (grown_finish s).site

theorem siteKept_desk {plan : State → Plan} {req code : Nat} (hp : ((plan s).effect s.begin).lk.site = s.lk.site) :
    SiteKept s (deskCommand req code plan s) := by
  refine siteKept_next ?_
  split
  · exact (site_finish _).trans hp
  · rfl

theorem siteKept_grows {plan : State → Plan} {req code : Nat} (hp : (plan s).Grows) :
    SiteKept s (deskCommand req code plan s) :=
  siteKept_desk (hp s.begin).site

theorem siteKept_handset {plan : State → Plan} {h : Handset} {kind : Nat} {ticket : Option Nat} (hp : (plan s).Grows) :
    SiteKept s (handsetMessage h kind ticket plan s) := by
  refine siteKept_next ?_
  split
  · exact (site_finish _).trans ((hp _).site.trans (site_pushFrame _ _))
  · rfl

theorem siteKept_event {occurs : State → Bool} {f : State → State} (hf : ∀ q : State, (f q).lk.site = q.lk.site) :
    SiteKept s (event occurs f s) := by
  refine siteKept_next ?_
  split
  · exact (site_finish _).trans (hf s.begin)
  · rfl

/-- An event at an input whose level stands whether or not the event is taken (R130, R134). -/
theorem siteKept_input {occurs : State → Bool} {f : State → State} {p : State} (hp : p.lk = s.lk)
    (hf : ∀ q : State, (f q).lk.site = q.lk.site) : SiteKept s (event occurs f p) := fun t ht =>
  (siteKept_event hf t ht).trans (congrArg Links.site hp)

/-! ### What panels, zones and timers report -/

theorem site_loadHook (q : State) (h tag : Nat) : (q.loadHook h tag).lk.site = q.lk.site := by
  have hmishung : (q.mishung h tag).lk = q.lk := by simp [State.mishung]
  unfold State.loadHook
  split
  · rfl
  · split
    · rfl
    · rfl
    · rfl
    · rw [hmishung]
    · split <;> simp [hmishung]
    · split <;> simp [hmishung]

theorem site_emptyHook (q : State) (h : Nat) (latched : Bool) : (q.emptyHook h latched).lk.site = q.lk.site := by
  unfold State.emptyHook
  split
  · rfl
  · split
    · simp
    · split
      · exact site_of_settings (settings_forceKey q h _)
      · simp
    · split
      · exact site_of_settings (settings_serviceKey q h _)
      · exact site_of_settings (settings_forceKey q h _)
    · rfl

theorem site_confirmLatch (q : State) (h : Nat) (p : Latch) : (q.confirmLatch h p).lk.site = q.lk.site := by
  refine site_of_settings ?_
  unfold State.confirmLatch
  dsimp only
  split
  · rfl
  · split
    · split
      · split <;> simp
      · simp
    · rfl

theorem site_resendLatch (q : State) (h : Nat) : (q.resendLatch h).lk.site = q.lk.site := by
  unfold State.resendLatch
  split <;> simp

theorem site_expireWindow (q : State) (h : Nat) : (q.expireWindow h).lk.site = q.lk.site := by
  have hlapse (k : Hook) := site_of_settings (settings_completeLapse q h k)
  unfold State.expireWindow
  split
  · rfl
  · split
    · split <;> simp [hlapse]
    · exact hlapse _
    · simp

theorem site_warnKey (q : State) (h : Nat) : (q.warnKey h).lk.site = q.lk.site := by
  refine site_of_settings ?_
  unfold State.warnKey
  dsimp only
  split
  · rfl
  · split
    · simp
    · split <;> simp

theorem site_overdueKey (q : State) (h : Nat) : (q.overdueKey h).lk.site = q.lk.site := by
  unfold State.overdueKey
  dsimp only
  split
  · rfl
  · split <;> simp

theorem site_ackTimeout (q : State) (a : Nat) : (q.ackTimeout a).lk.site = q.lk.site := by
  unfold State.ackTimeout
  dsimp only
  split <;> simp

theorem site_expireDwell (q : State) (b : Nat) : (q.expireDwell b).lk.site = q.lk.site := by
  unfold State.expireDwell
  dsimp only
  split <;> simp

theorem site_driveOff (q : State) (b : Nat) : (q.driveOff b).lk.site = q.lk.site := by
  unfold State.driveOff
  dsimp only
  split
  · simp
  · split <;> simp

theorem site_heldVacant (q : State) (z i : Nat) (x : Stall) (t : Nat) : (q.heldVacant z i x t).lk.site = q.lk.site := by
  have hseen : (q.seenVacant z i).lk = q.lk := rfl
  have hempty := site_of_settings (settings_stallEmpty (q.seenVacant z i) t z)
  rw [heldVacant_eq]
  split
  · split <;> simp [hseen, hempty]
  · rw [hseen]

theorem site_takeStall (z : Nat) (occupied : BitVec 96) (q : State) (i : Nat) :
    (State.takeStall z occupied q i).lk.site = q.lk.site := by
  unfold State.takeStall
  split
  · rfl
  · split
    · simp [heldOccupied_eq, State.seenOccupied]
    · exact site_heldVacant q z i _ _
    · unfold State.freeOccupied
      dsimp only
      split <;> simp
    · simp [State.freeVacant]

theorem site_takeReport (q : State) (z : Nat) (occupied : BitVec 96) : (q.takeReport z occupied).lk.site = q.lk.site := by
  have hheard : (q.hearZone z).lk = q.lk := by simp [State.hearZone]
  rw [← hheard]
  exact foldl_leaves _ (fun p => p.lk.site) _ (fun p i => site_takeStall z occupied p i) _

theorem heardInRecovery_lk (q : State) (z : Nat) : (q.heardInRecovery z).lk = q.lk := by
  unfold State.heardInRecovery
  split
  · rfl
  · dsimp only
    split <;> rfl

/-! ### Restarts and supplies -/

/-- A restart empties the buffer, the slot and the chain, and leaves the site identity (R146, R184). -/
theorem site_warmRestart (q : State) : q.warmRestart.lk.site = q.lk.site := by
  have hrecovery (p : State) : p.beginRecovery.lk = p.lk := by
    unfold State.beginRecovery
    repeat' split
    all_goals rfl
  have hrestarted : q.restarted.lk.site = q.lk.site := by
    rw [State.restarted, hrecovery]; rfl
  have hpass : (if restartServes q q.restarted then q.restarted.servePass else q.restarted).lk.site = q.lk.site := by
    split
    · exact (grown_servePass _).site.trans hrestarted
    · exact hrestarted
  exact hpass

/-! ### Commands by their plans -/

/-- A desk command that names a record is ruled by the record's own plan (R26). -/
theorem siteKept_record {own : State → Record → Plan} {req code t e : Nat} {ok : Bool} (hown : ∀ r, (own s r).Grows) :
    SiteKept s (deskCommand req code (fun s => s.deskRecord t e ok (own s)) s) :=
  siteKept_grows (grows_deskRecord t e ok hown)

/-- A desk setting is judged by its range. -/
theorem siteKept_ranged {lo hi v req code : Nat} {f : State → State} (hf : ∀ q : State, (f q).lk = q.lk) :
    SiteKept s (deskCommand req code (fun _ => ranged lo hi v f) s) :=
  siteKept_grows (grows_ranged lo hi v fun q => by simp [hf])

theorem grows_holdPlan (t : Nat) (r : Record) : (holdPlan t r).Grows := by
  have hsuspend : (done fun q => q.suspend t .deskHold).Grows := fun q => grown_suspend q t _
  unfold holdPlan
  split
  · simp
  · simp
  · exact hsuspend

theorem grows_retirePlan (t : Nat) (r : Record) : (retirePlan t r).Grows := by simp [retirePlan]

theorem grows_resolveStoredPlan (t : Nat) (r : Record) : (s.resolveStoredPlan t r).Grows := by simp [State.resolveStoredPlan]

theorem grows_resolveMoveToPlan (t z i : Nat) (r : Record) : (s.resolveMoveToPlan t z i r).Grows := by
  unfold State.resolveMoveToPlan
  split
  · simp
  · split <;> simp

theorem grows_resolveWaitingPlan (t : Nat) (r : Record) : (s.resolveWaitingPlan t r).Grows := by
  simp [State.resolveWaitingPlan]

theorem grows_amendPlan (t : Nat) (plate : Option PlateField) (folio : Option OptWord) (r : Record) :
    (amendPlan t plate folio r).Grows := by
  simp [amendPlan]

theorem grows_readHookPlan (h : Nat) : (s.readHookPlan h).Grows := by
  unfold State.readHookPlan
  split
  · simp
  · split <;> simp

theorem siteKept_message {c : Instr} {h : Handset} {k : Nat} (hc : handsetHeader c = some (h, k)) : SiteKept s (exec c s) := by
  obtain ⟨ticket, plan, hexec, hgrows⟩ := exec_of_handsetHeader hc
  rw [hexec]
  exact siteKept_handset (hgrows s)

/-- The desk commands that name one record (R26). -/
theorem siteKept_named {c : Instr} {t e : Nat} {ok : Bool} (hc : namedRecord c = some (t, e, ok)) : SiteKept s (exec c s) := by
  unfold namedRecord at hc
  split at hc <;> cases hc
  case h_1 q => rw [exec_handover_desk]; exact siteKept_record (own := fun _ => handoverPlan) grows_handoverPlan
  case h_2 q => rw [exec_hold]; exact siteKept_record (grows_holdPlan t)
  case h_3 q => rw [exec_resolveStored]; exact siteKept_record (grows_resolveStoredPlan t)
  case h_4 q z i => rw [exec_resolveMoveTo]; exact siteKept_record (grows_resolveMoveToPlan t z i)
  case h_5 q => rw [exec_resolveWaiting]; exact siteKept_record (grows_resolveWaitingPlan t)
  case h_6 q => rw [exec_retire]; exact siteKept_record (grows_retirePlan t)
  case h_7 q => rw [exec_getRecord]; exact siteKept_record (own := fun _ r => report r.full) fun r => grows_report r.full
  case h_8 q plate folio =>
    rw [exec_amend]
    exact siteKept_record (own := fun _ => amendPlan t plate folio) (grows_amendPlan t plate folio)
  case h_9 q tier due => rw [exec_call_desk]; exact siteKept_record (grows_callPlan _ _ _)
  case h_10 q => rw [exec_cancelCall_desk]; exact siteKept_record grows_cancelPlan

/-! ### Commands and events on their own -/

theorem siteKept_clearAttention (req causes : Nat) : SiteKept s (execClearAttention req causes s) :=
  siteKept_grows (by simp)

theorem siteKept_setAttentionEnables (req enables master : Nat) :
    SiteKept s (execSetAttentionEnables req enables master s) :=
  siteKept_grows (by split <;> simp)

theorem siteKept_setServiceState (req st : Nat) : SiteKept s (execSetServiceState req st s) := by
  refine siteKept_grows ?_
  split
  · simp
  · split <;> simp

/-- CLEAR SITE empties the transmit buffer, and keeps the site identity (R178). -/
theorem siteKept_clearSite (req confirm : Nat) : SiteKept s (execClearSite req confirm s) := by
  refine siteKept_desk ?_
  repeat' split
  all_goals rfl

theorem siteKept_restart (req confirm : Nat) : SiteKept s (execRestart req confirm s) := by
  unfold execRestart
  split
  · refine siteKept_next ?_
    split
    · exact site_warmRestart s.begin
    · rfl
  · exact siteKept_grows (grows_refuse _)

theorem siteKept_deskUnknownCommand (req code : Nat) : SiteKept s (execDeskUnknownCommand req code s) := by
  unfold execDeskUnknownCommand
  split
  · exact siteKept_next rfl
  · exact siteKept_grows (grows_refuse _)

theorem siteKept_handsetUnknownKind (h : Handset) (kind : Nat) : SiteKept s (execHandsetUnknownKind h kind s) := by
  unfold execHandsetUnknownKind
  split
  · exact siteKept_next rfl
  · exact siteKept_handset (grows_refuse _)

theorem siteKept_zoneReport (z : Nat) (occupied : BitVec 96) (check : Nat) :
    SiteKept s (execZoneReport z occupied check s) := by
  refine siteKept_next ?_
  split
  · rw [heardInRecovery_lk, site_finish]
    exact site_takeReport s.begin z occupied
  · rfl

theorem siteKept_elapsedSecond : SiteKept s (execElapsedSecond s) := by
  refine siteKept_next ?_
  split
  · exact site_finish _
  · split <;> rfl

theorem site_loadPermits (q : State) : q.loadPermits.lk.site = q.lk.site := by simp [State.loadPermits, Links.site]

theorem siteKept_mainSupplyReturn (hlost : s.pw.lost = false) : SiteKept s (execMainSupplyReturn s) := by
  refine siteKept_next ?_
  dsimp only
  rw [hlost, if_neg (by decide)]
  split
  · rfl
  · exact site_warmRestart (s.setPower true s.pw.backup s.pw.resetAsserted)

theorem siteKept_resetNReleased : SiteKept s (execResetNReleased s) := by
  refine siteKept_next ?_
  split
  · exact site_warmRestart (s.setPower s.pw.main s.pw.backup false)
  · rfl

/-! ### Every command -/

/-- Only CAPTURE SITE and a power-on write the site identity, and CAPTURE SITE answers ALREADY once it is fixed (R146). -/
theorem exec_siteKept (c : Instr) (hfixed : s.lk.siteFixed = true) (hon : ∀ b, c ≠ .powerOn b)
    (hback : c = .mainSupplyReturn → s.pw.lost = false) : SiteKept s (exec c s) := by
  cases c with
  | signOn | signOff | takeBreak | ready | parked | ack | decline | abandon | keyAgain | staged | repark =>
    exact siteKept_message rfl
  | accept port =>
    cases port with
    | desk => rw [exec_accept_desk]; exact siteKept_grows (grows_acceptPlan _ _ _)
    | handset => exact siteKept_message rfl
  | handover port | call port | cancelCall port =>
    cases port with
    | desk => exact siteKept_named rfl
    | handset => exact siteKept_message rfl
  | hold | resolveStored | resolveMoveTo | resolveWaiting | retire | getRecord | amend => exact siteKept_named rfl
  | findPlate => rw [exec_findPlate]; exact siteKept_grows (by split <;> simp)
  | findFolio => rw [exec_findFolio]; exact siteKept_grows (by split <;> simp)
  | list => rw [exec_list]; exact siteKept_desk (by dsimp only; split <;> rfl)
  | setParkLimit | setSilenceTime | setWindowTime | setCustodyLimit | setAckTime | setDwellTime =>
    exact siteKept_ranged fun _ => rfl
  | enableStall => rw [exec_enableStall]; exact siteKept_grows (grows_onStall _ _ fun _ => by simp [enableStallPlan])
  | disableStall => rw [exec_disableStall]; exact siteKept_grows (grows_onStall _ _ fun _ => by simp [disableStallPlan])
  | openZone => rw [exec_openZone]; exact siteKept_grows (by simp [State.openZonePlan])
  | closeZone => rw [exec_closeZone]; exact siteKept_grows (by simp [State.closeZonePlan])
  | setZoneFlags => rw [exec_setZoneFlags]; exact siteKept_grows (by split <;> simp [State.zoneFlagsPlan])
  | setPreference => rw [exec_setPreference]; exact siteKept_grows (by unfold preferencePlan; split <;> simp)
  | setPair => rw [exec_setPair]; exact siteKept_grows (by simp [State.setPairPlan])
  | unpair => rw [exec_unpair]; exact siteKept_grows (by simp [State.unpairPlan])
  | setSlot => rw [exec_setSlot]; exact siteKept_grows (by simp [State.setSlotPlan])
  | setStallSlot => rw [exec_setStallSlot]; exact siteKept_grows (grows_onStall _ _ fun _ => by simp [State.stallSlotPlan])
  | readZone => rw [exec_readZone]; exact siteKept_grows (by simp [State.readZonePlan])
  | readStall => rw [exec_readStall]; exact siteKept_grows (by simp)
  | readWaitList => rw [exec_readWaitList]; exact siteKept_grows (grows_report _)
  | setWithdrawal => rw [exec_setWithdrawal]; exact siteKept_grows (by split <;> simp [State.withdrawalPlan])
  | beginPanelService => rw [exec_beginPanelService]; exact siteKept_grows (by simp [State.beginServicePlan])
  | endPanelService => rw [exec_endPanelService]; exact siteKept_grows (by simp [State.endServicePlan])
  | readHook => rw [exec_readHook]; exact siteKept_grows (grows_readHookPlan _)
  | setLeadTime => rw [exec_setLeadTime]; exact siteKept_grows (by simp [State.setLeadPlan])
  | readLeadTimes => rw [exec_readLeadTimes]; exact siteKept_grows (grows_report _)
  | readQueue => rw [exec_readQueue]; exact siteKept_grows (by unfold State.readQueuePlan; split <;> simp)
  | readRoster => rw [exec_readRoster]; exact siteKept_grows (grows_report _)
  | enableBay => rw [exec_enableBay]; exact siteKept_grows (grows_onBay _ fun _ => by simp [enableBayPlan])
  | disableBay => rw [exec_disableBay]; exact siteKept_grows (grows_onBay _ fun _ => by simp [disableBayPlan])
  | setBayFlags => rw [exec_setBayFlags]; exact siteKept_grows (by unfold State.bayFlagsPlan; split <;> simp)
  | clearLane => rw [exec_clearLane]; exact siteKept_grows (by simp [State.clearLanePlan])
  | readKerb => rw [exec_readKerb]; exact siteKept_grows (grows_report _)
  | captureSite => rw [exec_captureSite]; exact siteKept_desk (by rw [capturePlan_fixed hfixed]; rfl)
  | readStatus => rw [exec_readStatus]; exact siteKept_grows (grows_report _)
  | readAttention => rw [exec_readAttention]; exact siteKept_grows (grows_report _)
  | clearAttention => exact siteKept_clearAttention _ _
  | setAttentionEnables => exact siteKept_setAttentionEnables _ _ _
  | defineZone => rw [exec_defineZone]; exact siteKept_grows (grows_layoutCommand (by simp [State.defineZonePlan]))
  | defineFixedStall =>
    rw [exec_defineFixedStall]
    exact siteKept_grows (grows_layoutCommand (by unfold State.fixedStallPlan; split <;> simp))
  | definePanel => rw [exec_definePanel]; exact siteKept_grows (grows_layoutCommand (by simp [State.definePanelPlan]))
  | defineBays => rw [exec_defineBays]; exact siteKept_grows (grows_layoutCommand (by simp [defineBaysPlan]))
  | freezeLayout => rw [exec_freezeLayout]; exact siteKept_grows (by simp [State.freezePlan])
  | setServiceState => exact siteKept_setServiceState _ _
  | clearSite => exact siteKept_clearSite _ _
  | setClock => rw [exec_setClock]; exact siteKept_grows (by simp)
  | setChainMask m => rw [exec_setChainMask]; exact siteKept_grows (by simp [chainMaskPlan, grown_setMask])
  | restart => exact siteKept_restart _ _
  | deskBadFrame => exact siteKept_next (by split <;> rfl)
  | deskUnknownCommand => exact siteKept_deskUnknownCommand _ _
  | deskIgnoredTransaction | handsetFrameDropped | cabinetMessageDropped => exact siteKept_next rfl
  | handsetUnknownKind => exact siteKept_handsetUnknownKind _ _
  | handsetFrameSent => rw [exec_handsetFrameSent]; exact siteKept_event fun _ => rfl
  | zoneReport => exact siteKept_zoneReport _ _ _
  | silenceTimerExpiry => rw [exec_silenceTimerExpiry]; exact siteKept_event fun _ => rfl
  | hookLoaded => rw [exec_hookLoaded]; exact siteKept_event fun q => site_loadHook q _ _
  | hookEmptied => rw [exec_hookEmptied]; exact siteKept_event fun q => site_emptyHook q _ _
  | latchDone => rw [exec_latchDone]; exact siteKept_event fun q => site_confirmLatch q _ _
  | latchRepeat => rw [exec_latchRepeat]; exact siteKept_event fun q => site_resendLatch q _
  | windowTimerExpiry => rw [exec_windowTimerExpiry]; exact siteKept_event fun q => site_expireWindow q _
  | keyWarningPoint => rw [exec_keyWarningPoint]; exact siteKept_event fun q => site_warnKey q _
  | custodyLimitReached => rw [exec_custodyLimitReached]; exact siteKept_event fun q => site_overdueKey q _
  | parkLimitReached => rw [exec_parkLimitReached]; exact siteKept_event fun _ => rfl
  | ackTimerExpiry => rw [exec_ackTimerExpiry]; exact siteKept_event fun q => site_ackTimeout q _
  | dwellTimerExpiry => rw [exec_dwellTimerExpiry]; exact siteKept_event fun q => site_expireDwell q _
  | driveOffTimerExpiry => rw [exec_driveOffTimerExpiry]; exact siteKept_event fun q => site_driveOff q _
  | recoveryTimerExpiry => rw [exec_recoveryTimerExpiry]; exact siteKept_event fun _ => rfl
  | elapsedSecond => exact siteKept_elapsedSecond
  | laneLoopChange => rw [exec_laneLoopChange]; exact siteKept_input rfl fun _ => rfl
  | bayLoopChange => rw [exec_bayLoopChange]; exact siteKept_input rfl fun _ => rfl
  | chainLoad => rw [exec_chainLoad]; exact siteKept_event site_loadPermits
  | chainClkRisingEdge => rw [exec_chainClkRisingEdge]; exact siteKept_event fun _ => rfl
  | powerOn b => exact absurd rfl (hon b)
  | mainSupplyReturn => exact siteKept_mainSupplyReturn (hback rfl)
  | mainSupplyLost | resetNAsserted | backupSupplyLost => exact siteKept_next rfl
  | resetNReleased => exact siteKept_resetNReleased

/-- Settles O26: CAPTURE SITE by the straps, and no other command but a power-on writes the identity. -/
theorem siteIdentityIsCapturedOnceUntilPowerOn : Obligations.SiteIdentityIsCapturedOnceUntilPowerOn := by
  refine ⟨fun s q site0 site1 hrun => ⟨fun hfixed => captureSite_already hrun hfixed q site0 site1,
    fun hopen => captureSite_samples hrun hopen q site0 site1⟩, fun c s t hexec hfixed hon hback => ?_⟩
  have hsite : t.lk.site = s.lk.site := exec_siteKept c hfixed hon hback t hexec
  obtain ⟨hid, hstays⟩ := Prod.mk.inj hsite
  exact ⟨hstays.trans hfixed, hid⟩

end Sys2Proof.Machine
end

section
/-! The attention unit (R161 to R167): what each of its operations leaves at every cause, and the line. -/

namespace Sys2Proof.Machine

open Sys2Proof.Safety

/-! ### The fourteen causes and their cells -/

theorem Cause.index_lt (c : Cause) : c.index < 14 := by cases c <;> decide

theorem Cause.index_inj {c d : Cause} : c.index = d.index ↔ c = d := by
  refine ⟨fun h => ?_, fun h => h ▸ rfl⟩
  revert h
  cases c <;> cases d <;> decide

/-- Every place below fourteen is the place of a cause. -/
theorem Cause.exists_index {i : Nat} (hi : i < 14) : ∃ c : Cause, c.index = i := by
  have hall : ∀ i : Fin 14, ∃ c ∈ Cause.all, c.index = i := by decide
  obtain ⟨c, -, hc⟩ := hall ⟨i, hi⟩
  exact ⟨c, hc⟩

theorem Cause.mem_all (c : Cause) : c ∈ Cause.all := by cases c <;> decide

variable {sa : Service}

theorem Service.cell_eq_getElem (hlen : sa.causes.length = 14) (c : Cause) :
    sa.cell c = sa.causes[c.index]'(hlen ▸ c.index_lt) := by
  have hlt : c.index < sa.causes.length := hlen ▸ c.index_lt
  simp [Service.cell, hlt]

/-- The list of causes holds the cells of the fourteen and no others. -/
theorem Service.mem_causes_iff (hlen : sa.causes.length = 14) (k : CauseCell) : k ∈ sa.causes ↔ ∃ c, sa.cell c = k := by
  constructor
  · intro hk
    obtain ⟨i, hi, rfl⟩ := List.getElem_of_mem hk
    obtain ⟨c, rfl⟩ := Cause.exists_index (hlen ▸ hi)
    exact ⟨c, cell_eq_getElem hlen c⟩
  · rintro ⟨c, rfl⟩
    rw [cell_eq_getElem hlen c]
    exact List.getElem_mem _

/-- The line in the words of R164. -/
theorem Service.line_iff (sa : Service) :
    sa.line = true ↔ sa.master = true ∧ ∃ k ∈ sa.causes, k.latch = true ∧ k.enable = true := by
  simp [Service.line]

theorem Service.line_iff_cell (hlen : sa.causes.length = 14) :
    sa.line = true ↔ sa.master = true ∧ ∃ c, (sa.cell c).latch = true ∧ (sa.cell c).enable = true := by
  simp [Service.line_iff, mem_causes_iff hlen]

/-! ### A raising (R162) -/

theorem Service.raise_of_latched {c : Cause} (h : (sa.cell c).latch = true) (x : Option Nat) : sa.raise c x = sa := if_pos h

/-- A raising at a clear latch writes the cell of its cause. -/
theorem Service.causes_raise {c : Cause} (h : (sa.cell c).latch = false) (x : Option Nat) :
    (sa.raise c x).causes = sa.causes.modify c.index fun k => { k with latch := true, subject := x } :=
  congrArg Service.causes (if_neg (by simp [h]))

/-- A raising at a clear latch becomes the first cause where there was none (R163). -/
theorem Service.first_raise {c : Cause} (h : (sa.cell c).latch = false) (x : Option Nat) :
    (sa.raise c x).first = some (sa.first.getD c) := by
  have hfirst : (sa.raise c x).first = _ := congrArg Service.first (if_neg (by simp [h]))
  rw [hfirst]
  cases sa.first <;> rfl

theorem Service.cell_raise_self (hlen : sa.causes.length = 14) {c : Cause} (h : (sa.cell c).latch = false) (x : Option Nat) :
    (sa.raise c x).cell c = { sa.cell c with latch := true, subject := x } := by
  rw [cell, causes_raise h]
  exact getD_modify_self _ _ _ _ (hlen ▸ c.index_lt)

theorem Service.cell_raise_other {c d : Cause} (hne : d ≠ c) (x : Option Nat) : (sa.raise c x).cell d = sa.cell d := by
  cases h : (sa.cell c).latch with
  | true => rw [raise_of_latched h]
  | false =>
    rw [cell, causes_raise h]
    exact getD_modify_other _ _ _ _ _ fun hidx => hne (Cause.index_inj.mp hidx).symm

/-- A latch that was set stays set through a raising. -/
theorem Service.latch_raise (c : Cause) (x : Option Nat) {d : Cause}
    (h : (sa.cell d).latch = true) : ((sa.raise c x).cell d).latch = true := by
  by_cases hd : d = c
  · subst hd
    rw [raise_of_latched h, h]
  · rw [cell_raise_other hd, h]

/-- The raised cause is latched afterwards. -/
theorem Service.latch_raise_self (hlen : sa.causes.length = 14) (c : Cause) (x : Option Nat) :
    ((sa.raise c x).cell c).latch = true := by
  cases h : (sa.cell c).latch with
  | true => exact latch_raise c x h
  | false => rw [cell_raise_self hlen h]

/-! ### CLEAR ATTENTION and SET ATTENTION ENABLES at the cells (R165, R167) -/

/-- A change of every cell by its place is a change of each cause's cell by its index. -/
theorem Service.getD_mapIdx_causes (hlen : sa.causes.length = 14) (f : Nat → CauseCell → CauseCell) (c : Cause) :
    (sa.causes.mapIdx f).getD c.index CauseCell.powerOn = f c.index (sa.cell c) := by
  have hlt : c.index < sa.causes.length := hlen ▸ c.index_lt
  simp [Service.cell, hlt]

theorem Service.cell_clearCauses (hlen : sa.causes.length = 14) (set : Nat) (c : Cause) :
    (sa.clearCauses set).cell c =
      if set.testBit c.index then { sa.cell c with latch := false, subject := none } else sa.cell c :=
  getD_mapIdx_causes hlen _ c

theorem Service.first_clearCauses (sa : Service) (set : Nat) :
    (sa.clearCauses set).first = sa.first.bind fun c => if set.testBit c.index then none else some c := by
  unfold Service.clearCauses
  cases sa.first <;> rfl

/-- The fourteen enables and the master enable written together (R165). -/
def Service.writeEnables (sa : Service) (set : Nat) (m : Bool) : Service :=
  { sa with causes := sa.causes.mapIdx fun i k => { k with enable := set.testBit i }, master := m }

theorem Service.cell_writeEnables (hlen : sa.causes.length = 14) (set : Nat) (m : Bool) (c : Cause) :
    (sa.writeEnables set m).cell c = { sa.cell c with enable := set.testBit c.index } :=
  getD_mapIdx_causes hlen _ c

theorem Service.length_writeEnables (sa : Service) (set : Nat) (m : Bool) :
    (sa.writeEnables set m).causes.length = sa.causes.length := List.length_mapIdx

/-! ### The plans of the attention commands -/

/-- CLEAR ATTENTION, judged by its set and by the latches (R167). -/
def State.clearAttentionPlan (s : State) (set : Nat) : Plan :=
  if set = 0 ∨ causeSetOk set = false then refuse .badField
  else if Cause.all.any fun c => set.testBit c.index && (s.sa.cell c).latch then
    done fun q => { q with sa := q.sa.clearCauses set }
  else refuse .already

/-- SET ATTENTION ENABLES, judged by its fields (R165). -/
def enablesPlan (set master : Nat) : Plan :=
  match boolOf master with
  | none => refuse .badField
  | some m => if causeSetOk set then done fun q => { q with sa := q.sa.writeEnables set m } else refuse .badField

theorem exec_clearAttention (s : State) (q set : Nat) :
    exec (.clearAttention q set) s = deskCommand q 0x63 (fun s => s.clearAttentionPlan set) s := rfl

theorem exec_setAttentionEnables (s : State) (q set m : Nat) :
    exec (.setAttentionEnables q set m) s = deskCommand q 0x64 (fun _ => enablesPlan set m) s := rfl

variable {s : State} {q set : Nat}

theorem clearAttentionPlan_badField (h : set = 0 ∨ 16384 ≤ set) : s.clearAttentionPlan set = refuse .badField := by
  simp [State.clearAttentionPlan, causeSetOk, h]

/-- Some cause of the set is latched. -/
theorem any_latched_iff : (Cause.all.any fun c => set.testBit c.index && (s.sa.cell c).latch) = true ↔
    ∃ c : Cause, set.testBit c.index = true ∧ (s.sa.cell c).latch = true := by
  simp [Cause.mem_all]

theorem clearAttentionPlan_already (hne : set ≠ 0) (hlt : set < 16384)
    (hclear : ∀ c : Cause, set.testBit c.index = true → (s.sa.cell c).latch = false) :
    s.clearAttentionPlan set = refuse .already := by
  have hnone : ¬∃ c : Cause, set.testBit c.index = true ∧ (s.sa.cell c).latch = true := by
    rintro ⟨c, hset, hlatch⟩
    simp [hclear c hset] at hlatch
  rw [State.clearAttentionPlan, if_neg (by simp [hne, causeSetOk, hlt]), if_neg (mt any_latched_iff.mp hnone)]

theorem clearAttentionPlan_clears (hne : set ≠ 0) (hlt : set < 16384)
    (hlatched : ∃ c : Cause, set.testBit c.index = true ∧ (s.sa.cell c).latch = true) :
    s.clearAttentionPlan set = done fun q => { q with sa := q.sa.clearCauses set } := by
  rw [State.clearAttentionPlan, if_neg (by simp [hne, causeSetOk, hlt]), if_pos (any_latched_iff.mpr hlatched)]

theorem enablesPlan_badField {m : Nat} (h : 1 < m ∨ 16384 ≤ set) : enablesPlan set m = refuse .badField := by
  unfold enablesPlan
  split
  · rfl
  next b hb =>
    have hset : 16384 ≤ set := h.resolve_left fun hm => by simp [boolOf_eq_none hm] at hb
    simp [causeSetOk, hset]

theorem enablesPlan_writes (hlt : set < 16384) (m : Bool) :
    enablesPlan set m.toNat = done fun q => { q with sa := q.sa.writeEnables set m } := by
  simp [enablesPlan, causeSetOk, hlt]

/-! ### The obligations -/

/-- A desk command whose plan changes nothing leaves its response, and nothing at all where it is not taken (R159). -/
theorem deskCommand_idle {plan : State → Plan} {req code : Nat} (hid : (plan s).effect = id) :
    deskCommand req code plan s =
      .next (if s.running then s.begin.respond (some (req, code)) (plan s).answer (plan s).fields else s) := by
  rw [deskCommand, hid, id, finish_begin]

/-- A read of the causes leaves the attention unit, whether or not it is taken (R166). -/
theorem readAttention_sa {t : State} (h : exec (.readAttention q) s = .next t) : t.sa = s.sa := by
  rw [exec_readAttention, deskCommand_idle rfl] at h
  obtain rfl := Host.Outcome.next.inj h
  split <;> rfl

/-- Settles O27: the line by its definition, a raising by the latch it finds, CLEAR ATTENTION by its plan. -/
theorem attentionLineAndLatchesFollowRaisings : Obligations.AttentionLineAndLatchesFollowRaisings := by
  refine ⟨⟨Service.line_iff, fun _ _ => rfl, fun _ _ _ => readAttention_sa⟩, fun sa c x hlen => ?_,
    fun s q set hrun hlen => ?_⟩
  · refine ⟨fun hset => Service.raise_of_latched hset x, fun hclear => ?_, fun d hne => Service.cell_raise_other hne x⟩
    refine ⟨Service.cell_raise_self hlen hclear x, ?_, by simp, by simp⟩
    rw [Service.first_raise hclear]
    cases sa.first <;> rfl
  · have hexec := exec_clearAttention s q set
    refine ⟨fun hbad => deskReports_refuse rfl hexec hrun (clearAttentionPlan_badField hbad),
      fun hne hlt => ⟨fun hclear => ?_, fun hlatched => ?_⟩⟩
    · exact deskReports_refuse rfl hexec hrun (clearAttentionPlan_already hne hlt hclear)
    · exact ⟨s.sa.clearCauses set, deskLeaves_of_plan rfl hexec hrun (clearAttentionPlan_clears hne hlt hlatched) rfl,
        Service.cell_clearCauses hlen set, s.sa.first_clearCauses set, rfl, rfl, rfl, rfl, rfl⟩

/-- Settles O28: the plan writes every enable and the master enable, and the line is read off the cells. -/
theorem attentionEnablesAreWrittenTogether : Obligations.AttentionEnablesAreWrittenTogether := by
  intro s q set hrun hlen
  refine ⟨fun m hbad => deskReports_refuse rfl (exec_setAttentionEnables s q set m) hrun (enablesPlan_badField hbad),
    fun hlt m => ?_⟩
  have hline := Service.line_iff_cell (sa := s.sa.writeEnables set m) ((s.sa.length_writeEnables set m).trans hlen)
  exact ⟨s.sa.writeEnables set m,
    deskLeaves_of_plan rfl (exec_setAttentionEnables s q set m.toNat) hrun (enablesPlan_writes hlt m) rfl,
    Service.cell_writeEnables hlen set m, rfl, rfl, rfl, rfl, rfl, rfl, hline⟩

end Sys2Proof.Machine
end

section
/-! The invariant of the attention causes (R161, R163): a change of the attention unit keeps it where it sets latches with their
subjects, clears a latch with its subject and with the first cause that names it, or leaves causes and first cause alone. -/

namespace Sys2Proof.Machine

open Sys2Proof.Safety

/-! ### The invariant at the attention unit -/

/-- What `AttentionSound` says, of the attention unit alone. -/
def Service.Sound (sa : Service) : Prop := sa.causes.length = 14 ∧ FirstCauseLatched sa ∧ SubjectsLatched sa

theorem attentionSound_iff (s : State) : AttentionSound s ↔ s.sa.Sound := .rfl

/-- The invariant, cause by cause. -/
theorem Service.sound_iff (sa : Service) :
    sa.Sound ↔ sa.causes.length = 14 ∧ (∀ c, sa.first = some c → (sa.cell c).latch = true) ∧
      ∀ c, (sa.cell c).latch = false → (sa.cell c).subject = none := by
  refine and_congr_right fun hlen => and_congr_right fun _ => ?_
  simp only [SubjectsLatched, mem_causes_iff hlen, forall_exists_index, forall_apply_eq_imp_iff]

/-- The second attention unit is sound where the first is. -/
def Service.Keeps (a b : Service) : Prop := a.Sound → b.Sound

@[simp] theorem Service.Keeps.refl (a : Service) : a.Keeps a := id

theorem Service.Keeps.trans {a b c : Service} (h : a.Keeps b) (h' : b.Keeps c) : a.Keeps c := h' ∘ h

/-- The invariant reads the causes and the first cause alone. -/
theorem Service.Keeps.of_same {a b : Service} (hcauses : b.causes = a.causes) (hfirst : b.first = a.first) : a.Keeps b := by
  intro h
  have hcell : b.cell = a.cell := funext fun c => by rw [cell, cell, hcauses]
  rw [sound_iff] at h ⊢
  simpa [hcell, hcauses, hfirst] using h

/-! ### The operations of the attention unit -/

/-- A raising brings its subject under a latch that it sets, and no first cause but its own (R162, R163). -/
@[simp] theorem Service.keeps_raise (sa : Service) (c : Cause) (x : Option Nat) : sa.Keeps (sa.raise c x) := by
  intro h
  cases hclear : (sa.cell c).latch with
  | true => rwa [raise_of_latched hclear]
  | false =>
    obtain ⟨hlen, hfirst, hsubject⟩ := (sound_iff sa).mp h
    refine (sound_iff _).mpr ⟨by simpa using hlen, fun d hd => ?_, fun d hd => ?_⟩
    · rw [first_raise hclear, Option.some.injEq] at hd
      cases hold : sa.first with
      | none =>
        obtain rfl : c = d := by simpa [hold] using hd
        exact latch_raise_self hlen c x
      | some f =>
        obtain rfl : f = d := by simpa [hold] using hd
        exact latch_raise c x (hfirst f hold)
    · have hne : d ≠ c := by
        rintro rfl
        simp [latch_raise_self hlen] at hd
      rw [cell_raise_other hne] at hd ⊢
      exact hsubject d hd

/-- CLEAR ATTENTION takes the first cause away with its latch, and each subject with its own (R167). -/
@[simp] theorem Service.keeps_clearCauses (sa : Service) (set : Nat) : sa.Keeps (sa.clearCauses set) := by
  intro h
  obtain ⟨hlen, hfirst, hsubject⟩ := (sound_iff sa).mp h
  refine (sound_iff _).mpr ⟨by simp [clearCauses, hlen], fun c hc => ?_, fun c hc => ?_⟩
  · obtain ⟨f, hf, hstays⟩ := Option.bind_eq_some_iff.mp ((first_clearCauses sa set).symm.trans hc)
    by_cases hbit : set.testBit f.index = true
    · simp [hbit] at hstays
    · obtain rfl : f = c := by simpa [hbit] using hstays
      simpa [cell_clearCauses hlen, hbit] using hfirst f hf
  · rw [cell_clearCauses hlen] at hc ⊢
    split
    · rfl
    next hbit => exact hsubject c (by simpa [hbit] using hc)

/-- With no first cause and every latch and subject cleared nothing is left to keep (R169). -/
theorem Service.sound_cleared {a b : Service} (ha : a.causes.length = 14) (hcauses : b.causes = a.causes.map CauseCell.cleared)
    (hfirst : b.first = none) : b.Sound := by
  refine ⟨by simp [hcauses, ha], fun c hc => by simp [hfirst] at hc, fun k hk _ => ?_⟩
  rw [hcauses] at hk
  obtain ⟨j, -, rfl⟩ := List.mem_map.mp hk
  rfl

/-- Enables and master enable are no part of the invariant (R165). -/
@[simp] theorem Service.keeps_writeEnables (sa : Service) (set : Nat) (m : Bool) : sa.Keeps (sa.writeEnables set m) := by
  intro h
  obtain ⟨hlen, hfirst, hsubject⟩ := (sound_iff sa).mp h
  refine (sound_iff _).mpr ⟨(length_writeEnables sa set m).trans hlen, fun c hc => ?_, fun c hc => ?_⟩
  · rw [cell_writeEnables hlen]
    exact hfirst c hc
  · rw [cell_writeEnables hlen] at hc ⊢
    exact hsubject c hc

/-- At a restart the latches are cleared and RESTARTED is raised (R169). -/
theorem Service.keeps_restart (sa : Service) : sa.Keeps sa.restart := fun h =>
  keeps_raise _ _ _ (sound_cleared h.1 rfl rfl)

theorem Service.sound_powerOn : Service.powerOn.Sound := by
  refine ⟨rfl, fun c hc => by simp [powerOn] at hc, fun k hk _ => ?_⟩
  obtain rfl : k = CauseCell.powerOn := List.eq_of_mem_replicate hk
  rfl

/-! ### The operations of the other blocks -/

variable {sa : Service} {q : State}

/-- A raising taken at SA. -/
@[simp] theorem Service.Keeps.raise {b : Service} (h : sa.Keeps b) (c : Cause) (x : Option Nat) : sa.Keeps (b.raise c x) :=
  h.trans (keeps_raise b c x)

@[simp] theorem Service.Keeps.addEntry (h : sa.Keeps q.sa) (e : Entry) : sa.Keeps (q.addEntry e).sa := by
  rw [addEntry_sa]
  split
  · exact h.raise _ _
  · exact h

@[simp] theorem State.joinWaitList_sa (s : State) (t : Nat) : (s.joinWaitList t).sa = s.sa.raise .waitlisted (some t) := rfl

@[simp] theorem State.enterWaiting_sa (s : State) (t : Nat) : (s.enterWaiting t).sa = s.sa.raise .waitlisted (some t) := by
  simp [State.enterWaiting]

@[simp] theorem State.stallEmpty_sa (s : State) (t z : Nat) : (s.stallEmpty t z).sa = s.sa.raise .stallAnomaly (some z) := by
  simp [State.stallEmpty]

@[simp] theorem Service.Keeps.compareGrade (h : sa.Keeps q.sa) (x : Stall) : sa.Keeps (q.compareGrade x).sa := by
  unfold State.compareGrade
  repeat' split
  all_goals simp [h]

@[simp] theorem Service.Keeps.forceKey (h : sa.Keeps q.sa) (hook : Nat) (k : Hook) : sa.Keeps (q.forceKey hook k).sa := by
  unfold State.forceKey
  dsimp only
  split <;> simp [h]

@[simp] theorem Service.Keeps.placeInStray (h : sa.Keeps q.sa) (r : Record) (st : StallId) (x : Stall) :
    sa.Keeps (q.placeInStray r st x).sa := by
  unfold State.placeInStray
  dsimp only
  split <;> simp [h]

/-- A grade slot's held stalls are examined one by one (R34). -/
@[simp] theorem Service.Keeps.regrade (h : sa.Keeps q.sa) (n grade : Nat) : sa.Keeps (q.regrade n grade).sa :=
  List.foldlRecOn (motive := fun p : State => sa.Keeps p.sa) _ State.compareGrade h fun _ hp x _ => hp.compareGrade x

/-! ### The end of an event (R50, R118) -/

theorem Service.Keeps.grant (h : sa.Keeps q.sa) (r : Record) (st : StallId) (fallback : Bool) :
    sa.Keeps (q.grant r st fallback).sa := by
  simp [grant_eq, h]

theorem Service.Keeps.servePass (h : sa.Keeps q.sa) : sa.Keeps q.servePass.sa :=
  serveList_induction (P := fun p => sa.Keeps p.sa) h fun _ r st fallback _ _ hp => hp.grant r st fallback

theorem Service.Keeps.serveStep (h : sa.Keeps q.sa) : sa.Keeps q.serveStep.sa := by
  unfold State.serveStep
  split
  · exact h.servePass
  · exact h

/-- A look raises nothing. -/
theorem Service.Keeps.finish (h : sa.Keeps q.sa) : sa.Keeps q.finish.sa := by
  have hsa : q.finish.sa = q.serveStep.sa := q.serveStep.lookStep_frame.2.2.2.2.2.1
  rw [hsa]
  exact h.serveStep

end Sys2Proof.Machine
end

section
/-! What every plan of the two ports keeps: a refusal changes nothing (R159), and no effect breaks the attention causes (R161,
R163). -/

namespace Sys2Proof.Machine

open Sys2Proof.Safety

/-- Answered with anything but DONE the plan changes nothing, and its effect keeps the attention causes of any state. -/
structure Plan.Orderly (p : Plan) : Prop where
  idle : p.answer ≠ .done → p.effect = id
  keeps : ∀ q : State, q.sa.Keeps (p.effect q).sa

/-! ### How plans are built -/

theorem orderly_of_id {p : Plan} (h : p.effect = id) : p.Orderly := ⟨fun _ => h, fun q => by rw [h]; exact .refl _⟩

theorem orderly_of_done {p : Plan} (hdone : p.answer = .done) (h : ∀ q : State, q.sa.Keeps (p.effect q).sa) : p.Orderly :=
  ⟨fun hne => absurd hdone hne, h⟩

@[simp] theorem orderly_refuse (a : Answer) : (refuse a).Orderly := orderly_of_id rfl

@[simp] theorem orderly_refuseWith (blank : List Value) (a : Answer) : (refuseWith blank a).Orderly := orderly_of_id rfl

@[simp] theorem orderly_report (fields : List Value) : (report fields).Orderly := orderly_of_id rfl

@[simp] theorem orderly_done (f : State → State) : (done f).Orderly ↔ ∀ q : State, q.sa.Keeps (f q).sa :=
  ⟨Plan.Orderly.keeps, orderly_of_done (p := done f) rfl⟩

@[simp] theorem orderly_ite (c : Prop) [Decidable c] (p q : Plan) :
    (if c then p else q).Orderly ↔ (c → p.Orderly) ∧ (¬c → q.Orderly) := by
  split <;> simp_all

variable {s : State}

theorem orderly_ranged (lo hi v : Nat) {f : State → State} (h : ∀ q : State, (f q).sa = q.sa) :
    (ranged lo hi v f).Orderly := by
  simp [ranged, h]

@[simp] theorem orderly_layoutCommand {p : Plan} (h : p.Orderly) : (s.layoutCommand p).Orderly := by
  simp [State.layoutCommand, h]

@[simp] theorem orderly_onZone (z : Nat) {p : Plan} (h : p.Orderly) : (s.onZone z p).Orderly := by simp [State.onZone, h]

@[simp] theorem orderly_onBay (b : Nat) {own : Bay → Plan} (h : ∀ x, (own x).Orderly) : (s.onBay b own).Orderly := by
  simp [State.onBay, h]

@[simp] theorem orderly_onStall (z i : Nat) {own : Stall → Plan} (h : ∀ x, (own x).Orderly) :
    (s.onStall z i own).Orderly := by
  unfold State.onStall
  split <;> simp [h]

theorem orderly_deskRecord (t e : Nat) (ok : Bool) {own : Record → Plan} (h : ∀ r, (own r).Orderly) :
    (s.deskRecord t e ok own).Orderly := by
  unfold State.deskRecord
  split
  · simp
  · split
    · simp
    · split
      · simp
      · simp [h]

theorem orderly_boundSender (hs : Handset) (blank : List Value) {own : Nat → Plan} (h : ∀ a, (own a).Orderly) :
    (s.boundSender hs blank own).Orderly := by
  unfold State.boundSender
  split
  · simp
  · exact h _

theorem orderly_fromSender (hs : Handset) (blank : List Value) {own : Nat → Plan} (h : ∀ a, (own a).Orderly) :
    (s.fromSender hs blank own).Orderly :=
  orderly_boundSender hs blank fun a => by simp [h a]

/-- A message that names a ticket comes to its own plan past the checks of R127 and R148. -/
theorem orderly_ticket (hs : Handset) (t : Nat) (ok : Bool) (blank : List Value) {own : Nat → Record → Plan}
    (h : ∀ a r, (own a r).Orderly) : (s.fromSender hs blank fun a => s.handsetRecord t ok blank (own a)).Orderly := by
  refine orderly_fromSender hs blank fun a => ?_
  unfold State.handsetRecord
  split
  · simp
  · split
    · simp
    · exact h a _

theorem orderly_actingOnly (a : Nat) (r : Record) {p : Plan} (h : p.Orderly) : (s.actingOnly a r p).Orderly := by
  simp [State.actingOnly, h]

/-! ### Effects that raise nothing -/

@[simp] theorem State.clearSuspension_sa (s : State) (t : Nat) : (s.clearSuspension t).sa = s.sa := rfl

@[simp] theorem State.upgradeCall_sa (s : State) (t tier : Nat) : (s.upgradeCall t tier).sa = s.sa := by
  simp [State.upgradeCall]

@[simp] theorem State.takeArrival_sa (s : State) (l : Option Nat) : (s.takeArrival l).sa = s.sa := by cases l <;> rfl

@[simp] theorem State.takeJob_sa (s : State) (r : Record) (e : Entry) (a : Nat) : (s.takeJob r e a).sa = s.sa := by
  unfold State.takeJob State.acked
  split <;> simp

@[simp] theorem State.signOff_sa (s : State) (a : Nat) : (s.signOff a).sa = s.sa := rfl

@[simp] theorem State.setBay_sa (s : State) (b : Nat) (f : Bay → Bay) : (s.setBay b f).sa = s.sa := by simp [State.setBay]

@[simp] theorem State.setPaired_sa (s : State) (z : Nat) (b : Bool) : (s.setPaired z b).sa = s.sa := by simp [State.setPaired]

@[simp] theorem State.permitsChanged_sa (s before : State) : (s.permitsChanged before).sa = s.sa := by
  simp [State.permitsChanged]

@[simp] theorem State.defineZone_sa (s : State) (z n : Nat) : (s.defineZone z n).sa = s.sa := by
  unfold State.defineZone
  dsimp only
  split <;> simp

@[simp] theorem State.relatch_sa (s : State) (p : Nat) (x : Panel) (b : Bool) (i : Nat) : (s.relatch p x b i).sa = s.sa := by
  rcases relatch_cases p x b s i with ⟨k, -, -, hq⟩ | ⟨-, hq⟩
  · rw [hq]; simp
  · rw [hq]

@[simp] theorem State.setPanelService_sa (s : State) (p : Nat) (b : Bool) : (s.setPanelService p b).sa = s.sa := by
  rw [setPanelService_eq, foldl_leaves _ State.sa _ fun q i => q.relatch_sa p (s.panel p) b i]
  simp

/-! ### Effects that raise a cause or write the attention unit -/

variable {sa : Service} {q : State}

@[simp] theorem State.leaveForCall_sa (s : State) (r : Record) : (s.leaveForCall r).sa = s.sa := by
  unfold State.leaveForCall
  split <;> simp

/-- A new call may raise QUEUE_HIGH (R95). -/
@[simp] theorem Service.Keeps.newCall (h : sa.Keeps q.sa) (r : Record) (c : CallField) : sa.Keeps (q.newCall r c).sa := by
  simp [newCall_eq, State.setCall, h]

/-- A CALLED record without a stall waits again, which raises WAITLISTED (R13, R49). -/
@[simp] theorem Service.Keeps.cancelCall (h : sa.Keeps q.sa) (r : Record) : sa.Keeps (q.cancelCall r).sa := by
  unfold State.cancelCall
  dsimp only
  split <;> simp [h]

/-- An ACCEPT that finds no stall raises WAITLISTED (R8, R49). -/
@[simp] theorem Service.Keeps.acceptCar (h : sa.Keeps q.sa) (f : Arrival) (hook : Nat) (found : Option (StallId × Bool))
    (sender : Option Nat) : sa.Keeps (q.acceptCar f hook found sender).sa := by
  unfold State.acceptCar
  dsimp only
  split <;> simp [h]

/-- A REPARK that finds no stall raises WAITLISTED (R18, R49). -/
@[simp] theorem Service.Keeps.reparkCar (h : sa.Keeps q.sa) (r : Record) (a : Nat) (found : Option (StallId × Bool)) :
    sa.Keeps (q.reparkCar r a found).sa := by
  unfold State.reparkCar
  dsimp only
  split <;> simp [h]

/-- A change of the service state, the clock or the recovery is none of the causes. -/
theorem keeps_changeService (s : State) (st : ServiceState) : s.sa.Keeps (s.changeService st).sa := by
  have hsa : (s.changeService st).sa = { s.sa with state := st } := by simp [State.changeService]
  rw [hsa]
  exact .of_same rfl rfl

/-- CLEAR SITE clears every latch (R169, R178). -/
theorem keeps_clearSite (s : State) : s.sa.Keeps s.clearSite.sa := fun h => Service.sound_cleared h.1 rfl rfl

/-! ### The plans of both ports -/

theorem orderly_callPlan (tier : Option Nat) (due : Option Time) (source : Source) (r : Record) :
    (s.callPlan tier due source r).Orderly := by
  unfold State.callPlan
  dsimp only
  split
  · simp
  · split
    · split
      · simp
      · split <;> simp
    · simp

theorem orderly_cancelPlan (r : Record) : (s.cancelPlan r).Orderly := by
  unfold State.cancelPlan
  split <;> simp

theorem orderly_handoverPlan (r : Record) : (handoverPlan r).Orderly := by simp [handoverPlan]

theorem orderly_acceptPlan (sender : Option Nat) (fields : Option Arrival)
    (returns : Option (Nat × Nat × Nat) → Option StallId → List Value) : (s.acceptPlan sender fields returns).Orderly := by
  unfold State.acceptPlan
  dsimp only
  split
  · simp
  split
  · simp
  split
  · simp
  split
  · simp
  split
  · simp
  · exact orderly_of_done rfl fun q => (Service.Keeps.refl q.sa).acceptCar _ _ _ _

/-! ### The plans of the handset port -/

theorem orderly_ackPlan (a : Nat) (r : Record) : (s.ackPlan a r).Orderly := by
  unfold State.ackPlan
  split
  · simp
  · split <;> simp

theorem orderly_declinePlan (a : Nat) (r : Record) : (s.declinePlan a r).Orderly := by
  unfold State.declinePlan
  split
  · simp
  · split <;> simp

theorem orderly_keyAgainPlan (a : Nat) (r : Record) : (s.keyAgainPlan a r).Orderly := by
  unfold State.keyAgainPlan
  split <;> simp

theorem orderly_parkedPlan (t : Nat) (r : Record) : (parkedPlan t r).Orderly := by simp [parkedPlan]

theorem orderly_abandonPlan (t a : Nat) (r : Record) : (abandonPlan t a r).Orderly := by simp [abandonPlan]

theorem orderly_stagedPlan (t b : Nat) (r : Record) : (s.stagedPlan t b r).Orderly := by simp [State.stagedPlan]

theorem orderly_reparkPlan (a : Nat) (r : Record) : (s.reparkPlan a r).Orderly := by
  unfold State.reparkPlan
  simp only [orderly_ite, orderly_refuseWith, implies_true, true_and]
  exact fun _ _ _ _ => orderly_of_done rfl fun q => (Service.Keeps.refl q.sa).reparkCar _ _ _

theorem orderly_signOnPlan (identity n : Nat) : (s.signOnPlan identity n).Orderly := by
  unfold State.signOnPlan
  simp only [orderly_ite, orderly_refuse, implies_true, true_and]
  exact fun _ _ _ => orderly_of_done rfl fun q => by simp

theorem orderly_signOffPlan (a : Nat) : (s.signOffPlan a).Orderly := by
  unfold State.signOffPlan
  split <;> simp

theorem orderly_breakPlan (a : Nat) : (s.breakPlan a).Orderly := by
  unfold State.breakPlan
  split <;> simp

theorem orderly_readyPlan (a : Nat) : (s.readyPlan a).Orderly := by
  unfold State.readyPlan
  split <;> simp

/-- Every handset message is an orderly plan of its kind. -/
theorem exec_orderly_of_handsetHeader {c : Instr} {h : Handset} {k : Nat} (hc : handsetHeader c = some (h, k)) :
    ∃ (ticket : Option Nat) (plan : State → Plan),
      (∀ s, exec c s = handsetMessage h k ticket plan s) ∧ ∀ s, (plan s).Orderly := by
  unfold handsetHeader at hc
  split at hc <;> cases hc
  case h_1 roster => exact ⟨_, _, fun s => exec_signOn s h roster, fun s => by simp [orderly_signOnPlan]⟩
  case h_2 => exact ⟨_, _, fun s => exec_signOff s h, fun s => orderly_fromSender h [] orderly_signOffPlan⟩
  case h_3 => exact ⟨_, _, fun s => exec_takeBreak s h, fun s => orderly_fromSender h [] orderly_breakPlan⟩
  case h_4 => exact ⟨_, _, fun s => exec_ready s h, fun s => orderly_fromSender h [] orderly_readyPlan⟩
  case h_5 =>
    exact ⟨_, _, fun s => exec_accept_handset s h _ _ _ _ _ _,
      fun s => orderly_boundSender h _ fun a => by simp [orderly_acceptPlan]⟩
  case h_6 t =>
    exact ⟨_, _, fun s => exec_parked s h t,
      fun s => orderly_ticket h t true [] fun a r => orderly_actingOnly a r (orderly_parkedPlan t r)⟩
  case h_7 t tier due e =>
    exact ⟨_, _, fun s => exec_call_handset s h t tier e due,
      fun s => orderly_ticket h t _ [] fun a r => orderly_actingOnly a r (orderly_callPlan _ _ _ r)⟩
  case h_8 t e =>
    exact ⟨_, _, fun s => exec_cancelCall_handset s h t e,
      fun s => orderly_ticket h t true [] fun a r => orderly_actingOnly a r (orderly_cancelPlan r)⟩
  case h_9 t => exact ⟨_, _, fun s => exec_ack s h t, fun s => orderly_ticket h t true [] orderly_ackPlan⟩
  case h_10 t => exact ⟨_, _, fun s => exec_decline s h t, fun s => orderly_ticket h t true [] orderly_declinePlan⟩
  case h_11 t =>
    exact ⟨_, _, fun s => exec_abandon s h t,
      fun s => orderly_ticket h t true [] fun a r => orderly_actingOnly a r (orderly_abandonPlan t a r)⟩
  case h_12 t => exact ⟨_, _, fun s => exec_keyAgain s h t, fun s => orderly_ticket h t true [] orderly_keyAgainPlan⟩
  case h_13 t bay =>
    exact ⟨_, _, fun s => exec_staged s h t bay,
      fun s => orderly_ticket h t _ [] fun a r => orderly_actingOnly a r (orderly_stagedPlan t bay r)⟩
  case h_14 t e =>
    exact ⟨_, _, fun s => exec_handover_handset s h t e,
      fun s => orderly_ticket h t true [] fun _ => orderly_handoverPlan⟩
  case h_15 t => exact ⟨_, _, fun s => exec_repark s h t, fun s => orderly_ticket h t true _ orderly_reparkPlan⟩

end Sys2Proof.Machine
end

section
/-! Every desk command but a RESTART that is taken is an orderly plan under its header, so it is answered in the slot and a
refusal changes nothing else (R157, R159). -/

namespace Sys2Proof.Machine

open Sys2Proof.Safety

variable {s : State}

/-! ### The plans of the desk port -/

theorem orderly_holdPlan (t : Nat) (r : Record) : (holdPlan t r).Orderly := by
  unfold holdPlan
  split <;> simp

theorem orderly_retirePlan (t : Nat) (r : Record) : (retirePlan t r).Orderly := by simp [retirePlan]

theorem orderly_resolveStoredPlan (t : Nat) (r : Record) : (s.resolveStoredPlan t r).Orderly := by
  simp [State.resolveStoredPlan]

theorem orderly_resolveMoveToPlan (t z i : Nat) (r : Record) : (s.resolveMoveToPlan t z i r).Orderly := by
  unfold State.resolveMoveToPlan
  split
  · simp
  · split <;> simp

theorem orderly_resolveWaitingPlan (t : Nat) (r : Record) : (s.resolveWaitingPlan t r).Orderly := by
  simp [State.resolveWaitingPlan]

theorem orderly_amendPlan (t : Nat) (plate : Option PlateField) (folio : Option OptWord) (r : Record) :
    (amendPlan t plate folio r).Orderly := by
  simp [amendPlan]

theorem orderly_preferencePlan (tier count : Nat) (zones : List Nat) : (preferencePlan tier count zones).Orderly := by
  unfold preferencePlan
  split <;> simp

theorem orderly_withdrawalPlan (z : Nat) (b : Bool) : (s.withdrawalPlan z b).Orderly := by simp [State.withdrawalPlan]

theorem orderly_readHookPlan (h : Nat) : (s.readHookPlan h).Orderly := by
  unfold State.readHookPlan
  split
  · simp
  · split <;> simp

theorem orderly_readQueuePlan (start : Nat) : (s.readQueuePlan start).Orderly := by
  unfold State.readQueuePlan
  split <;> simp

theorem orderly_bayFlagsPlan (b night : Nat) : (s.bayFlagsPlan b night).Orderly := by
  unfold State.bayFlagsPlan
  split <;> simp

theorem orderly_fixedStallPlan (z i a g : Nat) : (s.fixedStallPlan z i a g).Orderly := by
  unfold State.fixedStallPlan
  split <;> simp

/-- CAPTURE SITE writes the straps where it is DONE, and where it is ALREADY nothing (R146). -/
theorem orderly_capturePlan (site0 site1 : Bool) : (s.capturePlan site0 site1).Orderly := by
  unfold State.capturePlan
  split
  · exact orderly_of_id rfl
  · exact orderly_of_done rfl fun _ => .refl _

theorem orderly_clearAttentionPlan (set : Nat) : (s.clearAttentionPlan set).Orderly := by
  simp [State.clearAttentionPlan]

theorem orderly_enablesPlan (set master : Nat) : (enablesPlan set master).Orderly := by
  unfold enablesPlan
  split <;> simp

/-- FREEZE LAYOUT writes the service state, which is none of the causes (R177). -/
theorem orderly_freezePlan : s.freezePlan.Orderly := by
  have hstate (q : State) : q.sa.Keeps ({ q.sa with state := .closed } : Service) := .of_same rfl rfl
  simp [State.freezePlan, hstate]

/-- SET SERVICE STATE, check by check (R172). -/
def State.setServicePlan (s : State) (state : Nat) : Plan :=
  if s.sa.state = .commissioning ∨ s.sa.state = .recovery then refuse .closed
  else
    match namedServiceState state with
    | none => refuse .badField
    | some st => if st = s.sa.state then refuse .already else done fun q => q.changeService st

/-- CLEAR SITE, check by check (R178). -/
def State.clearSitePlan (s : State) (confirm : Nat) : Plan :=
  if s.sa.state ≠ .closed then refuse .closed
  else if confirm ≠ Config.confirmValue then refuse .badField
  else if !s.ct.records.isEmpty then refuse .busy
  else done State.clearSite

theorem exec_setServiceState (s : State) (q n : Nat) :
    exec (.setServiceState q n) s = deskCommand q 0x75 (fun s => s.setServicePlan n) s := rfl

theorem exec_clearSite (s : State) (q confirm : Nat) :
    exec (.clearSite q confirm) s = deskCommand q 0x76 (fun s => s.clearSitePlan confirm) s := rfl

theorem orderly_setServicePlan (n : Nat) : (s.setServicePlan n).Orderly := by
  unfold State.setServicePlan
  split
  · simp
  · split <;> simp [keeps_changeService]

theorem orderly_clearSitePlan (confirm : Nat) : (s.clearSitePlan confirm).Orderly := by
  simp [State.clearSitePlan, keeps_clearSite]

/-- RESTART with a confirm value that is not the one of R183. -/
theorem exec_restart_unconfirmed {v : Nat} (hv : v ≠ 0x5A3C) (s : State) (q : Nat) :
    exec (.restart q v) s = deskCommand q 0x79 (fun _ => refuse .badField) s := if_neg hv

/-! ### Every desk command -/

/-- The command is an orderly plan, answered under the request number and the code. -/
def AnsweredBy (c : Instr) (h : Nat × Nat) : Prop :=
  ∃ plan : State → Plan, (∀ s, exec c s = deskCommand h.1 h.2 plan s) ∧ ∀ s, (plan s).Orderly

theorem answeredBy_record {c : Instr} {req code t e : Nat} {ok : Bool} {own : State → Record → Plan}
    (hexec : ∀ s, exec c s = deskCommand req code (fun s => s.deskRecord t e ok (own s)) s)
    (hown : ∀ s r, (own s r).Orderly) : AnsweredBy c (req, code) :=
  ⟨_, hexec, fun s => orderly_deskRecord t e ok (hown s)⟩

theorem answeredBy_ranged {c : Instr} {req code lo hi v : Nat} {f : State → State}
    (hexec : ∀ s, exec c s = deskCommand req code (fun _ => ranged lo hi v f) s) (hf : ∀ q : State, (f q).sa = q.sa) :
    AnsweredBy c (req, code) :=
  ⟨_, hexec, fun _ => orderly_ranged lo hi v hf⟩

/-- Every desk command but a RESTART that is taken is an orderly plan under its header. -/
theorem answeredBy_of_deskHeader {c : Instr} {h : Nat × Nat} (hc : deskHeader c = some h)
    (hrestart : ∀ q, c ≠ .restart q 0x5A3C) : AnsweredBy c h := by
  cases c with (try cases hc)
  | accept port =>
    cases port <;> cases hc
    exact ⟨_, fun s => exec_accept_desk s _ _ _ _ _ _ _, fun s => orderly_acceptPlan _ _ _⟩
  | handover port =>
    cases port <;> cases hc
    exact answeredBy_record (fun s => exec_handover_desk s _ _ _) fun _ => orderly_handoverPlan
  | call port =>
    cases port <;> cases hc
    exact answeredBy_record (fun s => exec_call_desk s _ _ _ _ _) fun _ => orderly_callPlan _ _ _
  | cancelCall port =>
    cases port <;> cases hc
    exact answeredBy_record (fun s => exec_cancelCall_desk s _ _ _) fun _ => orderly_cancelPlan
  | hold q t e => exact answeredBy_record (fun s => exec_hold s q t e) fun _ => orderly_holdPlan t
  | resolveStored q t e => exact answeredBy_record (fun s => exec_resolveStored s q t e) fun _ => orderly_resolveStoredPlan t
  | resolveMoveTo q t z i e =>
    exact answeredBy_record (fun s => exec_resolveMoveTo s q t z i e) fun _ => orderly_resolveMoveToPlan t z i
  | resolveWaiting q t e =>
    exact answeredBy_record (fun s => exec_resolveWaiting s q t e) fun _ => orderly_resolveWaitingPlan t
  | retire q t e => exact answeredBy_record (fun s => exec_retire s q t e) fun _ => orderly_retirePlan t
  | getRecord q t e =>
    exact answeredBy_record (own := fun _ r => report r.full) (fun s => exec_getRecord s q t e) fun _ r => orderly_report r.full
  | amend q t plate folio e =>
    exact answeredBy_record (fun s => exec_amend s q t plate folio e) fun _ => orderly_amendPlan t plate folio
  | findPlate q plate start => exact ⟨_, fun s => exec_findPlate s q plate start, fun s => by split <;> simp⟩
  | findFolio q folio start => exact ⟨_, fun s => exec_findFolio s q folio start, fun s => by split <;> simp⟩
  | list q start filter =>
    refine ⟨_, fun s => exec_list s q start filter, fun s => ?_⟩
    split
    · exact orderly_of_done rfl fun _ => .refl _
    · simp
  | setParkLimit | setSilenceTime | setWindowTime | setCustodyLimit | setAckTime | setDwellTime =>
    exact answeredBy_ranged (fun _ => rfl) fun _ => rfl
  | enableStall q z i =>
    exact ⟨_, fun s => exec_enableStall s q z i, fun s => orderly_onStall z i fun x => by simp [enableStallPlan]⟩
  | disableStall q z i =>
    exact ⟨_, fun s => exec_disableStall s q z i, fun s => orderly_onStall z i fun x => by simp [disableStallPlan]⟩
  | openZone q z => exact ⟨_, fun s => exec_openZone s q z, fun s => orderly_onZone z (by simp [State.openZonePlan])⟩
  | closeZone q z => exact ⟨_, fun s => exec_closeZone s q z, fun s => orderly_onZone z (by simp [State.closeZonePlan])⟩
  | setZoneFlags q z night spill =>
    exact ⟨_, fun s => exec_setZoneFlags s q z night spill, fun s => by split <;> simp [State.zoneFlagsPlan]⟩
  | setPreference q tier count zones =>
    exact ⟨_, fun s => exec_setPreference s q tier count zones, fun _ => orderly_preferencePlan tier count zones⟩
  | setPair q z => exact ⟨_, fun s => exec_setPair s q z, fun s => by simp [State.setPairPlan]⟩
  | unpair q z => exact ⟨_, fun s => exec_unpair s q z, fun s => by simp [State.unpairPlan]⟩
  | setSlot q n v => exact ⟨_, fun s => exec_setSlot s q n v, fun s => by simp [State.setSlotPlan]⟩
  | setStallSlot q z i n =>
    exact ⟨_, fun s => exec_setStallSlot s q z i n, fun s => orderly_onStall z i fun x => by simp [State.stallSlotPlan]⟩
  | readZone q z => exact ⟨_, fun s => exec_readZone s q z, fun s => by simp [State.readZonePlan]⟩
  | readStall q z i => exact ⟨_, fun s => exec_readStall s q z i, fun s => orderly_onStall z i fun _ => orderly_report _⟩
  | readWaitList q => exact ⟨_, fun s => exec_readWaitList s q, fun _ => orderly_report _⟩
  | setWithdrawal q z on =>
    exact ⟨_, fun s => exec_setWithdrawal s q z on, fun s => by split <;> simp [orderly_withdrawalPlan]⟩
  | beginPanelService q p => exact ⟨_, fun s => exec_beginPanelService s q p, fun s => by simp [State.beginServicePlan]⟩
  | endPanelService q p => exact ⟨_, fun s => exec_endPanelService s q p, fun s => by simp [State.endServicePlan]⟩
  | readHook q h => exact ⟨_, fun s => exec_readHook s q h, fun _ => orderly_readHookPlan h⟩
  | setLeadTime q z n => exact ⟨_, fun s => exec_setLeadTime s q z n, fun s => by simp [State.setLeadPlan]⟩
  | readLeadTimes q => exact ⟨_, fun s => exec_readLeadTimes s q, fun _ => orderly_report _⟩
  | readQueue q start => exact ⟨_, fun s => exec_readQueue s q start, fun _ => orderly_readQueuePlan start⟩
  | readRoster q => exact ⟨_, fun s => exec_readRoster s q, fun _ => orderly_report _⟩
  | enableBay q b => exact ⟨_, fun s => exec_enableBay s q b, fun s => orderly_onBay b fun x => by simp [enableBayPlan]⟩
  | disableBay q b => exact ⟨_, fun s => exec_disableBay s q b, fun s => orderly_onBay b fun x => by simp [disableBayPlan]⟩
  | setBayFlags q b n => exact ⟨_, fun s => exec_setBayFlags s q b n, fun _ => orderly_bayFlagsPlan b n⟩
  | clearLane q l => exact ⟨_, fun s => exec_clearLane s q l, fun s => by simp [State.clearLanePlan]⟩
  | readKerb q => exact ⟨_, fun s => exec_readKerb s q, fun _ => orderly_report _⟩
  | captureSite q site0 site1 =>
    exact ⟨_, fun s => exec_captureSite s q site0 site1, fun _ => orderly_capturePlan site0 site1⟩
  | readStatus q => exact ⟨_, fun s => exec_readStatus s q, fun _ => orderly_report _⟩
  | readAttention q => exact ⟨_, fun s => exec_readAttention s q, fun _ => orderly_report _⟩
  | clearAttention q set => exact ⟨_, fun s => exec_clearAttention s q set, fun _ => orderly_clearAttentionPlan set⟩
  | setAttentionEnables q set m =>
    exact ⟨_, fun s => exec_setAttentionEnables s q set m, fun _ => orderly_enablesPlan set m⟩
  | defineZone q z n =>
    exact ⟨_, fun s => exec_defineZone s q z n, fun s => orderly_layoutCommand (by simp [State.defineZonePlan])⟩
  | defineFixedStall q z i a g =>
    exact ⟨_, fun s => exec_defineFixedStall s q z i a g, fun _ => orderly_layoutCommand (orderly_fixedStallPlan z i a g)⟩
  | definePanel q p =>
    exact ⟨_, fun s => exec_definePanel s q p, fun s => orderly_layoutCommand (by simp [State.definePanelPlan])⟩
  | defineBays q b => exact ⟨_, fun s => exec_defineBays s q b, fun s => orderly_layoutCommand (by simp [defineBaysPlan])⟩
  | freezeLayout q => exact ⟨_, fun s => exec_freezeLayout s q, fun _ => orderly_freezePlan⟩
  | setServiceState q n => exact ⟨_, fun s => exec_setServiceState s q n, fun _ => orderly_setServicePlan n⟩
  | clearSite q v => exact ⟨_, fun s => exec_clearSite s q v, fun _ => orderly_clearSitePlan v⟩
  | setClock q v => exact ⟨_, fun s => exec_setClock s q v, fun _ => orderly_of_done rfl fun _ => .of_same rfl rfl⟩
  | setChainMask q m => exact ⟨_, fun s => exec_setChainMask s q m, fun _ => by simp [chainMaskPlan]⟩
  | restart q v =>
    have hv : v ≠ 0x5A3C := fun hv => hrestart q (hv ▸ rfl)
    exact ⟨_, fun s => exec_restart_unconfirmed hv s q, fun _ => orderly_refuse _⟩

/-! ### The response (R157, R159) -/

/-- A taken plan leaves a response under its header, with the service state and the line as the event has left them. -/
theorem response_of_answeredBy {c : Instr} {h : Nat × Nat} (hc : AnsweredBy c h) (hrun : s.running = true) :
    ∃ t r, exec c s = .next t ∧ t.lk.response = some r ∧ r.answered = some h ∧ r.service = t.sa.state ∧
      r.line = t.sa.line := by
  obtain ⟨plan, hexec, -⟩ := hc
  refine ⟨_, _, by rw [hexec, deskCommand, hrun, if_pos rfl], rfl, rfl, rfl, rfl⟩

/-- A refused plan leaves its response and nothing else. -/
theorem exec_of_refused {c : Instr} {h : Nat × Nat} {t : State} {r : Response} (hc : AnsweredBy c h)
    (hrun : s.running = true) (hexec : exec c s = .next t) (hr : t.lk.response = some r) (hne : r.answer ≠ .done) :
    t = { s.begin with lk := { s.lk with response := some r } } := by
  obtain ⟨plan, hplan, horderly⟩ := hc
  have hanswer : r.answer = (plan s).answer := by
    rw [hplan, deskCommand, hrun, if_pos rfl] at hexec
    obtain rfl := Host.Outcome.next.inj hexec
    obtain rfl := Option.some.inj hr
    rfl
  rw [hplan, deskCommand_idle ((horderly s).idle (hanswer ▸ hne)), hrun, if_pos rfl] at hexec
  obtain rfl := Host.Outcome.next.inj hexec
  obtain rfl := Option.some.inj hr
  rfl

/-- The frames of a grant leave the response slot (R153, R157). -/
theorem grant_response (q : State) (r : Record) (st : StallId) (fallback : Bool) :
    (q.grant r st fallback).lk.response = q.lk.response := by
  have hannounce (p : State) : (p.announceGrant r st).lk.response = p.lk.response := by
    unfold State.announceGrant
    exact foldl_leaves _ (fun x : State => x.lk.response) _ (fun x a => by simp) _
  rw [grant_eq, hannounce]
  simp

theorem beginRecovery_lk (q : State) : q.beginRecovery.lk = q.lk := by
  unfold State.beginRecovery
  repeat' split
  all_goals rfl

/-- The warm restart leaves the response slot empty, its serving pass included (R170, R184). -/
theorem warmRestart_response (s : State) : s.warmRestart.lk.response = none := by
  have hrestarted : s.restarted.lk.response = none := by
    rw [State.restarted, beginRecovery_lk]
    rfl
  have hpass : s.restarted.servePass.lk.response = none :=
    serveList_induction (P := fun q => q.lk.response = none) hrestarted fun q r st fallback _ _ h =>
      (grant_response q r st fallback).trans h
  have hif : (if restartServes s s.restarted then s.restarted.servePass else s.restarted).lk.response = none := by
    split
    · exact hpass
    · exact hrestarted
  exact hif

/-- Settles O5: every desk command is an orderly plan under its header, and a RESTART that is taken leaves no response. -/
theorem deskCommandsAreAnsweredAndRefusalsChangeNothing : Obligations.DeskCommandsAreAnsweredAndRefusalsChangeNothing := by
  refine ⟨fun c s h hrun hc hrestart => response_of_answeredBy (answeredBy_of_deskHeader hc hrestart) hrun,
    fun c s t h r hrun hc hexec hr hne => ?_⟩
  by_cases hrestart : ∃ q, c = .restart q 0x5A3C
  · obtain ⟨q, rfl⟩ := hrestart
    have htaken : exec (.restart q 0x5A3C) s = .next s.begin.warmRestart := congrArg Host.Outcome.next (if_pos hrun)
    obtain rfl := Host.Outcome.next.inj (htaken.symm.trans hexec)
    simp [warmRestart_response] at hr
  · exact exec_of_refused (answeredBy_of_deskHeader hc (not_exists.mp hrestart)) hrun hexec hr hne

end Sys2Proof.Machine
end

section
/-! Every step keeps the attention causes (O54): the desk commands and the handset messages by their plans, then the reports, the
timers, the lines and the restarts. -/

namespace Sys2Proof.Machine

open Sys2Proof.Safety

variable {sa : Service} {q : State}

/-! ### The messages of a panel (R71 to R74) -/

/-- A key that does not belong raises KEY_MISHUNG (R73). -/
@[simp] theorem Service.Keeps.mishung (h : sa.Keeps q.sa) (hook tag : Nat) : sa.Keeps (q.mishung hook tag).sa := by
  simp [State.mishung, h]

theorem Service.Keeps.loadHook (h : sa.Keeps q.sa) (hook tag : Nat) : sa.Keeps (q.loadHook hook tag).sa := by
  unfold State.loadHook
  split
  · exact h
  · split
    · exact h
    · exact h
    · exact h
    · exact h.mishung _ _
    · split <;> simp [h]
    · split <;> simp [h]

theorem Service.Keeps.emptyHook (h : sa.Keeps q.sa) (hook : Nat) (latched : Bool) :
    sa.Keeps (q.emptyHook hook latched).sa := by
  unfold State.emptyHook
  split
  · exact h
  · split
    · simp [h]
    · split <;> simp [h]
    · split <;> simp [h]
    · exact h

theorem State.confirmLatch_sa (s : State) (h : Nat) (p : Latch) : (s.confirmLatch h p).sa = s.sa := by
  unfold State.confirmLatch
  dsimp only
  split
  · rfl
  · split
    · split
      · split <;> simp
      · simp
    · rfl

/-! ### The timers (R58, R71, R77, R84, R120, R140, R141) -/

theorem State.resendLatch_sa (s : State) (h : Nat) : (s.resendLatch h).sa = s.sa := by
  unfold State.resendLatch
  split <;> simp

theorem State.expireWindow_sa (s : State) (h : Nat) : (s.expireWindow h).sa = s.sa := by
  unfold State.expireWindow
  split
  · rfl
  · split
    · split <;> simp
    · simp
    · simp

theorem Service.Keeps.silence (h : sa.Keeps q.sa) (z : Nat) : sa.Keeps (q.silence z).sa := by simp [State.silence, h]

theorem Service.Keeps.warnKey (h : sa.Keeps q.sa) (hook : Nat) : sa.Keeps (q.warnKey hook).sa := by
  unfold State.warnKey
  dsimp only
  split
  · exact h
  · split
    · simp [h]
    · split <;> simp [h]

theorem Service.Keeps.overdueKey (h : sa.Keeps q.sa) (hook : Nat) : sa.Keeps (q.overdueKey hook).sa := by
  unfold State.overdueKey
  dsimp only
  split
  · exact h
  · split <;> simp [h]

theorem Service.Keeps.lateInbound (h : sa.Keeps q.sa) (t : Nat) : sa.Keeps (q.lateInbound t).sa := by
  simp [State.lateInbound, h]

theorem Service.Keeps.ackTimeout (h : sa.Keeps q.sa) (a : Nat) : sa.Keeps (q.ackTimeout a).sa := by
  unfold State.ackTimeout
  dsimp only
  split <;> simp [h]

theorem Service.Keeps.expireDwell (h : sa.Keeps q.sa) (b : Nat) : sa.Keeps (q.expireDwell b).sa := by
  unfold State.expireDwell
  dsimp only
  split <;> simp [h]

theorem Service.Keeps.driveOff (h : sa.Keeps q.sa) (b : Nat) : sa.Keeps (q.driveOff b).sa := by
  unfold State.driveOff
  dsimp only
  split
  · simp [h]
  · split <;> simp [h]

/-- A second counts every timer and neither latches nor clears (R180). -/
theorem Service.Keeps.tickSecond (h : sa.Keeps q.sa) : sa.Keeps q.tickSecond.sa := h.trans (.of_same rfl rfl)

/-! ### Zone reports (R60 to R66, R186) -/

theorem Service.Keeps.heldVacant (h : sa.Keeps q.sa) (z i : Nat) (x : Stall) (t : Nat) :
    sa.Keeps (q.heldVacant z i x t).sa := by
  have hseen : sa.Keeps (q.seenVacant z i).sa := h
  rw [heldVacant_eq]
  split
  · split <;> simp [hseen]
  · exact hseen

theorem Service.Keeps.takeStall (h : sa.Keeps q.sa) (z : Nat) (occupied : BitVec 96) (i : Nat) :
    sa.Keeps (State.takeStall z occupied q i).sa := by
  unfold State.takeStall
  split
  · exact h
  · split
    · simp [heldOccupied_eq, State.seenOccupied, h]
    · exact h.heldVacant _ _ _ _
    · unfold State.freeOccupied
      dsimp only
      split <;> simp [h]
    · simp [State.freeVacant, h]

theorem Service.Keeps.takeReport (h : sa.Keeps q.sa) (z : Nat) (occupied : BitVec 96) :
    sa.Keeps (q.takeReport z occupied).sa := by
  have hheard : sa.Keeps (q.hearZone z).sa := by simpa [State.hearZone] using h
  exact List.foldlRecOn (motive := fun p : State => sa.Keeps p.sa) _ (State.takeStall z occupied) hheard
    fun _ hp i _ => hp.takeStall z occupied i

theorem Service.Keeps.endRecovery (h : sa.Keeps q.sa) : sa.Keeps q.endRecovery.sa := h.trans (.of_same rfl rfl)

theorem Service.Keeps.heardInRecovery (h : sa.Keeps q.sa) (z : Nat) : sa.Keeps (q.heardInRecovery z).sa := by
  unfold State.heardInRecovery
  split
  · exact h
  · dsimp only
    split
    · exact h.endRecovery
    · exact h.trans (.of_same rfl rfl)

/-! ### Restarts (R169, R184) -/

theorem Service.Keeps.beginRecovery (h : sa.Keeps q.sa) : sa.Keeps q.beginRecovery.sa := by
  unfold State.beginRecovery
  split
  · exact h
  · split
    · exact h.endRecovery
    · exact h.trans (.of_same rfl rfl)

theorem Service.Keeps.warmRestart (h : sa.Keeps q.sa) : sa.Keeps q.warmRestart.sa := by
  have hreset : sa.Keeps ((q.volatileReset.reconcile q.jq.entries).rebuild.restartCustodies).sa :=
    h.trans (keeps_restart q.sa)
  have hrestarted : sa.Keeps q.restarted.sa := hreset.beginRecovery
  have hpass : sa.Keeps (if restartServes q q.restarted then q.restarted.servePass else q.restarted).sa := by
    split
    · exact hrestarted.servePass
    · exact hrestarted
  exact hpass

/-! ### The ports and the events -/

/-- The state an outcome answers, if any, has sound attention causes where `s` has. -/
def AttentionKept (s : State) (o : Host.Outcome State Fault Refusal) : Prop := ∀ t, o = .next t → s.sa.Keeps t.sa

variable {s : State} {c : Instr}

theorem attentionKept_next {t : State} (h : s.sa.Keeps t.sa) : AttentionKept s (.next t) := by
  rintro p ⟨⟩; exact h

theorem attentionKept_answered {h : Nat × Nat} (hc : AnsweredBy c h) : AttentionKept s (exec c s) := by
  obtain ⟨plan, hexec, horderly⟩ := hc
  rw [hexec]
  refine attentionKept_next ?_
  split
  · exact ((horderly s).keeps s.begin).finish
  · exact .refl _

/-- A RESTART that is taken is the warm restart (R183). -/
theorem attentionKept_restart (n : Nat) : AttentionKept s (exec (.restart n 0x5A3C) s) := by
  refine attentionKept_next ?_
  split
  · exact (Service.Keeps.refl s.begin.sa).warmRestart
  · exact .refl _

theorem attentionKept_desk {h : Nat × Nat} (hc : deskHeader c = some h) : AttentionKept s (exec c s) := by
  by_cases hrestart : ∃ n, c = .restart n 0x5A3C
  · obtain ⟨n, rfl⟩ := hrestart
    exact attentionKept_restart n
  · exact attentionKept_answered (answeredBy_of_deskHeader hc (not_exists.mp hrestart))

theorem attentionKept_handset {h : Handset} {k : Nat} {ticket : Option Nat} {plan : State → Plan}
    (horderly : (plan s).Orderly) : AttentionKept s (handsetMessage h k ticket plan s) := by
  refine attentionKept_next ?_
  split
  · have hsent : s.sa.Keeps (s.begin.sendResult h k (plan s).answer (ticket <|> (plan s).issued) (plan s).fields).sa := by
      simp [State.sendResult]
    exact (hsent.trans (horderly.keeps _)).finish
  · exact .refl _

theorem attentionKept_message {h : Handset} {k : Nat} (hc : handsetHeader c = some (h, k)) : AttentionKept s (exec c s) := by
  obtain ⟨ticket, plan, hexec, horderly⟩ := exec_orderly_of_handsetHeader hc
  rw [hexec]
  exact attentionKept_handset (horderly s)

theorem attentionKept_event {occurs : State → Bool} {f : State → State} (hf : ∀ q : State, q.sa.Keeps (f q).sa) :
    AttentionKept s (event occurs f s) := by
  refine attentionKept_next ?_
  split
  · exact (hf s.begin).finish
  · exact .refl _

/-- An event that does not write the attention unit; an input's level stands whether or not it is taken (R130, R134). -/
theorem attentionKept_event_same {occurs : State → Bool} {f : State → State} {p : State} (hp : p.sa = s.sa)
    (hf : ∀ q : State, (f q).sa = q.sa) : AttentionKept s (event occurs f p) := fun t ht =>
  hp ▸ attentionKept_event (s := p) (fun q => by rw [hf]; exact .refl _) t ht

/-! ### Commands on their own -/

theorem attentionKept_unknownCommand (n code : Nat) : AttentionKept s (execDeskUnknownCommand n code s) := by
  unfold execDeskUnknownCommand
  split
  · exact attentionKept_next (.refl _)
  · rw [deskCommand_idle rfl]
    exact attentionKept_next (by split <;> exact .refl _)

theorem attentionKept_unknownKind (h : Handset) (kind : Nat) : AttentionKept s (execHandsetUnknownKind h kind s) := by
  unfold execHandsetUnknownKind
  split
  · exact attentionKept_next (.refl _)
  · exact attentionKept_handset (orderly_refuse _)

theorem attentionKept_zoneReport (z : Nat) (occupied : BitVec 96) (check : Nat) :
    AttentionKept s (exec (.zoneReport z occupied check) s) := by
  rw [exec_zoneReport]
  refine attentionKept_next ?_
  split
  · exact (((Service.Keeps.refl s.begin.sa).takeReport z occupied).finish).heardInRecovery z
  · exact .refl _

theorem attentionKept_elapsedSecond : AttentionKept s (exec .elapsedSecond s) := by
  refine attentionKept_next ?_
  split
  · exact ((Service.Keeps.refl s.begin.sa).tickSecond).finish
  · split
    · exact .refl _
    · exact .of_same rfl rfl

/-- At a power-on no cause is latched (R183). -/
theorem Service.Keeps.applyPower (sa : Service) (s : State) (backup : Bool) : sa.Keeps (s.applyPower backup).sa :=
  fun _ => sound_powerOn

theorem attentionKept_mainSupplyReturn : AttentionKept s (exec .mainSupplyReturn s) := by
  refine attentionKept_next ?_
  split
  · exact .applyPower s.sa s _
  · dsimp only
    split
    · exact .refl _
    · exact (Service.Keeps.refl (s.setPower true s.pw.backup s.pw.resetAsserted).sa).warmRestart

theorem attentionKept_resetNReleased : AttentionKept s (exec .resetNReleased s) := by
  refine attentionKept_next ?_
  split
  · exact (Service.Keeps.refl (s.setPower s.pw.main s.pw.backup false).sa).warmRestart
  · exact .refl _

/-! ### Every command -/

theorem exec_attentionKept (c : Instr) : AttentionKept s (exec c s) := by
  cases c with
  | hold | resolveStored | resolveMoveTo | resolveWaiting | retire | getRecord | amend | findPlate | findFolio | list |
    setParkLimit | enableStall | disableStall | openZone | closeZone | setZoneFlags | setPreference | setPair | unpair |
    setSlot | setStallSlot | readZone | readStall | readWaitList | setSilenceTime | setWithdrawal | setWindowTime |
    setCustodyLimit | beginPanelService | endPanelService | readHook | setLeadTime | readLeadTimes | readQueue | setAckTime
    | readRoster | enableBay | disableBay | setBayFlags | setDwellTime | clearLane | readKerb | captureSite | readStatus |
    readAttention | clearAttention | setAttentionEnables | defineZone | defineFixedStall | definePanel | defineBays |
    freezeLayout | setServiceState | clearSite | setClock | setChainMask | restart =>
    exact attentionKept_desk rfl
  | signOn | signOff | takeBreak | ready | parked | ack | decline | abandon | keyAgain | staged | repark =>
    exact attentionKept_message rfl
  | accept port | handover port | call port | cancelCall port =>
    cases port with
    | desk => exact attentionKept_desk rfl
    | handset => exact attentionKept_message rfl
  | deskBadFrame => exact attentionKept_next (by split <;> exact .refl _)
  | deskUnknownCommand => exact attentionKept_unknownCommand _ _
  | deskIgnoredTransaction | handsetFrameDropped | cabinetMessageDropped => exact attentionKept_next (.refl _)
  | handsetUnknownKind => exact attentionKept_unknownKind _ _
  | handsetFrameSent => rw [exec_handsetFrameSent]; exact attentionKept_event_same rfl fun _ => rfl
  | zoneReport => exact attentionKept_zoneReport _ _ _
  | silenceTimerExpiry z => rw [exec_silenceTimerExpiry]; exact attentionKept_event fun q => (Service.Keeps.refl q.sa).silence z
  | hookLoaded => rw [exec_hookLoaded]; exact attentionKept_event fun q => (Service.Keeps.refl q.sa).loadHook _ _
  | hookEmptied => rw [exec_hookEmptied]; exact attentionKept_event fun q => (Service.Keeps.refl q.sa).emptyHook _ _
  | latchDone => rw [exec_latchDone]; exact attentionKept_event_same rfl fun q => q.confirmLatch_sa _ _
  | latchRepeat => rw [exec_latchRepeat]; exact attentionKept_event_same rfl fun q => q.resendLatch_sa _
  | windowTimerExpiry => rw [exec_windowTimerExpiry]; exact attentionKept_event_same rfl fun q => q.expireWindow_sa _
  | keyWarningPoint k => rw [exec_keyWarningPoint]; exact attentionKept_event fun q => (Service.Keeps.refl q.sa).warnKey k
  | custodyLimitReached k =>
    rw [exec_custodyLimitReached]; exact attentionKept_event fun q => (Service.Keeps.refl q.sa).overdueKey k
  | parkLimitReached t => rw [exec_parkLimitReached]; exact attentionKept_event fun q => (Service.Keeps.refl q.sa).lateInbound t
  | ackTimerExpiry a => rw [exec_ackTimerExpiry]; exact attentionKept_event fun q => (Service.Keeps.refl q.sa).ackTimeout a
  | dwellTimerExpiry b => rw [exec_dwellTimerExpiry]; exact attentionKept_event fun q => (Service.Keeps.refl q.sa).expireDwell b
  | driveOffTimerExpiry b =>
    rw [exec_driveOffTimerExpiry]; exact attentionKept_event fun q => (Service.Keeps.refl q.sa).driveOff b
  | recoveryTimerExpiry =>
    rw [exec_recoveryTimerExpiry]; exact attentionKept_event fun q => (Service.Keeps.refl q.sa).endRecovery
  | elapsedSecond => exact attentionKept_elapsedSecond
  | laneLoopChange => rw [exec_laneLoopChange]; exact attentionKept_event_same rfl fun _ => rfl
  | bayLoopChange => rw [exec_bayLoopChange]; exact attentionKept_event_same rfl fun _ => rfl
  | chainLoad => rw [exec_chainLoad]; exact attentionKept_event_same rfl fun q => by simp [State.loadPermits]
  | chainClkRisingEdge => rw [exec_chainClkRisingEdge]; exact attentionKept_event_same rfl fun _ => rfl
  | powerOn b => exact attentionKept_next (.applyPower s.sa s b)
  | mainSupplyReturn => exact attentionKept_mainSupplyReturn
  | mainSupplyLost | resetNAsserted | backupSupplyLost => exact attentionKept_next (.refl _)
  | resetNReleased => exact attentionKept_resetNReleased

/-- Settles O54: a step takes the front command, and every command keeps the causes. -/
theorem everyStepKeepsTheAttentionCauses : Obligations.EveryStepKeepsTheAttentionCauses := by
  intro s t hsound hstep
  unfold step at hstep
  split at hstep
  · cases hstep
    exact hsound
  next c rest _ =>
    have hkept := exec_attentionKept (s := { s with pending := rest }) c t hstep
    exact (attentionSound_iff t).mpr (hkept ((attentionSound_iff s).mp hsound))

end Sys2Proof.Machine
end
